-- ==== Sys2Proof/Word.lean ====
section
/-!
DEFINITION. Word.lean: the register word, the byte, and the shapes of a register table: a field, its access code (R7), its range
rule, a register row.
-/

namespace Sys2Proof

/-- A 32-bit register or memory word. -/
abbrev Word := BitVec 32
/-- The smallest addressable unit of the memory windows (R43, R44). -/
abbrev Byte := BitVec 8

namespace Machine

/-- One field of a register: the word's internal byte address and the bit range `[hi:lo]`. -/
structure Fld where
  addr : Nat
  hi : Nat
  lo : Nat
  deriving DecidableEq, Repr

/-- The access codes of R7. -/
inductive Acc where
  | rw | ro | w1c | w1s | wo | rwl | rws
  deriving DecidableEq, Repr

/-- What a written value outside the stated range of a field does. `any`: every code is taken.
`clamp a b`: the value is clamped to the nearest limit and the clamped value reads back (R90 and the rules like it).
`codes m`: a code above `m` is reserved: the field keeps its previous value and the page reports CFG_RANGE (R90). -/
inductive Rng where
  | any
  | clamp (a b : Nat)
  | codes (m : Nat)
  deriving DecidableEq, Repr

/-- A named field in a register row. -/
structure FRow where
  hi : Nat
  lo : Nat
  acc : Acc
  rng : Rng
  deriving DecidableEq, Repr

/-- A row of a register table: first offset in the page, how many registers the row stands for and their stride,
the reset word, and the named fields. -/
structure RRow where
  off : Nat
  count : Nat
  stride : Nat
  reset : Nat
  fields : List FRow
  deriving DecidableEq, Repr

end Machine
end Sys2Proof
end

