-- ==== Sys2Proof/Syntax.lean ====
section
/-!
DEFINITION. Syntax.lean: the commands of the block, one constructor for each row of spec/opcode_table.json. Every command carries its time `t`
in timebase units; a register command carries the initiator that sends it (R42); an event command carries what the device measures or meets.
-/

namespace Sys2Proof
namespace Machine

/-- Who sends a register access (R42): SUP, the two application cores, the host port, the fabric. -/
inductive Initiator where
  | sup | app0 | app1 | host | fab
  deriving DecidableEq, Repr, Inhabited

/-- A frame as a link receives it (R400, R402): whether its framing holds, the CRC that came, the words from the link header through the frame
tag, the number of its SOF, whether its frame tag verifies, and whether each beacon tag it carries does. -/
structure LinkFrame where
  framing : Bool
  crc : BitVec 16
  words : List Word
  seq : Nat
  tagOk : Bool
  btagsOk : List Bool
  deriving DecidableEq, Repr, Inhabited

/-- A write by another initiator that is granted between two words of a host burst (R71): before word `word` of the burst. -/
structure Grant where
  word : Nat
  who : Initiator
  addr : Nat
  v : Word
  deriving DecidableEq, Repr, Inhabited

/-- A W1C write: the bits it clears, and those whose setting by hardware it meets (R53). -/
structure Clearing where
  v : Word
  met : Word
  deriving DecidableEq, Repr, Inhabited

/-- What a host read meets: an error of the memory (1 one that is corrected, 2 one that is not), and writes granted between its words (R71). -/
structure Reading where
  err : Fin 3
  met : List Grant
  deriving DecidableEq, Repr, Inhabited

/-- The words of a host write, and the writes granted between them (R71). -/
structure Burst where
  data : List Word
  met : List Grant
  deriving DecidableEq, Repr, Inhabited

/-- What a read had reached when it was aborted: the words fetched, and whether its wait had reached the limit (R67, R69). -/
structure Reached where
  k : Fin 257
  late : Bool
  deriving DecidableEq, Repr, Inhabited

/-- Upsets that the tooth of a confirmed edge meets: of the shadow tracker (R124), of a dune entry (R152: 1 the re-read passes, 2 it fails). -/
structure Upsets where
  up : Bool
  par : Fin 3
  deriving DecidableEq, Repr, Inhabited

/-- A crossing at the standstill comparator (R94, R530): when, and whether it is negative-going. -/
structure Crossing where
  t : Nat
  neg : Bool
  deriving DecidableEq, Repr, Inhabited

end Machine

/-- A command of the block. -/
inductive Instr where
  /-- PRESET_WRITE (R10): A write of a PRESET field loads every expert field of the function with the preset values and makes MODE read the preset code. -/
  | presetWrite (t : Nat) (who : Machine.Initiator) (a : Nat) (code : Fin 16)
  /-- PRESET_ALL (R13): A write of PCTL.PRESET_ALL applies every default preset of the page in one handshake. -/
  | presetAll (t : Nat) (who : Machine.Initiator) (page : Fin 256)
  /-- REGISTER_WRITE (R55): A write to a register that has no row of its own is checked against PACC and PLOCK, then applied field by field. -/
  | registerWrite (t : Nat) (who : Machine.Initiator) (a : Nat) (v : Word)
  /-- WINDOW_WRITE (R44): A write to a memory window is checked against its owner page's PACC and the block's own restrictions, and increments the
owner's PGEN. -/
  | windowWrite (t : Nat) (who : Machine.Initiator) (a : Nat) (size : Nat) (v : Word)
  /-- ENABLE_WRITE (R48): A write of PCTL.ENABLE enables a block or ends its outputs with their safe-end actions and stops new work. -/
  | enableWrite (t : Nat) (who : Machine.Initiator) (page : Fin 256) (on : Bool)
  /-- FREEZE_WRITE (R50): A write of PCTL.FREEZE halts or releases a block for debug, refused outside CONFIG, SERVICE or a debug halt. -/
  | freezeWrite (t : Nat) (who : Machine.Initiator) (page : Fin 256) (on : Bool)
  /-- BLOCK_RESTART (R51): A write of 1 to PCTL.RESTART starts a block restart: safe end, handshakes completed or refused, registers to reset values. -/
  | blockRestart (t : Nat) (who : Machine.Initiator) (page : Fin 256)
  /-- BLOCK_RESTART_DONE (R51): A running block restart completes and RESTARTING and RESTART return to 0. -/
  | blockRestartDone (t : Nat) (page : Fin 256)
  /-- SHDW_HOLD_WRITE (R60): A write of PCTL.SHDW_HOLD holds pending RWS writes, or releases them to the next commit point. -/
  | shdwHoldWrite (t : Nat) (who : Machine.Initiator) (page : Fin 256) (on : Bool)
  /-- PIFRC_WRITE (R46): A write of PIFRC sets the same bits of PIRQ. -/
  | pifrcWrite (t : Nat) (who : Machine.Initiator) (page : Fin 256) (v : Word)
  /-- PIRQ_CLEAR (R53): A W1C write of PIRQ clears interrupt status bits, a simultaneous hardware set winning. -/
  | pirqClear (t : Nat) (who : Machine.Initiator) (page : Fin 256) (v : Machine.Clearing)
  /-- PLOCK_WRITE (R57): A write of PLOCK advances the two-key unlock sequence or locks the page. -/
  | plockWrite (t : Nat) (who : Machine.Initiator) (page : Fin 256) (v : Word)
  /-- HOST_READ (R65): A host READ transaction is checked for CRC, OPC and address, its words read in ascending address, and the response sent. -/
  | hostRead (t : Nat) (cmd : Word) (addr : Word) (crc : BitVec 16) (r : Machine.Reading)
  /-- HOST_WRITE (R65): A host WRITE transaction is buffered, checked for CRC, OPC and address, and its words applied in ascending address. -/
  | hostWrite (t : Nat) (cmd : Word) (addr : Word) (b : Machine.Burst) (crc : BitVec 16)
  /-- HOST_WAIT_TIMEOUT (R67): A read whose wait reaches WAIT_MAX sends the start nibble, status TIMEOUT and zero data. -/
  | hostWaitTimeout (t : Nat) (cmd : Word) (addr : Word) (crc : BitVec 16) (k : Fin 257)
  /-- HOST_ABORT (R68): HCSn rising before the response ends aborts the transaction and sets HOSTP_STAT.ABORT. -/
  | hostAbort (t : Nat) (cmd : Word) (addr : Word) (data : List Word) (crc : BitVec 16) (after : Bool) (r : Machine.Reached)
  /-- TB_NOW_LO_READ (R29): A read of TB_NOW_LO returns count bits [31:0] and latches bits [63:32] for the reading initiator. -/
  | tbNowLoRead (t : Nat) (who : Machine.Initiator)
  /-- STAGE_METER_WINDOW (R17): At the end of each 10.24 µs window the stage meter writes a stage time and applies pending settings. -/
  | stageMeterWindow (t : Nat) (stage : Nat) (mv : Nat)
  /-- STGM_CLR (R18): A write of SYS_STGM_CTL.CLR resets MIN and MAX at the next window end. -/
  | stgmClr (t : Nat) (who : Machine.Initiator)
  /-- VDDC_UNDERSPEC (R21): VDDC falling below 0.72 V sets UNDERSPEC and reports VDDC_LOW. -/
  | vddcUnderspec (t : Nat) (mv : Nat)
  /-- VDDC_RECOVER (R21): VDDC rising back through a threshold plus hysteresis clears the corresponding condition. -/
  | vddcRecover (t : Nat) (mv : Nat)
  /-- BROWNOUT (R21): VDDC falling through 0.65 V reports BROWNOUT, sets SYS_VMON.BROWNOUT and enters SAFE. -/
  | brownout (t : Nat)
  /-- VDDC_COLLAPSE (R23): VDDC below 0.62 V makes the analog die force all outputs off and the device return through power-on. -/
  | vddcCollapse (t : Nat) (mv : Nat)
  /-- REFERENCE_LOSS (R26): No reference edge within 256 stages declares reference loss, enters holdover and reports REF_LOSS. -/
  | referenceLoss (t : Nat)
  /-- REFERENCE_RELOCK (R26): The calibrator relocks on resumed reference edges and reconciles the count by stepping forward or slewing. -/
  | referenceRelock (t : Nat) (span : BitVec 16)
  /-- SLEW_END (R26): The reference-implied count catches up with the slewed count and SLEW returns to 0. -/
  | slewEnd (t : Nat)
  /-- REFSEL_WRITE (R31): A change of TB_CTL.REFSEL in CONFIG or SERVICE is handled as a loss followed by relock on the new source. -/
  | refselWrite (t : Nat) (who : Machine.Initiator) (v : Fin 2)
  /-- REFSEL_RELOCK_TIMEOUT (R31): A new reference source that has not relocked 10 ms after the change is declared a reference loss. -/
  | refselRelockTimeout (t : Nat)
  /-- EDGE_RELEASE (R32): A placer releases its pending edge at the target time, or at load plus P_SETUP, and the channel acts on it. -/
  | edgeRelease (t : Nat) (chan : Fin 104) (cur : Nat)
  /-- PLACER_HANDOVER (R198): A committed edge held at the Caravan for a full hand-over queue is handed to the placer when an entry frees. -/
  | placerHandover (t : Nat) (chan : Fin 104)
  /-- WHEEL_TRANSITION (R79): A comparator transition at a wheel input is timestamped and enters the glitch filter. -/
  | wheelTransition (t : Nat) (n : Fin 8) (pin : Bool) (peak : Nat) (frac : Fin 65536)
  /-- WHEEL_EDGE_CONFIRM (R80): The glitch filter confirms a transition, which is qualified and, when accepted, runs the tooth path through tracker,
predictor and lead set. -/
  | wheelEdgeConfirm (t : Nat) (n : Fin 8) (dip : Nat) (u : Machine.Upsets) (cur : Nat)
  /-- PWDIR_CLASSIFY (R77): A PWDIR pulse is classified at its trailing edge or when its width passes PW_THR and its tooth delivered. -/
  | pwdirClassify (t : Nat) (n : Fin 8) (up : Bool) (par : Fin 3) (cur : Nat)
  /-- HOLDING_QUEUE_DELIVER (R86): Edges held while the tracker was frozen or restarting are delivered in timestamp order when it resumes. -/
  | holdingQueueDeliver (t : Nat) (k : Fin 2)
  /-- WHL_COMMIT_TIMEOUT (R89): Pending WHL RWS writes commit when no edge has been accepted for 10 ms. -/
  | whlCommitTimeout (t : Nat) (n : Fin 8)
  /-- WHL_OPEN (R93): A DC differential voltage above 0.60 V for 50 ms sets SENS_OPEN and reports WHL_OPEN. -/
  | whlOpen (t : Nat) (n : Fin 8)
  /-- WHL_SHORT (R93): A common-mode voltage near a rail for 50 ms sets SENS_SHORT and reports WHL_SHORT. -/
  | whlShort (t : Nat) (n : Fin 8)
  /-- SENSOR_CLEAR (R93): A sensor condition absent for 50 ms returns its status bit to 0. -/
  | sensorClear (t : Nat) (n : Fin 8) (short : Bool)
  /-- WHL_LAST_LO_READ (R92): A read of WHL_LAST_LO latches WHL_LAST_HI and WHL_RATIO for the reading initiator. -/
  | whlLastLoRead (t : Nat) (who : Machine.Initiator) (n : Fin 8)
  /-- WHL_CLR (R92): A write of WHL_CLR.CNT sets the wheel counters to 0. -/
  | whlClr (t : Nat) (who : Machine.Initiator) (n : Fin 8)
  /-- ANG_ENABLE (R99): Enabling an ANG page validates bindings and tooth tables and, on success, binds the wheels and enters NOSYNC. -/
  | angEnable (t : Nat) (who : Machine.Initiator) (k : Fin 2)
  /-- GAP_NOTFOUND (R108): 2 × N_rev primary edges in GAPSEARCH without finding the gap report GAP_NOTFOUND once. -/
  | gapNotfound (t : Nat) (k : Fin 2)
  /-- PHASE_UNKNOWN (R113): PHASE_TO revolutions in PRESYNC report PHASE_UNKNOWN and may enter LIMP_CRANK with the guessed phase. -/
  | phaseUnknown (t : Nat) (k : Fin 2)
  /-- CAM_LOST (R112): CAM_LOSS_CYC cycles without a cam edge clear CAM_OK and may enter LIMP_CRANK or drop synchronisation. -/
  | camLost (t : Nat) (k : Fin 2) (c : Fin 3)
  /-- PRIM_LOST (R114): No primary edge within CRANK_LOSS × p loses the primary and fails over, enters LIMP_CAM or drops synchronisation. -/
  | primLost (t : Nat) (k : Fin 2) (cur : Nat)
  /-- STALL (R116): No accepted edge on any bound wheel within STALL_T freezes the angle and enters STALLED. -/
  | stall (t : Nat) (k : Fin 2)
  /-- SW_DROP (R117): A write of ANG_CTL.SYNC_DROP drops synchronisation with cause SW_DROP. -/
  | swDrop (t : Nat) (who : Machine.Initiator) (k : Fin 2)
  /-- REACQ (R117): A write of ANG_CTL.REACQ clears WAIT_REACQ so acquisition can restart. -/
  | reacq (t : Nat) (who : Machine.Initiator) (k : Fin 2)
  /-- ANG_CLR (R128): A write of ANG_CTL.CLR sets the ANG counters to 0. -/
  | angClr (t : Nat) (who : Machine.Initiator) (k : Fin 2)
  /-- ANG_POS_READ (R128): A read of ANG_POS latches ANG_TANGLE and ANG_CYC for the reading initiator. -/
  | angPosRead (t : Nat) (who : Machine.Initiator) (k : Fin 2)
  /-- HOLD_LIMIT (R141): The model angle reaching θ_hold freezes the reported angle and sets HELD. -/
  | holdLimit (t : Nat) (k : Fin 2)
  /-- PRED_ANGLE_READ (R140): A read of PRED_ANGLE returns the model angle at that handshake and latches its time. -/
  | predAngleRead (t : Nat) (who : Machine.Initiator) (k : Fin 2)
  /-- PRED_TK_LO_READ (R156): A read of PRED_TK_LO latches the model registers for the reading initiator. -/
  | predTkLoRead (t : Nat) (who : Machine.Initiator) (k : Fin 2)
  /-- DUNE_RESET (R156): A write of PRED_CTL.DUNE_RESET sets every RATIO to 0x8000 and CNT to 0. -/
  | duneReset (t : Nat) (who : Machine.Initiator) (k : Fin 2)
  /-- PRED_CLR (R156): A write of PRED_CTL.CLR sets the prediction counters to 0. -/
  | predClr (t : Nat) (who : Machine.Initiator) (k : Fin 2)
  /-- DUNE_PROFILE_WRITE (R146): A write to the dune profile is permitted or denied by LEARN and updates the normaliser. -/
  | duneProfileWrite (t : Nat) (who : Machine.Initiator) (k : Fin 2) (entry : Fin 512) (w : Fin 2) (v : Word)
  /-- ARM_RING_ENTRY (R163): The Caravan takes an arm request at TAIL of an enabled arm ring, processes it and writes back its status. -/
  | armRingEntry (t : Nat) (r : Fin 8) (err : Fin 3)
  /-- DIRECT_ARM_SUBMIT (R164): A write of CARV_DARM_W3 submits the initiator's four request words. -/
  | directArmSubmit (t : Nat) (who : Machine.Initiator) (w3 : Word)
  /-- ARM_RING_RESUME (R167): A ring stalled for lack of a slot resumes when a slot becomes available to it. -/
  | armRingResume (t : Nat) (r : Fin 8)
  /-- LEAD_COMMIT (R176): A lead slot whose projected time enters the commit window hands its edge to the channel's placer. -/
  | leadCommit (t : Nat) (slot : Fin 256)
  /-- CANCEL (R187): A write of CARV_CANCEL cancels the named slot according to its state and TAG. -/
  | cancel (t : Nat) (who : Machine.Initiator) (w : Word)
  /-- FLUSH0 (R195): A write of CARV_CTL.FLUSH0 flushes the uncommitted one-shots of domain 0. -/
  | flush0 (t : Nat) (who : Machine.Initiator)
  /-- FLUSH1 (R195): A write of CARV_CTL.FLUSH1 flushes the uncommitted one-shots of domain 1. -/
  | flush1 (t : Nat) (who : Machine.Initiator)
  /-- CARV_CLR (R195): A write of CARV_CTL.CLR sets the Caravan counters to 0. -/
  | carvClr (t : Nat) (who : Machine.Initiator)
  /-- CARV_INSP_SEL_WRITE (R195): A write of CARV_INSP_SEL latches the named slot into the inspection registers. -/
  | carvInspSelWrite (t : Nat) (who : Machine.Initiator) (w : Word)
  /-- RESERVATION_WRITE (R166): A write of a ring reservation is applied or, if the sum would exceed 256, discarded and reported. -/
  | reservationWrite (t : Nat) (who : Machine.Initiator) (idx : Fin 4) (w : Word)
  /-- TAP_SEL_WRITE (R205): A write of TAPC_CFGn.SEL switches the pin's source, the pin switching at most once. -/
  | tapSelWrite (t : Nat) (who : Machine.Initiator) (n : Fin 32) (sel : Fin 8)
  /-- TRIG_SW (R211): A write of TRIG_SW emits one pulse on each selected software trigger source. -/
  | trigSw (t : Nat) (who : Machine.Initiator) (mask : Word)
  /-- TRIG_CLR (R211): A write of TRIG_CTL.CLR sets TRIG_OVF to 0. -/
  | trigClr (t : Nat) (who : Machine.Initiator)
  /-- DWELL_MAX (R215): A charge reaching IGN_DWELL.MAX without a spark ends by soft-off. -/
  | dwellMax (t : Nat) (n : Fin 24)
  /-- SOFT_OFF_RISE (R216): IGNSOFT rises SETUP before a scheduled soft-off. -/
  | softOffRise (t : Nat)
  /-- SOFT_OFF_FALL (R216): The soft-off channels' IGNn fall at t_s while IGNSOFT is high. -/
  | softOffFall (t : Nat)
  /-- SOFT_OFF_END (R216): IGNSOFT falls HOLD after the soft-off time. -/
  | softOffEnd (t : Nat)
  /-- IGN_FEEDBACK_EDGE (R219): An IGNnFB edge is timestamped and checked against the charge. -/
  | ignFeedbackEdge (t : Nat) (n : Fin 24) (lvl : Bool)
  /-- IGN_NOCHG (R219): Feedback not asserted by the spark or RISE_MAX reports IGN_NOCHG. -/
  | ignNochg (t : Nat) (n : Fin 24)
  /-- IGN_STUCK (R219): Feedback still asserted FALL_MAX after IGNn fell reports IGN_STUCK. -/
  | ignStuck (t : Nat) (n : Fin 24)
  /-- IGN_UNINH (R223): A write of IGN_CTL.UNINH clears INHIBIT. -/
  | ignUninh (t : Nat) (who : Machine.Initiator) (n : Fin 24)
  /-- IGN_CLR (R223): A write of IGN_CTL.CLR sets the ignition counters to 0. -/
  | ignClr (t : Nat) (who : Machine.Initiator) (n : Fin 24)
  /-- IGN_LAST_LO_READ (R223): A read of IGN_LAST_LO latches the last charge registers for the reading initiator. -/
  | ignLastLoRead (t : Nat) (who : Machine.Initiator) (n : Fin 24)
  /-- BANK_ADMIT (R246): A waiting start is admitted when the conducting channel's profile ends. -/
  | bankAdmit (t : Nat) (b : Fin 12) (cur : Nat)
  /-- START_TOLERANCE (R243): A start not admitted when its tolerance expires takes its late policy. -/
  | startTolerance (t : Nat) (n : Fin 48)
  /-- BANK_WAIT_DROP (R246): A start still waiting at MAX_DELAY is dropped with DRIVE_DROP and reported. -/
  | bankWaitDrop (t : Nat) (n : Fin 48)
  /-- BNR_READY (R251): READY arriving within BNR_WAIT lets a waiting start continue. -/
  | bnrReady (t : Nat) (n : Fin 48) (cur : Nat)
  /-- BNR_WAIT_EXPIRY (R251): A start waiting for boost READY beyond BNR_WAIT is dropped. -/
  | bnrWaitExpiry (t : Nat) (n : Fin 48)
  /-- CURRENT_THRESHOLD (R232): A regulation comparator switching at I_HI or I_LO changes the channel between charging and off-interval or exits the
phase. -/
  | currentThreshold (t : Nat) (n : Fin 48) (hi : Bool)
  /-- FAST_DECAY_END (R232): FD_T elapsing ends a fast-decay off-interval. -/
  | fastDecayEnd (t : Nat) (n : Fin 48) (cur : Nat)
  /-- PHASE_MIN_TIME (R233): T_MIN elapsing lets a phase exit on its condition or TIME. -/
  | phaseMinTime (t : Nat) (n : Fin 48) (cur : Nat)
  /-- DRV_PH_TO (R234): A phase reaching T_MAX exits to the next phase or aborts, reporting DRV_PH_TO. -/
  | drvPhTo (t : Nat) (n : Fin 48) (cur : Nat)
  /-- ARMATURE_DETECT (R239): A decimated current sample completes the dip-and-recovery search and records t_arm. -/
  | armatureDetect (t : Nat) (n : Fin 48) (raws : List Nat)
  /-- DRV_ARM_MISS (R241): AW_END passing without detection sets ARM_MISS and reports it. -/
  | drvArmMiss (t : Nat) (n : Fin 48)
  /-- END_DECAY_END (R236): DECAY_T elapsing ends the profile. -/
  | endDecayEnd (t : Nat) (n : Fin 48) (peak : Nat)
  /-- OFF_MIN_END (R236): OFF_MIN elapsing after profile end makes the channel IDLE. -/
  | offMinEnd (t : Nat) (n : Fin 48) (cur : Nat)
  /-- DRV_ONMAX (R254): On-time reaching ON_MAX sends the channel to end decay. -/
  | drvOnmax (t : Nat) (n : Fin 48)
  /-- DUTY_BUCKET (R255): At each bucket boundary the duty sum is updated and the limit entered or left. -/
  | dutyBucket (t : Nat) (n : Fin 48)
  /-- DRV_OC (R256): The over-current comparator switching turns DRVnG off and may inhibit the channel. -/
  | drvOc (t : Nat) (n : Fin 48)
  /-- DRV_LS_SHORT (R257): Current above OFF_I on a non-conducting channel with the high-side on for 5 µs inhibits it and latches the bank. -/
  | drvLsShort (t : Nat) (n : Fin 48) (code : Nat)
  /-- BANK_HS_SHORT (R257): BKbSW above SW_HI with both high-sides off for 10 µs latches the bank. -/
  | bankHsShort (t : Nat) (b : Fin 12) (vsw : Nat)
  /-- BANK_GND_SHORT (R257): BKbSW below SW_LO 2 µs after a high-side turns on latches the bank. -/
  | bankGndShort (t : Nat) (b : Fin 12) (vsw : Nat)
  /-- DRV_ABORT (R235): A write of DRV_CTL.ABORT ends the command. -/
  | drvAbort (t : Nat) (who : Machine.Initiator) (n : Fin 48) (cur : Nat)
  /-- DRV_UNINH (R258): A write of DRV_CTL.UNINH clears INHIBITED. -/
  | drvUninh (t : Nat) (who : Machine.Initiator) (n : Fin 48)
  /-- DRV_CLR (R268): A write of DRV_CTL.CLR sets the drive counters to 0. -/
  | drvClr (t : Nat) (who : Machine.Initiator) (n : Fin 48)
  /-- DRV_LAST_LO_READ (R268): A read of DRV_LAST_LO latches the last profile registers for the reading initiator. -/
  | drvLastLoRead (t : Nat) (who : Machine.Initiator) (n : Fin 48)
  /-- UNLATCH (R258): A write of BANK_CTL.UNLATCH clears LATCHED. -/
  | unlatch (t : Nat) (who : Machine.Initiator) (b : Fin 12)
  /-- BANK_CLR (R269): A write of BANK_CTL.CLR sets the bank counters to 0. -/
  | bankClr (t : Nat) (who : Machine.Initiator) (b : Fin 12)
  /-- BOOST_MEASURE (R252): Every 1 µs the converter measures VHV and starts or stops switching and updates READY. -/
  | boostMeasure (t : Nat) (k : Fin 2) (vhv : Nat) (vb : Nat)
  /-- BOOST_CYCLE_END (R252): A switching cycle ends after TON and TOFF and commits pending settings. -/
  | boostCycleEnd (t : Nat) (k : Fin 2)
  /-- BST_TIMEOUT (R253): READY at 0 for CHG_TO while switching reports BST_TIMEOUT. -/
  | bstTimeout (t : Nat) (k : Fin 2)
  /-- BST_CLR (R270): A write of BST_CTL.CLR sets the boost counters to 0. -/
  | bstClr (t : Nat) (who : Machine.Initiator) (k : Fin 2)
  /-- PROF_LOAD (R230): A write of PROF_LOAD starts validation of a staged profile. -/
  | profLoad (t : Nat) (who : Machine.Initiator) (p : Fin 16)
  /-- PROF_LOAD_DONE (R230): Validation completes and the profile is copied to the active store or the failure recorded. -/
  | profLoadDone (t : Nat)
  /-- APERTURE_OPEN (R276): A free converter opens the aperture for the selected queued request at its target time. -/
  | apertureOpen (t : Nat) (k : Fin 8)
  /-- CONVERSION_DONE (R274): A conversion completes and its value is passed to its consumer. -/
  | conversionDone (t : Nat) (k : Fin 8) (uv : Int)
  /-- ADC_SW_GO (R275): A write of ADC_SW.GO submits a software conversion request. -/
  | adcSwGo (t : Nat) (who : Machine.Initiator) (k : Fin 8) (inp : Fin 64)
  /-- ADC_SWRES_READ (R298): A read of ADC_SWRES latches the software result's aperture time. -/
  | adcSwresRead (t : Nat) (who : Machine.Initiator) (k : Fin 8)
  /-- ADC_CLR (R298): A write of ADC_CTL.CLR sets the converter counters to 0. -/
  | adcClr (t : Nat) (who : Machine.Initiator) (k : Fin 8)
  /-- RUN_ENABLE_WRITE (R280): A write of SMPL_DOMd_RUN.EN validates descriptors and enables or disables runs. -/
  | runEnableWrite (t : Nat) (who : Machine.Initiator) (k : Fin 2) (w : Word)
  /-- SAMPLE_COMMIT (R282): A run's next sample entering the commit window becomes a TABLE request. -/
  | sampleCommit (t : Nat) (k : Fin 2) (r : Fin 16)
  /-- SMPL_CLR (R299): A write of SMPL_CTL.CLR sets the sampling counters to 0. -/
  | smplClr (t : Nat) (who : Machine.Initiator)
  /-- KNOCK_WINDOW_OPEN (R290): A knock window opens at its committed angle and starts its sample grid. -/
  | knockWindowOpen (t : Nat) (w : Fin 32)
  /-- KNOCK_WINDOW_CLOSE (R294): A knock window closes at its committed angle or on passing, abort or disable. -/
  | knockWindowClose (t : Nat) (c : Fin 8)
  /-- KNK_CLR (R300): A write of KNK_CTL.CLR sets the knock counters to 0. -/
  | knkClr (t : Nat) (who : Machine.Initiator)
  /-- TRIM_UPDATE (R314): A link update passes the Caravan port and moves the uncommitted edges of every slot naming the link. -/
  | trimUpdate (t : Nat)
  /-- CYLINDER_ENABLE_WRITE (R303): A write of CMB_CYLEN validates and allocates or ends cylinders. -/
  | cylinderEnableWrite (t : Nat) (who : Machine.Initiator) (w : Word)
  /-- CMB_INSP_SEL_WRITE (R319): A write of CMB_INSP_SEL latches the cylinder's inspection registers. -/
  | cmbInspSelWrite (t : Nat) (who : Machine.Initiator) (w : Word)
  /-- CMB_CLR (R319): A write of CMB_CTL.CLR sets the combustion counters to 0. -/
  | cmbClr (t : Nat) (who : Machine.Initiator)
  /-- TRIM_ZERO (R320): A write of TRIM_ZERO sets the selected link offsets to 0 and sends them as updates. -/
  | trimZero (t : Nat) (who : Machine.Initiator) (hi : Bool) (w : Word)
  /-- TRIM_CLR (R320): A write of TRIM_CTL.CLR sets every link counter to 0. -/
  | trimClr (t : Nat) (who : Machine.Initiator)
  /-- TIMER_TICK (R323): A timer tick decrements or reloads the count and produces wrap and match events. -/
  | timerTick (t : Nat) (k : Fin 32)
  /-- RELOAD_WRITE (R325): A write of TMR_RELOAD fills the period buffer and may force a wrap. -/
  | reloadWrite (t : Nat) (who : Machine.Initiator) (k : Fin 32) (w : Word)
  /-- COMPARE_WRITE (R326): A write of TMR_COMPARE fills the preload and, in immediate mode, sets the active compare and IMM_RES. -/
  | compareWrite (t : Nat) (who : Machine.Initiator) (k : Fin 32) (w : Word)
  /-- TIMER_RUN (R328): A write of RUN = 1 schedules a stopped channel's start tick. -/
  | timerRun (t : Nat) (who : Machine.Initiator) (k : Fin 32)
  /-- TIMER_STOP (R328): A write of RUN = 0 stops the channel at its next tick decision. -/
  | timerStop (t : Nat) (who : Machine.Initiator) (k : Fin 32)
  /-- TIMER_FWRAP (R328): A write of TMR_CTL.FWRAP makes the next decided tick a forced wrap. -/
  | timerFwrap (t : Nat) (who : Machine.Initiator) (k : Fin 32)
  /-- TIMER_CLR (R338): A write of TMR_CTL.CLR sets the channel counters to 0. -/
  | timerClr (t : Nat) (who : Machine.Initiator) (k : Fin 32)
  /-- START_TICK (R328): At the start tick the prescaler restarts, the count loads and a wrap event occurs. -/
  | startTick (t : Nat) (k : Fin 32)
  /-- TIMER_TRIGGER (R329): A trigger accepted on a timer acts by TRIG_ACT. -/
  | timerTrigger (t : Nat) (k : Fin 32)
  /-- GROUP_START (R333): A write of TMR_GRPg_CTL.START starts the group's members with staggered offsets or is refused. -/
  | groupStart (t : Nat) (who : Machine.Initiator) (g : Fin 8)
  /-- GROUP_STOP (R333): A write of TMR_GRPg_CTL.STOP stops every member at one tick decision. -/
  | groupStop (t : Nat) (who : Machine.Initiator) (g : Fin 8)
  /-- TMR_WRAP_LO_READ (R338): A read of TMR_WRAP_LO latches TMR_WRAP_HI for the reading initiator. -/
  | tmrWrapLoRead (t : Nat) (who : Machine.Initiator) (k : Fin 32)
  /-- GOTO (R345): A pin-engine GOTO jumps to ADDR when its condition holds. -/
  | goto (t : Nat) (n : Fin 8) (ext : Word)
  /-- DRIVE (R345): A pin-engine DRIVE sets level or direction latches of masked output pins. -/
  | drive (t : Nat) (n : Fin 8) (ext : Word)
  /-- EMIT (R346): A pin-engine EMIT moves N bits out of SEND to the pins or to A. -/
  | emit (t : Nat) (n : Fin 8) (ext : Word)
  /-- TAKE (R347): A pin-engine TAKE moves N bits into TAKE from the pin, A, B or zero. -/
  | take (t : Nat) (n : Fin 8) (ext : Word)
  /-- XFER_FILL (R345): XFER FILL loads SEND from TX. -/
  | xferFill (t : Nat) (n : Fin 8) (ext : Word)
  /-- XFER_DELIVER (R345): XFER DELIVER moves TAKE to RX. -/
  | xferDeliver (t : Nat) (n : Fin 8) (ext : Word)
  /-- XFER_TXA (R345): XFER TXA loads A from TX. -/
  | xferTxa (t : Nat) (n : Fin 8) (ext : Word)
  /-- XFER_ARX (R345): XFER ARX moves A to RX. -/
  | xferArx (t : Nat) (n : Fin 8) (ext : Word)
  /-- CALC_ADD_IMM_A (R345): CALC FN 0 adds a signed immediate to A. -/
  | calcAddImmA (t : Nat) (n : Fin 8) (ext : Word)
  /-- CALC_ADD_IMM_B (R345): CALC FN 1 adds a signed immediate to B. -/
  | calcAddImmB (t : Nat) (n : Fin 8) (ext : Word)
  /-- CALC_ADD (R345): CALC FN 2 sets A to A + B. -/
  | calcAdd (t : Nat) (n : Fin 8) (ext : Word)
  /-- CALC_SUB (R345): CALC FN 3 sets A to A − B. -/
  | calcSub (t : Nat) (n : Fin 8) (ext : Word)
  /-- CALC_AND (R345): CALC FN 4 sets A to A AND B. -/
  | calcAnd (t : Nat) (n : Fin 8) (ext : Word)
  /-- CALC_XOR (R345): CALC FN 5 sets A to A XOR B. -/
  | calcXor (t : Nat) (n : Fin 8) (ext : Word)
  /-- CALC_SHR (R345): CALC FN 6 shifts A right by S. -/
  | calcShr (t : Nat) (n : Fin 8) (ext : Word)
  /-- CALC_SHL (R345): CALC FN 7 shifts A left by S. -/
  | calcShl (t : Nat) (n : Fin 8) (ext : Word)
  /-- MOVE (R345): A pin-engine MOVE copies a source to a destination register, pins or PC. -/
  | move (t : Nat) (n : Fin 8) (ext : Word)
  /-- TICKS (R345): A pin-engine TICKS occupies n + 1 steps. -/
  | ticks (t : Nat) (n : Fin 8) (ext : Word)
  /-- AWAIT (R348): A pin-engine AWAIT holds until its input or trigger event, optionally capturing the step count. -/
  | await (t : Nat) (n : Fin 8) (ext : Word)
  /-- SIGNAL (R345): A pin-engine SIGNAL sets the FLAG interrupt and/or pulses its trigger source. -/
  | signal (t : Nat) (n : Fin 8) (ext : Word)
  /-- STOP (R349): A pin-engine STOP halts the engine with cause PROGRAM. -/
  | stop (t : Nat) (n : Fin 8) (ext : Word)
  /-- REVA (R345): A pin-engine REVA reverses the bit order of A. -/
  | reva (t : Nat) (n : Fin 8) (ext : Word)
  /-- NOTA (R345): A pin-engine NOTA inverts A. -/
  | nota (t : Nat) (n : Fin 8) (ext : Word)
  /-- PIO_ILLEGAL (R349): An illegal instruction halts the engine with cause ILLEGAL without executing it. -/
  | pioIllegal (t : Nat) (n : Fin 8) (ext : Word)
  /-- PIO_STEP_CONTINUE (R342): At a step time a multi-step instruction runs its next step. -/
  | pioStepContinue (t : Nat) (n : Fin 8) (ext : Word)
  /-- DELIVERY_RESUME (R350): A pending automatic delivery completes at the first step with RX empty. -/
  | deliveryResume (t : Nat) (n : Fin 8) (ext : Word)
  /-- PIO_TX_WRITE (R351): A write of PIO_TX fills TX or overflows. -/
  | pioTxWrite (t : Nat) (who : Machine.Initiator) (n : Fin 8) (w : Word)
  /-- PIO_RX_READ (R351): A read of PIO_RX returns and empties RX or underflows. -/
  | pioRxRead (t : Nat) (who : Machine.Initiator) (n : Fin 8)
  /-- PIO_HALT (R352): A write of PIO_CTL.HALT halts the engine at its next step keeping its state. -/
  | pioHalt (t : Nat) (who : Machine.Initiator) (n : Fin 8)
  /-- PIO_RESUME (R353): A write of PIO_CTL.RESUME continues a halted engine when the program is unchanged, else is refused. -/
  | pioResume (t : Nat) (who : Machine.Initiator) (n : Fin 8)
  /-- PIO_RESTART (R353): A write of PIO_CTL.RESTART clears the shifters, restarts the divider and starts at ENTRY. -/
  | pioRestart (t : Nat) (who : Machine.Initiator) (n : Fin 8)
  /-- PIO_CLR (R358): A write of PIO_CTL.CLR sets PIO_CNT to 0. -/
  | pioClr (t : Nat) (who : Machine.Initiator) (n : Fin 8)
  /-- PROGRAM_WRITE (R344): A write to pin-engine program memory or registers is accepted only while HALTED. -/
  | programWrite (t : Nat) (who : Machine.Initiator) (n : Fin 8) (idx : Fin 37) (w : Word)
  /-- PIOG_START (R354): A write of PIOG_START restarts the masked engines with one common t0 or is refused. -/
  | piogStart (t : Nat) (who : Machine.Initiator) (mask : BitVec 8)
  /-- PIOG_HALT (R354): A write of PIOG_HALT halts each masked engine. -/
  | piogHalt (t : Nat) (who : Machine.Initiator) (mask : BitVec 8)
  /-- PIOG_RESUME (R354): A write of PIOG_RESUME resumes each masked engine on its own. -/
  | piogResume (t : Nat) (who : Machine.Initiator) (mask : BitVec 8)
  /-- PIOG_DSYNC (R354): A write of PIOG_DSYNC halts running masked engines and continues them at one common t0. -/
  | piogDsync (t : Nat) (who : Machine.Initiator) (mask : BitVec 8)
  /-- INTERRUPT_ENTRY (R383): A core accepts a presentation at an instruction boundary and enters the handler. -/
  | interruptEntry (t : Nat) (h : Fin 3) (pc : Word) (user : Bool) (mie : Bool)
  /-- MXEOI_WRITE (R384): A write of mxeoi pops the innermost interrupt level and clears its source's ACT. -/
  | mxeoiWrite (t : Nat) (h : Fin 3) (pc : Word) (user : Bool) (mie : Bool)
  /-- SCRUB_READ (R369): The scrubber reads the next memory word and corrects single-bit errors. -/
  | scrubRead (t : Nat) (m : Fin 4) (addr : Word) (err : Fin 3)
  /-- CORE_SCRUB_CLR (R372): A write of CORE_SCRUB.CLR sets CORE_ECC to 0. -/
  | coreScrubClr (t : Nat) (who : Machine.Initiator) (h : Fin 3)
  /-- RING_INDEX_WRITE (R373): A write of a ring's software index advances it or is discarded if the fill would exceed N. -/
  | ringIndexWrite (t : Nat) (who : Machine.Initiator) (r : Fin 32) (v : Word)
  /-- RING_ENABLE_WRITE (R374): A write of RING_CFGr.EN checks the descriptor and enables the ring or stops it at an entry boundary. -/
  | ringEnableWrite (t : Nat) (who : Machine.Initiator) (r : Fin 32) (on : Bool)
  /-- RING_REQUEST (R377): A trigger on a ring request line reads its register and writes a record. -/
  | ringRequest (t : Nat) (k : Fin 8)
  /-- RING_SCRUB_CLR (R378): A write of RING_SCRUB.CLR sets RING_ECC to 0. -/
  | ringScrubClr (t : Nat) (who : Machine.Initiator)
  /-- INTC_SWI (R391): A write of INTC_SWI sets the selected software interrupt sources. -/
  | intcSwi (t : Nat) (who : Machine.Initiator) (w : Word)
  /-- INTC_PEND_CLEAR (R380): A W1C write of INTC_PENDj clears latched sources. -/
  | intcPendClear (t : Nat) (who : Machine.Initiator) (j : Fin 4) (w : Fin 4) (bits : Word)
  /-- INTC_SOURCE_CFG_WRITE (R381): A write of a source's configuration or vector is applied or refused while enabled or for SUP targets. -/
  | intcSourceCfgWrite (t : Nat) (who : Machine.Initiator) (src : Fin 512) (vec : Bool) (v : Word)
  /-- INTC_CLAIM (R387): A read of INTC_CLAIMn claims the pin's highest qualifying source. -/
  | intcClaim (t : Nat) (who : Machine.Initiator) (n : Fin 4)
  /-- INTC_COMPLETE (R387): A write of INTC_COMPLETEn clears the named source's ACT. -/
  | intcComplete (t : Nat) (who : Machine.Initiator) (n : Fin 4) (src : Fin 512)
  /-- DEBUG_HALT (R393): The debug module halts a hart. -/
  | debugHalt (t : Nat) (h : Fin 3) (pc : Word)
  /-- DEBUG_RESUME (R393): The debug module resumes a halted hart. -/
  | debugResume (t : Nat) (h : Fin 3)
  /-- DEBUG_STEP (R393): The debug module single-steps a hart. -/
  | debugStep (t : Nat) (h : Fin 3) (pc : Word) (user : Bool) (mie : Bool)
  /-- LINK_ALIGN (R397): Eight consecutive IDLE symbols decoded at one phase move a link from DOWN to ALIGN. -/
  | linkAlign (t : Nat) (n : Fin 4)
  /-- RATE (R397): The peer's RATE symbol is received in ALIGN. -/
  | rate (t : Nat) (n : Fin 4) (rate : BitVec 7)
  /-- RATE_SWITCH (R397): After four further IDLE symbols the transmitter switches to the agreed rate. -/
  | rateSwitch (t : Nat) (n : Fin 4)
  /-- INVALID_SYMBOL (R398): An invalid symbol is received and four in a row take the link DOWN. -/
  | invalidSymbol (t : Nat) (n : Fin 4) (run : Bool)
  /-- SYMBOL_TIMEOUT (R397): No symbol for 2 µs takes the link DOWN with cause ALIGN. -/
  | symbolTimeout (t : Nat) (n : Fin 4)
  /-- RESET (R398): A RESET control symbol from the peer takes the link DOWN. -/
  | reset (t : Nat) (n : Fin 4)
  /-- AUTH (R406): A LINK AUTH frame advances the SM2 link authentication, completing to UP or FAILED. -/
  | auth (t : Nat) (n : Fin 4) (fr : Machine.LinkFrame) (res : Fin 3) (uid : List Word) (port : Fin 4) (txSeq : BitVec 8)
  /-- AUTH_TIMEOUT (R406): AUTH not completed in time puts the link in FAILED. -/
  | authTimeout (t : Nat) (n : Fin 4)
  /-- BACKOFF_END (R397): BACKOFF elapsing in FAILED returns the link to DOWN. -/
  | backoffEnd (t : Nat) (n : Fin 4)
  /-- NL_CTL_DOWN (R432): A write of NL_CTL.DOWN sends RESET and enters DOWN. -/
  | nlCtlDown (t : Nat) (who : Machine.Initiator) (n : Fin 4)
  /-- NL_CLR (R432): A write of NL_CTL.CLR sets the link counters to 0. -/
  | nlClr (t : Nat) (who : Machine.Initiator) (n : Fin 4)
  /-- NL_PEER0_READ (R432): A read of NL_PEER0 latches NL_PEER1 to NL_PEER3. -/
  | nlPeer0Read (t : Nat) (who : Machine.Initiator) (n : Fin 4)
  /-- ACK (R404): An ACK frees acknowledged frames from the replay buffer. -/
  | ack (t : Nat) (n : Fin 4) (seq : BitVec 8)
  /-- NACK (R404): A NACK retransmits the replay buffer from the expected number. -/
  | nack (t : Nat) (n : Fin 4) (seq : BitVec 8)
  /-- CREDIT (R403): A CREDIT returns receive buffers to the transmitter. -/
  | credit (t : Nat) (n : Fin 4) (k : Fin 17)
  /-- ACK_TIMEOUT (R404): The oldest frame unacknowledged for ACK_TO is retransmitted with the rest. -/
  | ackTimeout (t : Nat) (n : Fin 4)
  /-- ECHO_REQUEST_TIMER (R425): A link sends an echo request at its scheduled interval. -/
  | echoRequestTimer (t : Nat) (n : Fin 4)
  /-- ECHO_REQ (R425): A received echo request is answered with a residence-carrying response pair. -/
  | echoReq (t : Nat) (n : Fin 4)
  /-- ECHO_RSP (R425): A received echo response gives a latency sample and updates LAT. -/
  | echoRsp (t : Nat) (n : Fin 4) (resid : Nat) (t4 : Nat)
  /-- ECHO_TIMEOUT (R425): An echo request unanswered within 1 ms is abandoned. -/
  | echoTimeout (t : Nat) (n : Fin 4)
  /-- HELLO_TIMER (R409): Every 1 ms a node sends HELLO on every UP link. -/
  | helloTimer (t : Nat)
  /-- HELLO (R409): A received HELLO updates the neighbour's advertisement and the adopted root and parent. -/
  | hello (t : Nat) (n : Fin 4) (fr : Machine.LinkFrame)
  /-- TOPO (R410): A received TOPO is forwarded to the root or collected there. -/
  | topo (t : Nat) (n : Fin 4) (fr : Machine.LinkFrame)
  /-- ASSIGN (R411): A received ASSIGN replaces the node's address and routing table or is forwarded down. -/
  | assign (t : Nat) (n : Fin 4) (fr : Machine.LinkFrame)
  /-- CHG (R411): A received CHG at the root starts a new discovery epoch. -/
  | chg (t : Nat) (n : Fin 4) (fr : Machine.LinkFrame)
  /-- SETTLE_EXPIRY (R411): SETTLE elapsing without a new TOPO ends collection and the root assigns addresses. -/
  | settleExpiry (t : Nat)
  /-- REDISC (R433): A write of FAB_CTL.REDISC sends CHG. -/
  | redisc (t : Nat) (who : Machine.Initiator)
  /-- FAB_CLR (R433): A write of FAB_CTL.CLR sets the fabric counters to 0. -/
  | fabClr (t : Nat) (who : Machine.Initiator)
  /-- FTX_ENTRY (R418): The device takes a message at TAIL of an FTX ring and sends it. -/
  | ftxEntry (t : Nat) (r : Fin 4) (err : Fin 3)
  /-- REG_RD (R417): A received REG_RD reads registers as initiator FAB and answers REG_RSP. -/
  | regRd (t : Nat) (n : Fin 4) (fr : Machine.LinkFrame) (err : Fin 3)
  /-- REG_WR (R417): A received REG_WR writes registers as initiator FAB and answers REG_RSP. -/
  | regWr (t : Nat) (n : Fin 4) (fr : Machine.LinkFrame)
  /-- REG_RSP (R418): A received REG_RSP completes its message and writes back status and data. -/
  | regRsp (t : Nat) (n : Fin 4) (fr : Machine.LinkFrame)
  /-- INTR (R389): A received INTR message sets its latched interrupt source and is acknowledged. -/
  | intr (t : Nat) (n : Fin 4) (fr : Machine.LinkFrame)
  /-- INTR_ACK (R389): A received INTR_ACK clears the sending source's ACT. -/
  | intrAck (t : Nat) (n : Fin 4) (fr : Machine.LinkFrame)
  /-- MSG (R418): A received MSG is written into its FRX ring or answered RX_FULL. -/
  | msg (t : Nat) (n : Fin 4) (fr : Machine.LinkFrame) (rxq : Fin 4)
  /-- MSG_ACK (R418): A received MSG_ACK completes the message with OK or RX_FULL. -/
  | msgAck (t : Nat) (n : Fin 4) (fr : Machine.LinkFrame)
  /-- NOTICE_HOLD (R419): A NOTICE HOLD pauses the message's transport timer. -/
  | noticeHold (t : Nat) (n : Fin 4) (fr : Machine.LinkFrame)
  /-- NOTICE_RELEASE (R419): A NOTICE RELEASE resumes the message's transport timer. -/
  | noticeRelease (t : Nat) (n : Fin 4) (fr : Machine.LinkFrame)
  /-- NOTICE_PATH (R420): A NOTICE PATH completes the message with PATH_FAIL. -/
  | noticePath (t : Nat) (n : Fin 4) (fr : Machine.LinkFrame)
  /-- MESSAGE_TIMEOUT (R421): A message whose timer reaches its class timeout completes with TIMEOUT. -/
  | messageTimeout (t : Nat) (r : Fin 5) (src : Fin 512)
  /-- MAX_PAUSE (R419): Pauses reaching MAX_PAUSE restart the message's timer. -/
  | maxPause (t : Nat) (r : Fin 5) (src : Fin 512)
  /-- TAG_CARRIER (R429): A received tag carrier frame delivers beacon tags for verification. -/
  | tagCarrier (t : Nat) (n : Fin 4) (fr : Machine.LinkFrame)
  /-- BTAG_T_EXPIRY (R429): No frame within BTAG_T after a beacon sends a tag carrier. -/
  | btagTExpiry (t : Nat) (n : Fin 4)
  /-- BEACON_VTO (R429): A beacon whose tag has not arrived within VTO fails verification. -/
  | beaconVto (t : Nat) (n : Fin 4)
  /-- BEACON_RECEIVE (R424): A received beacon is checked, deduplicated, forwarded and delivered to a follower. -/
  | beaconReceive (t : Nat) (n : Fin 4) (trx : Nat) (b0 : BitVec 16) (b1 : BitVec 16) (b2 : BitVec 16) (dls : List Nat) (up : Bool) (par : Fin 3) (cur : Nat)
  /-- BEAC_STAT_READ (R434): A read of BEAC_STATf latches BEAC_AGEf. -/
  | beacStatRead (t : Nat) (who : Machine.Initiator) (f : Fin 4)
  /-- BEAC_CLR (R434): A write of BEAC_CTL.CLR sets the beacon counters to 0. -/
  | beacClr (t : Nat) (who : Machine.Initiator)
  /-- FAULT_MESSAGE (R436): FCOL accepts a fault message and sets level, notification, latch, pin and log. -/
  | faultMessage (t : Nat) (src : Fin 512)
  /-- REACT_TIMEOUT (R440): A source's react deadline passing at a reference edge enters L3. -/
  | reactTimeout (t : Nat) (src : Fin 512)
  /-- FCOL_ACK (R445): A write of FCOL_ACK.SRC acknowledges one source's fault. -/
  | fcolAck (t : Nat) (who : Machine.Initiator) (src : Fin 512)
  /-- FCOL_ACK_ALL (R445): A write of FCOL_ACK.ALL acknowledges every source. -/
  | fcolAckAll (t : Nat) (who : Machine.Initiator)
  /-- DHOLD_CLEAR (R442): A W1C of FCOL_DHOLD releases a domain when no DOMAIN_SAFE_END fault on it is unacknowledged. -/
  | dholdClear (t : Nat) (who : Machine.Initiator) (w : Word)
  /-- FIRST_CLR (R448): A write of FCOL_CTL.FIRST_CLR empties the first-fault latch. -/
  | firstClr (t : Nat) (who : Machine.Initiator)
  /-- FCOL_CLR (R463): A write of FCOL_CTL.CLR sets the FCOL counters to 0. -/
  | fcolClr (t : Nat) (who : Machine.Initiator)
  /-- FCOL_FIRST_W0_READ (R448): A read of FCOL_FIRST_W0 latches the rest of the first-fault record. -/
  | fcolFirstW0Read (t : Nat) (who : Machine.Initiator)
  /-- SWLVL_WRITE (R449): A write of FCOL_ERRPIN.SWLVL sets ERRn outside MINW or is discarded inside it. -/
  | swlvlWrite (t : Nat) (who : Machine.Initiator) (v : Bool)
  /-- MINW_END (R449): The MINW interval ends and ERRn follows SWLVL. -/
  | minwEnd (t : Nat)
  /-- FAULT_FORCE (R454): A force bit write in CONFIG or SERVICE sends one forced fault message from the source. -/
  | faultForce (t : Nat) (who : Machine.Initiator) (src : Fin 512) (viaPage : Bool)
  /-- SW_FAULT (R455): A write of FCOL_SWF sends a software fault message. -/
  | swFault (t : Nat) (who : Machine.Initiator) (w : Word)
  /-- MON_SNAP (R459): A write of MON_CTL.SNAP copies the live values into the snapshot. -/
  | monSnap (t : Nat) (who : Machine.Initiator) (m : Fin 16)
  /-- MON_SNAPCLR (R459): A write of MON_CTL.SNAPCLR snapshots and empties the live values. -/
  | monSnapclr (t : Nat) (who : Machine.Initiator) (m : Fin 16)
  /-- MON_CLR (R465): A write of MON_CTL.CLR empties the live values. -/
  | monClr (t : Nat) (who : Machine.Initiator) (m : Fin 16)
  /-- MON_CFG_WRITE (R460): A write of MON_CFG is refused for settings while enabled and empties values on enable. -/
  | monCfgWrite (t : Nat) (who : Machine.Initiator) (m : Fin 16) (w : Word)
  /-- MODE_CMD_CONFIG (R471): A CONFIG mode command enters CONFIG or is refused. -/
  | modeCmdConfig (t : Nat) (who : Machine.Initiator) (key : BitVec 8)
  /-- MODE_CMD_READY (R471): A READY mode command enters the running mode of the lead domain or is refused. -/
  | modeCmdReady (t : Nat) (who : Machine.Initiator) (key : BitVec 8)
  /-- MODE_CMD_SERVICE (R471): A SERVICE mode command enters SERVICE or is refused. -/
  | modeCmdService (t : Nat) (who : Machine.Initiator) (key : BitVec 8)
  /-- MODE_CMD_SHUTDOWN (R481): A SHUTDOWN mode command starts the ordered shutdown or is refused. -/
  | modeCmdShutdown (t : Nat) (who : Machine.Initiator) (key : BitVec 8)
  /-- MODE_CMD_SAFE (R471): A SAFE mode command enters SAFE with cause SW. -/
  | modeCmdSafe (t : Nat) (who : Machine.Initiator) (key : BitVec 8)
  /-- LEAD_WRITE (R468): A write of SYS_MODE.LEAD changes the lead domain and the running mode. -/
  | leadWrite (t : Nat) (who : Machine.Initiator) (v : Fin 2)
  /-- SAFEACK_WRITE (R476): A write of SYS_SAFEACK advances the acknowledgement sequence and leaves SAFE or records a refusal. -/
  | safeackWrite (t : Nat) (who : Machine.Initiator) (w : Word)
  /-- SHUTDOWN_DRAIN_END (R481): All channels idle or SHUT_T elapsed drops both domains and inhibits outputs. -/
  | shutdownDrainEnd (t : Nat)
  /-- SHUTDOWN_DONE (R481): Logs, rings and MRAM writes complete, DONE is set and WAKEn may be released. -/
  | shutdownDone (t : Nat)
  /-- CORE_SUPPLY_GOOD (R477): All supplies and PORn reaching good start boot. -/
  | coreSupplyGood (t : Nat) (pinLow : Bool) (vbat : Bool)
  /-- PORN_LOW (R478): PORn held low returns the digital die to power-on. -/
  | pornLow (t : Nat) (ns : Nat)
  /-- BOOT_COMPLETE (R479): Boot completes and the device enters READY or CONFIG by AUTOREADY. -/
  | bootComplete (t : Nat) (ok : BitVec 8) (us : Nat)
  /-- BOOT_FAIL (R480): A failing boot step leaves the device in BOOT and records its code. -/
  | bootFail (t : Nat) (code : BitVec 8)
  /-- REBOOT (R480): A write of SYS_CTL.REBOOT in BOOT runs boot again from step 3. -/
  | reboot (t : Nat) (who : Machine.Initiator)
  /-- SYS_CLR (R482): A write of SYS_CTL.CLR sets SYS_CNT_A and REFUSED to 0. -/
  | sysClr (t : Nat) (who : Machine.Initiator)
  /-- SYS_SAFE_TS_LO_READ (R482): A read of SYS_SAFE_TS_LO latches SYS_SAFE_TS_HI. -/
  | sysSafeTsLoRead (t : Nat) (who : Machine.Initiator)
  /-- CHALLENGE (R490): SEC CHALLENGE produces a new 128-bit challenge. -/
  | challenge (t : Nat) (who : Machine.Initiator) (fmt : Bool) (sig : Bool)
  /-- QUOTE (R493): SEC QUOTE writes a signed attestation quote with the given nonce. -/
  | quote (t : Nat) (who : Machine.Initiator) (fmt : Bool) (sig : Bool)
  /-- ENROLL (R489): SEC ENROLL stores an owner key and enters OWNED. -/
  | enroll (t : Nat) (who : Machine.Initiator) (fmt : Bool) (sig : Bool)
  /-- ENDORSE (R491): SEC ENDORSE verifies and stores the owner's endorsement. -/
  | endorse (t : Nat) (who : Machine.Initiator) (fmt : Bool) (sig : Bool)
  /-- LOCK (R489): SEC LOCK moves OWNED to LOCKED on a signed command. -/
  | lock (t : Nat) (who : Machine.Initiator) (fmt : Bool) (sig : Bool)
  /-- UNLOCK (R489): SEC UNLOCK moves LOCKED to OWNED on a signed command. -/
  | unlock (t : Nat) (who : Machine.Initiator) (fmt : Bool) (sig : Bool)
  /-- DECOMMISSION (R485): SEC DECOMMISSION erases keys, enters DECOMMISSIONED and restarts SUP. -/
  | decommission (t : Nat) (who : Machine.Initiator) (fmt : Bool) (sig : Bool)
  /-- STAGE_BEGIN (R500): Staging BEGIN invalidates the inactive slot and opens a staging. -/
  | stageBegin (t : Nat) (who : Machine.Initiator) (kind : Fin 4)
  /-- STAGE_WRITE (R500): Staging WRITE copies bytes from shared SRAM into the slot. -/
  | stageWrite (t : Nat) (who : Machine.Initiator) (kind : Fin 4) (rep : Fin 4) (fail : Bool)
  /-- STAGE_FINISH (R500): Staging FINISH verifies the slot and sets STAGED. -/
  | stageFinish (t : Nat) (who : Machine.Initiator) (kind : Fin 4) (sig : Bool) (fail : Bool)
  /-- STAGE_ABORT (R500): Staging ABORT closes the staging and leaves the slot invalid. -/
  | stageAbort (t : Nat) (who : Machine.Initiator) (kind : Fin 4)
  /-- ACTIVATE (R501): A write of UPD_ACT checks and accepts or refuses an activation. -/
  | activate (t : Nat) (who : Machine.Initiator) (mask : BitVec 4)
  /-- ACTIVATION_DONE (R503): An accepted activation completes its steps, switches slots and sets DONE. -/
  | activationDone (t : Nat) (sig : BitVec 4) (sup : Bool)
  /-- CONFIRM (R507): A write of UPD_CTL.CONFIRM ends a trial and raises the rollback counter. -/
  | confirm (t : Nat) (who : Machine.Initiator) (mask : BitVec 4)
  /-- REVERT (R507): A write of UPD_CTL.REVERT reactivates the previous slot of a kind. -/
  | revert (t : Nat) (who : Machine.Initiator) (mask : BitVec 4)
  /-- MRAM_DIRECT_WRITE (R511): A write of MRAMC_WDHI starts a direct 64-bit MRAM word write. -/
  | mramDirectWrite (t : Nat) (who : Machine.Initiator) (w : Word)
  /-- MRAM_WRITE_DONE (R508): An MRAM word write completes after read-back and repetitions. -/
  | mramWriteDone (t : Nat) (rep : Fin 4) (fail : Bool)
  /-- LOG_APPEND (R512): A write of MRAMC_LAPP starts appending a 32-byte record to the log store. -/
  | logAppend (t : Nat) (who : Machine.Initiator) (src : Word)
  /-- LOG_APPEND_DONE (R512): A log append completes and LHEAD increments. -/
  | logAppendDone (t : Nat) (rep : Fin 4) (fail : Bool)
  /-- MRAMC_CLR (R516): A write of MRAMC_CTL.CLR sets MRAMC_CNT to 0. -/
  | mramcClr (t : Nat) (who : Machine.Initiator)
  /-- OASIS_WRITE_TRANSFER (R520): A buffered write reaches the Oasis domain at the second 32.768 kHz edge. -/
  | oasisWriteTransfer (t : Nat) (a : Nat)
  /-- RTC_SET (R522): A write of RTC_SET sets SEC, clears SUB and acc and sets VALID. -/
  | rtcSet (t : Nat) (who : Machine.Initiator) (w : Word)
  /-- RTC_SECOND (R521): SUB wraps, SEC increments with trim correction and the boundary is timestamped. -/
  | rtcSecond (t : Nat)
  /-- RTC_XTAL (R525): No crystal edge for 4 ms moves the calendar to the internal oscillator. -/
  | rtcXtal (t : Nat)
  /-- XTAL_RECOVER (R525): 256 consecutive crystal edges return the calendar to the crystal. -/
  | xtalRecover (t : Nat)
  /-- RTC_SUB_READ (R523): A read of RTC_SUB latches SEC for the reading initiator. -/
  | rtcSubRead (t : Nat) (who : Machine.Initiator) (sub : Fin 32768)
  /-- RTC_TB_LO_READ (R523): A read of RTC_TB_LO latches RTC_TB_HI and RTC_TB_SEC. -/
  | rtcTbLoRead (t : Nat) (who : Machine.Initiator)
  /-- OASIS_RAM_READ (R527): A read of retained RAM returns the word and reports a parity error if found. -/
  | oasisRamRead (t : Nat) (who : Machine.Initiator) (w : Fin 64) (bad : Option Nat)
  /-- SENTINEL_TICK (R528): At each sample tick the sentinel samples its inputs and decides events and rotation. -/
  | sentinelTick (t : Nat) (lvl : BitVec 8) (vals : List Nat)
  /-- STANDSTILL_CROSSING (R530): A negative-going crossing at the standstill comparator increments TCNT. -/
  | standstillCrossing (x : Machine.Crossing)
  /-- SENT_EVT_CLEAR (R530): A W1C of SENT_EVT or WHL_SSC.SSC_EVT clears the shared event bits. -/
  | sentEvtClear (t : Nat) (who : Machine.Initiator) (viaWhl : Bool) (n : Fin 8) (bits : Word)
  /-- VBAT_MEASURE (R518): A VBAT measurement sets or clears the low and critical conditions. -/
  | vbatMeasure (t : Nat) (mv : Nat)
  /-- OASIS_SUPPLY_CHANGEOVER (R517): The Oasis domain switches between VDDIO and VBAT. -/
  | oasisSupplyChangeover (t : Nat) (vddio : Bool)
  /-- OASIS_START (R519): The Oasis domain starts afresh after its supply fell below 1.60 V. -/
  | oasisStart (t : Nat)
  /-- EXTEST (R557): JTAG EXTEST drives boundary pins in MANUFACTURE or SERVICE, else acts as BYPASS. -/
  | extest (t : Nat) (v : BitVec 218)
  /-- IDCODE (R555): JTAG IDCODE selects the IDCODE register. -/
  | idcode (t : Nat)
  /-- SAMPLE_PRELOAD (R557): JTAG SAMPLE/PRELOAD samples the boundary without driving pins. -/
  | samplePreload (t : Nat) (cap : BitVec 218) (v : BitVec 218)
  /-- CLAMP (R557): JTAG CLAMP holds the pins from the boundary register when permitted. -/
  | clamp (t : Nat)
  /-- HIGHZ (R557): JTAG HIGHZ sets the chain pins high-impedance when permitted. -/
  | highz (t : Nat)
  /-- DTMCS (R555): JTAG DTMCS selects the debug transport control register. -/
  | dtmcs (t : Nat)
  /-- DMI (R555): JTAG DMI accesses the debug module interface. -/
  | dmi (t : Nat) (a : Fin 128) (v : Word) (op : Fin 4)
  /-- BYPASS (R555): JTAG BYPASS selects the one-bit bypass register. -/
  | bypass (t : Nat)
  /-- TEST_LOGIC_RESET (R555): Test-logic reset makes IDCODE the current instruction. -/
  | testLogicReset (t : Nat)
  /-- CALIBRATOR_FIRST_LOCK (R27): The calibrator first locks after power-on, and the timebase count starts at 0 at the next reference edge. -/
  | calibratorFirstLock (t : Nat) (span : BitVec 16)
  /-- VDDA_LOW (R452): VDDA stays below 4.60 V for 10 µs, or leaves that condition, and source 0x0E3 reports VDDA_LOW once per entry. -/
  | vddaLow (t : Nat) (low : Bool) (mv : Nat)
  /-- VB_LOW (R452): VB stays below 5.50 V for 10 µs, or leaves that condition, and source 0x0E3 reports VB_LOW once per entry. -/
  | vbLow (t : Nat) (low : Bool) (mv : Nat)
  /-- D2D_COMMAND_FAIL (R452): A die-to-die command fails its check code and is repeated. The retry ends in D2D_CE, or in D2D_UE with the analog die
holding its outputs at safe end until a command passes again. -/
  | d2dCommandFail (t : Nat) (chan : Fin 104) (passed : Bool)
  /-- BUSY_INTERVAL_END (R274): A converter's busy interval T_BUSY ends. BUSY clears, and with the queue empty the ADC RWS fields commit. -/
  | busyIntervalEnd (t : Nat) (k : Fin 8)
  /-- BST_TON_END (R252): TON elapses within a boost switching cycle, and BSTkG turns off for TOFF. -/
  | bstTonEnd (t : Nat) (k : Fin 2)
  /-- RANDOM_GENERATOR_HEALTH_TEST (R513): The SEC random generator fails, or again passes, its health test. On failure it reports SEC_RNG, and commands
that need it give FORMAT until it passes. -/
  | randomGeneratorHealthTest (t : Nat) (pass : Bool)
  deriving DecidableEq, Repr

end Sys2Proof
end

