-- ==== Sys2Proof/Decode.lean ====
section
/-!
DEFINITION. Decode.lean: commands as words. No row of the table gives bits: the block takes commands, and none is spelled by a word
(notes/assumptions/1.md).
-/

namespace Sys2Proof

/-- The command that the word `w` of `nbits` bits spells: none, whatever the word. -/
def decodeTableWord (_nbits _w : Nat) : Option Instr := none

end Sys2Proof
end

