-- ==== Sys2Proof/Machine/Num.lean ====
section
/-!
DEFINITION. Machine/Num.lean: exact rationals with one rounding (R130, R306), and the fixed-point exponential, cosine and logarithm
(96 fractional bits) behind the knock coefficients (R291) and the polytropic peg (R305).
-/

namespace Sys2Proof.Machine

/-! ## Rationals: a numerator over a positive denominator, never reduced -/

structure Rt where
  n : Int
  d : Nat

def Rt.ofInt (i : Int) : Rt := ⟨i, 1⟩
def Rt.add (a b : Rt) : Rt := ⟨a.n * b.d + b.n * a.d, a.d * b.d⟩
def Rt.neg (a : Rt) : Rt := ⟨-a.n, a.d⟩
def Rt.sub (a b : Rt) : Rt := a.add b.neg
def Rt.mul (a b : Rt) : Rt := ⟨a.n * b.n, a.d * b.d⟩
/-- Quotient; the denominator of a zero divisor stays 0. -/
def Rt.div (a b : Rt) : Rt := if b.n < 0 then ⟨-(a.n * b.d), a.d * b.n.natAbs⟩ else ⟨a.n * b.d, a.d * b.n.natAbs⟩
def Rt.lt (a b : Rt) : Bool := decide (a.n * b.d < b.n * a.d)
def Rt.sum : List Rt → Rt
  | [] => ⟨0, 1⟩
  | x :: r => x.add (Rt.sum r)
/-- Round to nearest, ties away from zero (R130). -/
def Rt.round (a : Rt) : Int :=
  if a.n < 0 then -(((2 * a.n.natAbs + a.d) / (2 * a.d) : Nat) : Int) else (((2 * a.n.natAbs + a.d) / (2 * a.d) : Nat) : Int)

/-- The largest number below 2^bits that meets a downward closed test that 0 meets, bit by bit from the top. -/
def searchMax (p : Nat → Bool) : Nat → Nat → Nat
  | 0, acc => acc
  | b + 1, acc => if p (acc + 2 ^ b) then searchMax p b (acc + 2 ^ b) else searchMax p b acc

def Rt.le (a b : Rt) : Bool := decide (a.n * b.d ≤ b.n * a.d)
def Rt.eq (a b : Rt) : Bool := decide (a.n * b.d = b.n * a.d)
def Rt.scale (a : Rt) (k : Int) : Rt := ⟨a.n * k, a.d⟩
def Rt.floor (a : Rt) : Int := Int.fdiv a.n a.d

/-! ## Fixed point with 96 fractional bits -/

def fxOne : Int := 2 ^ 96
def fxPi : Int := 248902613312231085230521944622
/-- Product and quotient of two fixed-point numbers, toward minus infinity. -/
def fxMul (a b : Int) : Int := Int.fdiv (a * b) fxOne
def fxDiv (a b : Int) : Int := Int.fdiv (a * fxOne) b

/-- Σ t_k with t_(k+1) = t_k × x / (k + 1): the exponential series from term k on. -/
def fxExpSum (x : Int) : Nat → Int → Int → Int → Int
  | 0, _, _, s => s
  | f + 1, k, t, s => let t' := Int.fdiv (fxMul t x) (k + 1); fxExpSum x f (k + 1) t' (s + t')

def fxSquares : Nat → Int → Int
  | 0, y => y
  | f + 1, y => fxSquares f (fxMul y y)

/-- e^(−x) for x ≥ 0: the series at x/64, squared six times. -/
def fxExpNeg (x : Int) : Int := fxSquares 6 (fxExpSum (Int.fdiv (-x) 64) 40 0 fxOne fxOne)

/-- cos x by its series. -/
def fxCosSum (x2 : Int) : Nat → Int → Int → Int → Int
  | 0, _, _, s => s
  | f + 1, k, t, s => let t' := Int.fdiv (fxMul t (-x2)) ((k + 1) * (k + 2)); fxCosSum x2 f (k + 2) t' (s + t')
def fxCos (x : Int) : Int := fxCosSum (fxMul x x) 40 0 fxOne fxOne

/-- 2 atanh z by its series. -/
def fxAtanhSum (z2 : Int) : Nat → Int → Int → Int → Int
  | 0, _, _, s => s
  | f + 1, k, t, s => let t' := fxMul t z2; fxAtanhSum z2 f (k + 2) t' (s + Int.fdiv t' (k + 2))
def fxAtanh2 (z : Int) : Int := 2 * fxAtanhSum (fxMul z z) 80 1 z z
def fxLn2 : Int := fxAtanh2 (Int.fdiv fxOne 3)

/-- ln(a / b) for a ≥ b ≥ 1: halve the ratio until it is below 2. -/
def fxLnGo : Nat → Nat → Nat → Int → Int
  | 0, _, _, s => s
  | f + 1, a, b, s =>
    if 2 * b ≤ a then fxLnGo f a (2 * b) (s + fxLn2)
    else s + fxAtanh2 (Int.fdiv (((a : Int) - b) * fxOne) ((a : Int) + b))
def fxLn (a b : Nat) : Int := fxLnGo 80 a b 0

/-- Round a fixed-point number to nearest with `bits` fractional bits, ties away from zero. -/
def fxRound (x : Int) (bits : Nat) : Int := Rt.round ⟨x * (2 ^ bits : Nat), 2 ^ 96⟩

def insBy {α : Type} (lt : α → α → Bool) (x : α) : List α → List α
  | [] => [x]
  | y :: r => if lt x y then x :: y :: r else y :: insBy lt x r
def sortBy {α : Type} (lt : α → α → Bool) : List α → List α
  | [] => []
  | x :: r => insBy lt x (sortBy lt r)

end Sys2Proof.Machine
end

