-- ==== Sys2Proof/Config.lean ====
section
/-!
DEFINITION. Config.lean: what an implementation fixes and what the manual leaves open. Every constant without a body is a free
value: nothing can be proved of it, so a statement about the model holds whatever it is (notes/assumptions/2.md).
-/

namespace Sys2Proof.Config

/-- The n-th value the manual leaves open in a run (State keeps the counter that advances): an unstated result. -/
opaque freeValue : Nat → Nat
/-- `PID.VER` of page p: informational, fixed by the design (R47). -/
opaque pidVersion : Nat → Nat
/-- `PCAP` of a page whose chapter gives no capability word (R2). -/
opaque openPcap : Nat → Nat
/-- The projection over an angle with a model whose speed is zero: the formula of R137 divides by zero and no result is stated. -/
opaque openTau : Nat → Nat
/-- The unique identifier of this device (R408). -/
opaque deviceUid : BitVec 128
/-- What a core address outside the shared map reads as when the debug module reaches it. -/
opaque coreFree : Nat → Nat
/-- The length of the device certificate in bytes (R495): of the device, at most 2048. -/
opaque certLen : Nat
/-- The first word of the digest that tags a frame or a beacon (R407, R429): of a link, its session, a count and the words covered. -/
opaque linkTag : Nat → Nat → Nat → List Word → Word
/-- Where the symbol boundaries of a link lie in time (R399): not stated. -/
opaque symbolPhase : Nat → Nat

end Sys2Proof.Config
end

