-- ==== Sys2Proof/Machine/Map.lean ====
section
/-!
DEFINITION. Machine/Map.lean: the register map. `R.X` is the internal byte address of register `X` (R40, R41 and
the register tables of each chapter) and `F.X_Y` its field `Y`. An argument `p` is the number of the page within its
block type, `i` an index into an array of registers; timer channels take `k`, monitors `m`, interrupt and fault sources `s`.
-/

namespace Sys2Proof.Machine


/-! SYS (00_scope.md) -/

def R.SYS_PCAP : Nat := 0x40000004
def F.SYS_PCAP_NAPP : Fld := ⟨R.SYS_PCAP, 28, 27⟩
def F.SYS_PCAP_NFAB : Fld := ⟨R.SYS_PCAP, 26, 24⟩
def F.SYS_PCAP_NADC : Fld := ⟨R.SYS_PCAP, 23, 20⟩
def F.SYS_PCAP_NPRS4 : Fld := ⟨R.SYS_PCAP, 19, 17⟩
def F.SYS_PCAP_NIGN4 : Fld := ⟨R.SYS_PCAP, 16, 14⟩
def F.SYS_PCAP_NBANK : Fld := ⟨R.SYS_PCAP, 13, 10⟩
def F.SYS_PCAP_SLOTS_LOG2 : Fld := ⟨R.SYS_PCAP, 9, 6⟩
def F.SYS_PCAP_NWHL : Fld := ⟨R.SYS_PCAP, 5, 2⟩
def F.SYS_PCAP_NDOM : Fld := ⟨R.SYS_PCAP, 1, 0⟩
def R.SYS_STGM_NOW : Nat := 0x400000C0
def F.SYS_STGM_NOW_STAGE : Fld := ⟨R.SYS_STGM_NOW, 19, 0⟩
def R.SYS_STGM_MIN : Nat := 0x400000C4
def F.SYS_STGM_MIN_STAGE : Fld := ⟨R.SYS_STGM_MIN, 19, 0⟩
def R.SYS_STGM_MAX : Nat := 0x400000C8
def F.SYS_STGM_MAX_STAGE : Fld := ⟨R.SYS_STGM_MAX, 19, 0⟩
def R.SYS_STGM_CTL : Nat := 0x400000CC
def F.SYS_STGM_CTL_LIMIT : Fld := ⟨R.SYS_STGM_CTL, 31, 16⟩
def F.SYS_STGM_CTL_AVG_LOG2 : Fld := ⟨R.SYS_STGM_CTL, 11, 8⟩
def F.SYS_STGM_CTL_CLR : Fld := ⟨R.SYS_STGM_CTL, 0, 0⟩
def R.SYS_STGM_STAT : Nat := 0x400000D0
def F.SYS_STGM_STAT_UNDERSPEC : Fld := ⟨R.SYS_STGM_STAT, 1, 1⟩
def F.SYS_STGM_STAT_SLOW : Fld := ⟨R.SYS_STGM_STAT, 0, 0⟩
def R.SYS_VMON : Nat := 0x400000D4
def F.SYS_VMON_BROWNOUT : Fld := ⟨R.SYS_VMON, 17, 17⟩
def F.SYS_VMON_UNDERSPEC : Fld := ⟨R.SYS_VMON, 16, 16⟩
def F.SYS_VMON_VDDC : Fld := ⟨R.SYS_VMON, 11, 0⟩

/-! TBASE (01_timing_model.md) -/

def R.TB_NOW_LO : Nat := 0x40001040
def F.TB_NOW_LO_NOW_LO : Fld := ⟨R.TB_NOW_LO, 31, 0⟩
def R.TB_NOW_HI : Nat := 0x40001044
def F.TB_NOW_HI_NOW_HI : Fld := ⟨R.TB_NOW_HI, 31, 0⟩
def R.TB_STAT : Nat := 0x40001048
def F.TB_STAT_RAW_SPAN : Fld := ⟨R.TB_STAT, 31, 16⟩
def F.TB_STAT_SLEW : Fld := ⟨R.TB_STAT, 4, 4⟩
def F.TB_STAT_REF_SRC : Fld := ⟨R.TB_STAT, 3, 3⟩
def F.TB_STAT_HOLDOVER : Fld := ⟨R.TB_STAT, 2, 2⟩
def F.TB_STAT_CAL_LOCK : Fld := ⟨R.TB_STAT, 1, 1⟩
def F.TB_STAT_REF_OK : Fld := ⟨R.TB_STAT, 0, 0⟩
def R.TB_CTL : Nat := 0x4000104C
def F.TB_CTL_CAL_FILT_LOG2 : Fld := ⟨R.TB_CTL, 7, 4⟩
def F.TB_CTL_REFSEL : Fld := ⟨R.TB_CTL, 0, 0⟩
def R.TB_LOSS : Nat := 0x40001050
def F.TB_LOSS_LOSS_CNT : Fld := ⟨R.TB_LOSS, 15, 0⟩
def R.TB_SLEW : Nat := 0x40001054
def F.TB_SLEW_OFS : Fld := ⟨R.TB_SLEW, 31, 0⟩

/-! HOSTP (02_register_pages.md) -/

def R.HOSTP_CFG : Nat := 0x40002040
def F.HOSTP_CFG_WAIT_MAX : Fld := ⟨R.HOSTP_CFG, 31, 16⟩
def R.HOSTP_STAT : Nat := 0x40002044
def F.HOSTP_STAT_LASTCODE : Fld := ⟨R.HOSTP_STAT, 31, 28⟩
def F.HOSTP_STAT_ABORT : Fld := ⟨R.HOSTP_STAT, 6, 6⟩
def F.HOSTP_STAT_TIMEOUT : Fld := ⟨R.HOSTP_STAT, 5, 5⟩
def F.HOSTP_STAT_BURST_TRUNC : Fld := ⟨R.HOSTP_STAT, 4, 4⟩
def F.HOSTP_STAT_PERM : Fld := ⟨R.HOSTP_STAT, 3, 3⟩
def F.HOSTP_STAT_ADDR_ERR : Fld := ⟨R.HOSTP_STAT, 2, 2⟩
def F.HOSTP_STAT_OPC_ERR : Fld := ⟨R.HOSTP_STAT, 1, 1⟩
def F.HOSTP_STAT_CRC_ERR : Fld := ⟨R.HOSTP_STAT, 0, 0⟩
def R.HOSTP_LASTCMD : Nat := 0x40002048
def F.HOSTP_LASTCMD_CMD : Fld := ⟨R.HOSTP_LASTCMD, 31, 0⟩
def R.HOSTP_LASTADDR : Nat := 0x4000204C
def F.HOSTP_LASTADDR_ADDR : Fld := ⟨R.HOSTP_LASTADDR, 31, 0⟩
def R.HOSTP_CNT_OK : Nat := 0x40002050
def F.HOSTP_CNT_OK_OK : Fld := ⟨R.HOSTP_CNT_OK, 31, 0⟩
def R.HOSTP_CNT_ERR : Nat := 0x40002054
def F.HOSTP_CNT_ERR_OTHER : Fld := ⟨R.HOSTP_CNT_ERR, 31, 16⟩
def F.HOSTP_CNT_ERR_CRC : Fld := ⟨R.HOSTP_CNT_ERR, 15, 0⟩

/-! WHL (03_wheel_inputs.md) -/

def R.WHL_CFG (p : Nat) : Nat := 0x40008040 + 0x1000 * p
def F.WHL_CFG_INVERT (p : Nat) : Fld := ⟨R.WHL_CFG p, 16, 16⟩
def F.WHL_CFG_DIG_LVL (p : Nat) : Fld := ⟨R.WHL_CFG p, 15, 15⟩
def F.WHL_CFG_PULL (p : Nat) : Fld := ⟨R.WHL_CFG p, 14, 13⟩
def F.WHL_CFG_EDGE (p : Nat) : Fld := ⟨R.WHL_CFG p, 12, 11⟩
def F.WHL_CFG_TYPE (p : Nat) : Fld := ⟨R.WHL_CFG p, 10, 8⟩
def F.WHL_CFG_MODE (p : Nat) : Fld := ⟨R.WHL_CFG p, 7, 4⟩
def F.WHL_CFG_PRESET (p : Nat) : Fld := ⟨R.WHL_CFG p, 3, 0⟩
def R.WHL_VR (p : Nat) : Nat := 0x40008044 + 0x1000 * p
def F.WHL_VR_PK_AVG_LOG2 (p : Nat) : Fld := ⟨R.WHL_VR p, 27, 24⟩
def F.WHL_VR_HYST (p : Nat) : Fld := ⟨R.WHL_VR p, 23, 20⟩
def F.WHL_VR_ARM_PCT (p : Nat) : Fld := ⟨R.WHL_VR p, 18, 12⟩
def F.WHL_VR_FLOOR (p : Nat) : Fld := ⟨R.WHL_VR p, 11, 0⟩
def R.WHL_FILT (p : Nat) : Nat := 0x40008048 + 0x1000 * p
def F.WHL_FILT_QUAL_MINT (p : Nat) : Fld := ⟨R.WHL_FILT p, 31, 16⟩
def F.WHL_FILT_GLITCH (p : Nat) : Fld := ⟨R.WHL_FILT p, 15, 0⟩
def R.WHL_QUAL (p : Nat) : Nat := 0x4000804C + 0x1000 * p
def F.WHL_QUAL_QBYPASS (p : Nat) : Fld := ⟨R.WHL_QUAL p, 24, 24⟩
def F.WHL_QUAL_W_MAX (p : Nat) : Fld := ⟨R.WHL_QUAL p, 16, 8⟩
def F.WHL_QUAL_W_MIN (p : Nat) : Fld := ⟨R.WHL_QUAL p, 6, 0⟩
def R.WHL_DIR (p : Nat) : Nat := 0x40008050 + 0x1000 * p
def F.WHL_DIR_DIR_INV (p : Nat) : Fld := ⟨R.WHL_DIR p, 31, 31⟩
def F.WHL_DIR_PW_MAX (p : Nat) : Fld := ⟨R.WHL_DIR p, 27, 16⟩
def F.WHL_DIR_PW_THR (p : Nat) : Fld := ⟨R.WHL_DIR p, 11, 0⟩
def R.WHL_DLY (p : Nat) : Nat := 0x40008054 + 0x1000 * p
def F.WHL_DLY_DLY (p : Nat) : Fld := ⟨R.WHL_DLY p, 15, 0⟩
def R.WHL_STAT (p : Nat) : Nat := 0x40008058 + 0x1000 * p
def F.WHL_STAT_PEAK (p : Nat) : Fld := ⟨R.WHL_STAT p, 27, 16⟩
def F.WHL_STAT_SENS_SHORT (p : Nat) : Fld := ⟨R.WHL_STAT p, 5, 5⟩
def F.WHL_STAT_SENS_OPEN (p : Nat) : Fld := ⟨R.WHL_STAT p, 4, 4⟩
def F.WHL_STAT_PRED_VALID (p : Nat) : Fld := ⟨R.WHL_STAT p, 3, 3⟩
def F.WHL_STAT_DIR (p : Nat) : Fld := ⟨R.WHL_STAT p, 2, 2⟩
def F.WHL_STAT_ARMED (p : Nat) : Fld := ⟨R.WHL_STAT p, 1, 1⟩
def F.WHL_STAT_LEVEL (p : Nat) : Fld := ⟨R.WHL_STAT p, 0, 0⟩
def R.WHL_LAST_LO (p : Nat) : Nat := 0x4000805C + 0x1000 * p
def F.WHL_LAST_LO_TS_LO (p : Nat) : Fld := ⟨R.WHL_LAST_LO p, 31, 0⟩
def R.WHL_LAST_HI (p : Nat) : Nat := 0x40008060 + 0x1000 * p
def F.WHL_LAST_HI_TS_HI (p : Nat) : Fld := ⟨R.WHL_LAST_HI p, 31, 0⟩
def R.WHL_RATIO (p : Nat) : Nat := 0x40008064 + 0x1000 * p
def F.WHL_RATIO_HOLDOVER (p : Nat) : Fld := ⟨R.WHL_RATIO p, 18, 18⟩
def F.WHL_RATIO_DIR (p : Nat) : Fld := ⟨R.WHL_RATIO p, 17, 17⟩
def F.WHL_RATIO_LATE (p : Nat) : Fld := ⟨R.WHL_RATIO p, 16, 16⟩
def F.WHL_RATIO_RATIO (p : Nat) : Fld := ⟨R.WHL_RATIO p, 15, 0⟩
def R.WHL_CNT_ACC (p : Nat) : Nat := 0x40008068 + 0x1000 * p
def F.WHL_CNT_ACC_ACC (p : Nat) : Fld := ⟨R.WHL_CNT_ACC p, 31, 0⟩
def R.WHL_CNT_NOISE (p : Nat) : Nat := 0x4000806C + 0x1000 * p
def F.WHL_CNT_NOISE_SHORT (p : Nat) : Fld := ⟨R.WHL_CNT_NOISE p, 31, 16⟩
def F.WHL_CNT_NOISE_NOISE (p : Nat) : Fld := ⟨R.WHL_CNT_NOISE p, 15, 0⟩
def R.WHL_CNT_MISC (p : Nat) : Nat := 0x40008070 + 0x1000 * p
def F.WHL_CNT_MISC_LATE (p : Nat) : Fld := ⟨R.WHL_CNT_MISC p, 31, 16⟩
def F.WHL_CNT_MISC_GLITCH (p : Nat) : Fld := ⟨R.WHL_CNT_MISC p, 15, 0⟩
def R.WHL_CNT_DIAG (p : Nat) : Nat := 0x40008074 + 0x1000 * p
def F.WHL_CNT_DIAG_OVF (p : Nat) : Fld := ⟨R.WHL_CNT_DIAG p, 31, 16⟩
def F.WHL_CNT_DIAG_DIAG (p : Nat) : Fld := ⟨R.WHL_CNT_DIAG p, 15, 0⟩
def R.WHL_NOISE_LIM (p : Nat) : Nat := 0x40008078 + 0x1000 * p
def F.WHL_NOISE_LIM_LIMIT (p : Nat) : Fld := ⟨R.WHL_NOISE_LIM p, 7, 0⟩
def R.WHL_BIND (p : Nat) : Nat := 0x4000807C + 0x1000 * p
def F.WHL_BIND_ROLE (p : Nat) : Fld := ⟨R.WHL_BIND p, 4, 2⟩
def F.WHL_BIND_DOMAIN (p : Nat) : Fld := ⟨R.WHL_BIND p, 1, 0⟩
def R.WHL_CLR (p : Nat) : Nat := 0x40008080 + 0x1000 * p
def F.WHL_CLR_CNT (p : Nat) : Fld := ⟨R.WHL_CLR p, 0, 0⟩
def R.WHL_SSC (p : Nat) : Nat := 0x40008084 + 0x1000 * p
def F.WHL_SSC_SSC_EVT (p : Nat) : Fld := ⟨R.WHL_SSC p, 2, 2⟩
def F.WHL_SSC_SSC_LVL (p : Nat) : Fld := ⟨R.WHL_SSC p, 1, 1⟩
def F.WHL_SSC_SSC_ON (p : Nat) : Fld := ⟨R.WHL_SSC p, 0, 0⟩

/-! ANG (04_angle_tracking.md) -/

def R.ANG_CFG (p : Nat) : Nat := 0x40010040 + 0x1000 * p
def F.ANG_CFG_GUESS_PH (p : Nat) : Fld := ⟨R.ANG_CFG p, 20, 20⟩
def F.ANG_CFG_REACQ_MAN (p : Nat) : Fld := ⟨R.ANG_CFG p, 19, 19⟩
def F.ANG_CFG_STALL_RESUME (p : Nat) : Fld := ⟨R.ANG_CFG p, 18, 18⟩
def F.ANG_CFG_GUESS_EN (p : Nat) : Fld := ⟨R.ANG_CFG p, 17, 17⟩
def F.ANG_CFG_LIMP_CAM_EN (p : Nat) : Fld := ⟨R.ANG_CFG p, 16, 16⟩
def F.ANG_CFG_LIMP_CRANK_EN (p : Nat) : Fld := ⟨R.ANG_CFG p, 15, 15⟩
def F.ANG_CFG_CONFIRM_GAPS (p : Nat) : Fld := ⟨R.ANG_CFG p, 14, 13⟩
def F.ANG_CFG_REP_MAX (p : Nat) : Fld := ⟨R.ANG_CFG p, 12, 10⟩
def F.ANG_CFG_REV_PAT (p : Nat) : Fld := ⟨R.ANG_CFG p, 9, 9⟩
def F.ANG_CFG_STROKE (p : Nat) : Fld := ⟨R.ANG_CFG p, 8, 8⟩
def F.ANG_CFG_MODE (p : Nat) : Fld := ⟨R.ANG_CFG p, 7, 4⟩
def F.ANG_CFG_PRESET (p : Nat) : Fld := ⟨R.ANG_CFG p, 3, 0⟩
def R.ANG_BIND (p : Nat) : Nat := 0x40010044 + 0x1000 * p
def F.ANG_BIND_C2_EN (p : Nat) : Fld := ⟨R.ANG_BIND p, 19, 19⟩
def F.ANG_BIND_C2_WHL (p : Nat) : Fld := ⟨R.ANG_BIND p, 18, 16⟩
def F.ANG_BIND_C1_EN (p : Nat) : Fld := ⟨R.ANG_BIND p, 15, 15⟩
def F.ANG_BIND_C1_WHL (p : Nat) : Fld := ⟨R.ANG_BIND p, 14, 12⟩
def F.ANG_BIND_C0_EN (p : Nat) : Fld := ⟨R.ANG_BIND p, 11, 11⟩
def F.ANG_BIND_C0_WHL (p : Nat) : Fld := ⟨R.ANG_BIND p, 10, 8⟩
def F.ANG_BIND_RED_EN (p : Nat) : Fld := ⟨R.ANG_BIND p, 7, 7⟩
def F.ANG_BIND_RED_WHL (p : Nat) : Fld := ⟨R.ANG_BIND p, 6, 4⟩
def F.ANG_BIND_PRIM_EN (p : Nat) : Fld := ⟨R.ANG_BIND p, 3, 3⟩
def F.ANG_BIND_PRIM_WHL (p : Nat) : Fld := ⟨R.ANG_BIND p, 2, 0⟩
def R.ANG_TTN_A (p : Nat) : Nat := 0x40010048 + 0x1000 * p
def F.ANG_TTN_A_RED_N (p : Nat) : Fld := ⟨R.ANG_TTN_A p, 25, 16⟩
def F.ANG_TTN_A_PRIM_N (p : Nat) : Fld := ⟨R.ANG_TTN_A p, 9, 0⟩
def R.ANG_TTN_B (p : Nat) : Nat := 0x4001004C + 0x1000 * p
def F.ANG_TTN_B_C1_N (p : Nat) : Fld := ⟨R.ANG_TTN_B p, 25, 16⟩
def F.ANG_TTN_B_C0_N (p : Nat) : Fld := ⟨R.ANG_TTN_B p, 9, 0⟩
def R.ANG_TTN_C (p : Nat) : Nat := 0x40010050 + 0x1000 * p
def F.ANG_TTN_C_C2_N (p : Nat) : Fld := ⟨R.ANG_TTN_C p, 9, 0⟩
def R.ANG_PAT (p : Nat) : Nat := 0x40010054 + 0x1000 * p
def F.ANG_PAT_GAP_FIND (p : Nat) : Fld := ⟨R.ANG_PAT p, 31, 24⟩
def F.ANG_PAT_REP_HI (p : Nat) : Fld := ⟨R.ANG_PAT p, 23, 16⟩
def F.ANG_PAT_GAP_MAX (p : Nat) : Fld := ⟨R.ANG_PAT p, 15, 8⟩
def F.ANG_PAT_GAP_MIN (p : Nat) : Fld := ⟨R.ANG_PAT p, 6, 0⟩
def R.ANG_PAT2 (p : Nat) : Nat := 0x40010058 + 0x1000 * p
def F.ANG_PAT2_REP_LO (p : Nat) : Fld := ⟨R.ANG_PAT2 p, 6, 0⟩
def R.ANG_TOL (p : Nat) : Nat := 0x4001005C + 0x1000 * p
def F.ANG_TOL_RED_TOL (p : Nat) : Fld := ⟨R.ANG_TOL p, 27, 16⟩
def F.ANG_TOL_CAM_TOL (p : Nat) : Fld := ⟨R.ANG_TOL p, 11, 0⟩
def R.ANG_LOSS (p : Nat) : Nat := 0x40010060 + 0x1000 * p
def F.ANG_LOSS_CAM_LOSS_CYC (p : Nat) : Fld := ⟨R.ANG_LOSS p, 31, 28⟩
def F.ANG_LOSS_CRANK_LOSS (p : Nat) : Fld := ⟨R.ANG_LOSS p, 27, 24⟩
def F.ANG_LOSS_PHASE_TO (p : Nat) : Fld := ⟨R.ANG_LOSS p, 23, 16⟩
def R.ANG_STALL (p : Nat) : Nat := 0x40010064 + 0x1000 * p
def F.ANG_STALL_STALL_T (p : Nat) : Fld := ⟨R.ANG_STALL p, 16, 0⟩
def R.ANG_DIR (p : Nat) : Nat := 0x40010068 + 0x1000 * p
def F.ANG_DIR_N_FWD (p : Nat) : Fld := ⟨R.ANG_DIR p, 11, 8⟩
def F.ANG_DIR_CMD_ACT (p : Nat) : Fld := ⟨R.ANG_DIR p, 1, 1⟩
def F.ANG_DIR_CMD (p : Nat) : Fld := ⟨R.ANG_DIR p, 0, 0⟩
def R.ANG_CTL (p : Nat) : Nat := 0x4001006C + 0x1000 * p
def F.ANG_CTL_CLR (p : Nat) : Fld := ⟨R.ANG_CTL p, 2, 2⟩
def F.ANG_CTL_SYNC_DROP (p : Nat) : Fld := ⟨R.ANG_CTL p, 1, 1⟩
def F.ANG_CTL_REACQ (p : Nat) : Fld := ⟨R.ANG_CTL p, 0, 0⟩
def R.ANG_STATE (p : Nat) : Nat := 0x40010070 + 0x1000 * p
def F.ANG_STATE_RFWD (p : Nat) : Fld := ⟨R.ANG_STATE p, 31, 24⟩
def F.ANG_STATE_LAST_DROP (p : Nat) : Fld := ⟨R.ANG_STATE p, 23, 16⟩
def F.ANG_STATE_PHASE_OK (p : Nat) : Fld := ⟨R.ANG_STATE p, 15, 15⟩
def F.ANG_STATE_PRIM_OK (p : Nat) : Fld := ⟨R.ANG_STATE p, 14, 14⟩
def F.ANG_STATE_RED_OK (p : Nat) : Fld := ⟨R.ANG_STATE p, 13, 13⟩
def F.ANG_STATE_CAM_OK (p : Nat) : Fld := ⟨R.ANG_STATE p, 12, 10⟩
def F.ANG_STATE_SRC (p : Nat) : Fld := ⟨R.ANG_STATE p, 9, 7⟩
def F.ANG_STATE_WAIT_REACQ (p : Nat) : Fld := ⟨R.ANG_STATE p, 6, 6⟩
def F.ANG_STATE_HOLDOVER (p : Nat) : Fld := ⟨R.ANG_STATE p, 5, 5⟩
def F.ANG_STATE_REVERSE (p : Nat) : Fld := ⟨R.ANG_STATE p, 4, 4⟩
def F.ANG_STATE_STATE (p : Nat) : Fld := ⟨R.ANG_STATE p, 3, 0⟩
def R.ANG_POS (p : Nat) : Nat := 0x40010074 + 0x1000 * p
def F.ANG_POS_REP_CYC (p : Nat) : Fld := ⟨R.ANG_POS p, 23, 16⟩
def F.ANG_POS_INDEX (p : Nat) : Fld := ⟨R.ANG_POS p, 8, 0⟩
def R.ANG_TANGLE (p : Nat) : Nat := 0x40010078 + 0x1000 * p
def F.ANG_TANGLE_TANGLE (p : Nat) : Fld := ⟨R.ANG_TANGLE p, 31, 0⟩
def R.ANG_CYC (p : Nat) : Nat := 0x4001007C + 0x1000 * p
def F.ANG_CYC_CYC (p : Nat) : Fld := ⟨R.ANG_CYC p, 31, 0⟩
def R.ANG_ELOCK (p i : Nat) : Nat := 0x40010080 + 0x1000 * p + 4 * i
def F.ANG_ELOCK_EN (p i : Nat) : Fld := ⟨R.ANG_ELOCK p i, 31, 31⟩
def F.ANG_ELOCK_ACT (p i : Nat) : Fld := ⟨R.ANG_ELOCK p i, 30, 29⟩
def F.ANG_ELOCK_INDEX (p i : Nat) : Fld := ⟨R.ANG_ELOCK p i, 16, 8⟩
def F.ANG_ELOCK_CHAN (p i : Nat) : Fld := ⟨R.ANG_ELOCK p i, 7, 0⟩
def R.ANG_CNT_A (p : Nat) : Nat := 0x400100A0 + 0x1000 * p
def F.ANG_CNT_A_DROP (p : Nat) : Fld := ⟨R.ANG_CNT_A p, 31, 16⟩
def F.ANG_CNT_A_REPAIR (p : Nat) : Fld := ⟨R.ANG_CNT_A p, 15, 0⟩
def R.ANG_CNT_B (p : Nat) : Nat := 0x400100A4 + 0x1000 * p
def F.ANG_CNT_B_REV (p : Nat) : Fld := ⟨R.ANG_CNT_B p, 31, 16⟩
def F.ANG_CNT_B_CAMERR (p : Nat) : Fld := ⟨R.ANG_CNT_B p, 15, 0⟩
def R.ANG_CNT_C (p : Nat) : Nat := 0x400100A8 + 0x1000 * p
def F.ANG_CNT_C_REDERR (p : Nat) : Fld := ⟨R.ANG_CNT_C p, 31, 16⟩
def F.ANG_CNT_C_SHADOW (p : Nat) : Fld := ⟨R.ANG_CNT_C p, 15, 0⟩
def R.ANG_TTSTAT (p : Nat) : Nat := 0x400100AC + 0x1000 * p
def F.ANG_TTSTAT_CODE (p : Nat) : Fld := ⟨R.ANG_TTSTAT p, 23, 16⟩
def F.ANG_TTSTAT_ROLE (p : Nat) : Fld := ⟨R.ANG_TTSTAT p, 15, 13⟩
def F.ANG_TTSTAT_ENTRY (p : Nat) : Fld := ⟨R.ANG_TTSTAT p, 8, 0⟩

/-! PRED (05_angle_prediction.md) -/

def R.PRED_CFG (p : Nat) : Nat := 0x40012040 + 0x1000 * p
def F.PRED_CFG_ACC_LIM (p : Nat) : Fld := ⟨R.PRED_CFG p, 23, 16⟩
def F.PRED_CFG_TOFS_EN (p : Nat) : Fld := ⟨R.PRED_CFG p, 13, 13⟩
def F.PRED_CFG_DUNE_EN (p : Nat) : Fld := ⟨R.PRED_CFG p, 12, 12⟩
def F.PRED_CFG_NFIT (p : Nat) : Fld := ⟨R.PRED_CFG p, 11, 8⟩
def F.PRED_CFG_MODE (p : Nat) : Fld := ⟨R.PRED_CFG p, 7, 4⟩
def F.PRED_CFG_PRESET (p : Nat) : Fld := ⟨R.PRED_CFG p, 3, 0⟩
def R.PRED_HOLD (p : Nat) : Nat := 0x40012044 + 0x1000 * p
def F.PRED_HOLD_HOLD (p : Nat) : Fld := ⟨R.PRED_HOLD p, 7, 0⟩
def R.PRED_DUNE (p : Nat) : Nat := 0x40012048 + 0x1000 * p
def F.PRED_DUNE_LRN_RPM_MIN (p : Nat) : Fld := ⟨R.PRED_DUNE p, 27, 16⟩
def F.PRED_DUNE_DEV (p : Nat) : Fld := ⟨R.PRED_DUNE p, 15, 8⟩
def F.PRED_DUNE_LEARN (p : Nat) : Fld := ⟨R.PRED_DUNE p, 4, 4⟩
def F.PRED_DUNE_LRATE_LOG2 (p : Nat) : Fld := ⟨R.PRED_DUNE p, 3, 0⟩
def R.PRED_STAT (p : Nat) : Nat := 0x4001204C + 0x1000 * p
def F.PRED_STAT_NPER (p : Nat) : Fld := ⟨R.PRED_STAT p, 15, 12⟩
def F.PRED_STAT_HOLDOVER (p : Nat) : Fld := ⟨R.PRED_STAT p, 6, 6⟩
def F.PRED_STAT_FLOOR (p : Nat) : Fld := ⟨R.PRED_STAT p, 5, 5⟩
def F.PRED_STAT_LEARNED (p : Nat) : Fld := ⟨R.PRED_STAT p, 4, 4⟩
def F.PRED_STAT_DUNE_ACT (p : Nat) : Fld := ⟨R.PRED_STAT p, 3, 3⟩
def F.PRED_STAT_CLAMPED (p : Nat) : Fld := ⟨R.PRED_STAT p, 2, 2⟩
def F.PRED_STAT_HELD (p : Nat) : Fld := ⟨R.PRED_STAT p, 1, 1⟩
def F.PRED_STAT_VALID (p : Nat) : Fld := ⟨R.PRED_STAT p, 0, 0⟩
def R.PRED_ANGLE (p : Nat) : Nat := 0x40012050 + 0x1000 * p
def F.PRED_ANGLE_ANGLE (p : Nat) : Fld := ⟨R.PRED_ANGLE p, 31, 0⟩
def R.PRED_ATS_LO (p : Nat) : Nat := 0x40012054 + 0x1000 * p
def F.PRED_ATS_LO_TS_LO (p : Nat) : Fld := ⟨R.PRED_ATS_LO p, 31, 0⟩
def R.PRED_ATS_HI (p : Nat) : Nat := 0x40012058 + 0x1000 * p
def F.PRED_ATS_HI_TS_HI (p : Nat) : Fld := ⟨R.PRED_ATS_HI p, 31, 0⟩
def R.PRED_RPM (p : Nat) : Nat := 0x4001205C + 0x1000 * p
def F.PRED_RPM_RPM (p : Nat) : Fld := ⟨R.PRED_RPM p, 18, 0⟩
def R.PRED_TK_LO (p : Nat) : Nat := 0x40012060 + 0x1000 * p
def F.PRED_TK_LO_TK_LO (p : Nat) : Fld := ⟨R.PRED_TK_LO p, 31, 0⟩
def R.PRED_TK_HI (p : Nat) : Nat := 0x40012064 + 0x1000 * p
def F.PRED_TK_HI_TK_HI (p : Nat) : Fld := ⟨R.PRED_TK_HI p, 31, 0⟩
def R.PRED_THK (p : Nat) : Nat := 0x40012068 + 0x1000 * p
def F.PRED_THK_THK (p : Nat) : Fld := ⟨R.PRED_THK p, 31, 0⟩
def R.PRED_OMG_LO (p : Nat) : Nat := 0x4001206C + 0x1000 * p
def F.PRED_OMG_LO_OMG_LO (p : Nat) : Fld := ⟨R.PRED_OMG_LO p, 31, 0⟩
def R.PRED_OMG_HI (p : Nat) : Nat := 0x40012070 + 0x1000 * p
def F.PRED_OMG_HI_OMG_HI (p : Nat) : Fld := ⟨R.PRED_OMG_HI p, 15, 0⟩
def R.PRED_ACC_LO (p : Nat) : Nat := 0x40012074 + 0x1000 * p
def F.PRED_ACC_LO_ACC_LO (p : Nat) : Fld := ⟨R.PRED_ACC_LO p, 31, 0⟩
def R.PRED_ACC_HI (p : Nat) : Nat := 0x40012078 + 0x1000 * p
def F.PRED_ACC_HI_ACC_HI (p : Nat) : Fld := ⟨R.PRED_ACC_HI p, 31, 0⟩
def R.PRED_PNEXT (p : Nat) : Nat := 0x4001207C + 0x1000 * p
def F.PRED_PNEXT_PNEXT (p : Nat) : Fld := ⟨R.PRED_PNEXT p, 31, 0⟩
def R.PRED_DEFF (p : Nat) : Nat := 0x40012080 + 0x1000 * p
def F.PRED_DEFF_DEFF (p : Nat) : Fld := ⟨R.PRED_DEFF p, 15, 0⟩
def R.PRED_NORM (p : Nat) : Nat := 0x40012084 + 0x1000 * p
def F.PRED_NORM_NORM (p : Nat) : Fld := ⟨R.PRED_NORM p, 31, 0⟩
def R.PRED_DSTAT (p : Nat) : Nat := 0x40012088 + 0x1000 * p
def F.PRED_DSTAT_MAXDEV (p : Nat) : Fld := ⟨R.PRED_DSTAT p, 31, 16⟩
def F.PRED_DSTAT_LCYC (p : Nat) : Fld := ⟨R.PRED_DSTAT p, 15, 0⟩
def R.PRED_CNT_A (p : Nat) : Nat := 0x4001208C + 0x1000 * p
def F.PRED_CNT_A_CLAMP (p : Nat) : Fld := ⟨R.PRED_CNT_A p, 31, 16⟩
def F.PRED_CNT_A_HOLD (p : Nat) : Fld := ⟨R.PRED_CNT_A p, 15, 0⟩
def R.PRED_CNT_B (p : Nat) : Nat := 0x40012090 + 0x1000 * p
def F.PRED_CNT_B_OUTLIER (p : Nat) : Fld := ⟨R.PRED_CNT_B p, 31, 16⟩
def F.PRED_CNT_B_FLOOR (p : Nat) : Fld := ⟨R.PRED_CNT_B p, 15, 0⟩
def R.PRED_CTL (p : Nat) : Nat := 0x40012094 + 0x1000 * p
def F.PRED_CTL_DUNE_RESET (p : Nat) : Fld := ⟨R.PRED_CTL p, 1, 1⟩
def F.PRED_CTL_CLR (p : Nat) : Fld := ⟨R.PRED_CTL p, 0, 0⟩

/-! CARV (06_event_caravan.md) -/

def R.CARV_DOM_CFG (i : Nat) : Nat := 0x40018040 + 16 * i
def F.CARV_DOM_CFG_W_PAST (i : Nat) : Fld := ⟨R.CARV_DOM_CFG i, 19, 8⟩
def F.CARV_DOM_CFG_MODE (i : Nat) : Fld := ⟨R.CARV_DOM_CFG i, 7, 4⟩
def F.CARV_DOM_CFG_PRESET (i : Nat) : Fld := ⟨R.CARV_DOM_CFG i, 3, 0⟩
def R.CARV_DOM_TIM (i : Nat) : Nat := 0x40018044 + 16 * i
def F.CARV_DOM_TIM_COMMIT_W (i : Nat) : Fld := ⟨R.CARV_DOM_TIM i, 31, 16⟩
def F.CARV_DOM_TIM_ADV (i : Nat) : Fld := ⟨R.CARV_DOM_TIM i, 8, 0⟩
def R.CARV_DOM_STAT (i : Nat) : Nat := 0x40018048 + 16 * i
def F.CARV_DOM_STAT_USED (i : Nat) : Fld := ⟨R.CARV_DOM_STAT i, 24, 16⟩
def F.CARV_DOM_STAT_NLEAD (i : Nat) : Fld := ⟨R.CARV_DOM_STAT i, 11, 8⟩
def F.CARV_DOM_STAT_BLOCKED (i : Nat) : Fld := ⟨R.CARV_DOM_STAT i, 1, 1⟩
def F.CARV_DOM_STAT_COMMITTING (i : Nat) : Fld := ⟨R.CARV_DOM_STAT i, 0, 0⟩
def R.CARV_DOM_NEXT (i : Nat) : Nat := 0x4001804C + 16 * i
def F.CARV_DOM_NEXT_ANGLE (i : Nat) : Fld := ⟨R.CARV_DOM_NEXT i, 31, 0⟩
def R.CARV_LATEDEF : Nat := 0x40018060
def F.CARV_LATEDEF_POL : Fld := ⟨R.CARV_LATEDEF, 17, 0⟩
def R.CARV_LTOL : Nat := 0x40018064
def F.CARV_LTOL_TOL_OTHER : Fld := ⟨R.CARV_LTOL, 31, 16⟩
def F.CARV_LTOL_TOL_PROF : Fld := ⟨R.CARV_LTOL, 15, 0⟩
def R.CARV_RES (i : Nat) : Nat := 0x40018068 + 4 * i
def F.CARV_RES_RES_HI (i : Nat) : Fld := ⟨R.CARV_RES i, 24, 16⟩
def F.CARV_RES_RES_LO (i : Nat) : Fld := ⟨R.CARV_RES i, 8, 0⟩
def R.CARV_POOL : Nat := 0x40018078
def F.CARV_POOL_FREE : Fld := ⟨R.CARV_POOL, 24, 16⟩
def F.CARV_POOL_SHARED_FREE : Fld := ⟨R.CARV_POOL, 8, 0⟩
def R.CARV_ARM_CFG (i : Nat) : Nat := 0x40018080 + 4 * i
def F.CARV_ARM_CFG_EN (i : Nat) : Fld := ⟨R.CARV_ARM_CFG i, 31, 31⟩
def F.CARV_ARM_CFG_REC_ALL (i : Nat) : Fld := ⟨R.CARV_ARM_CFG i, 28, 28⟩
def F.CARV_ARM_CFG_REC_EN (i : Nat) : Fld := ⟨R.CARV_ARM_CFG i, 27, 27⟩
def F.CARV_ARM_CFG_RES (i : Nat) : Fld := ⟨R.CARV_ARM_CFG i, 26, 24⟩
def F.CARV_ARM_CFG_USED (i : Nat) : Fld := ⟨R.CARV_ARM_CFG i, 8, 0⟩
def R.CARV_DARM_CFG : Nat := 0x400180A0
def F.CARV_DARM_CFG_REC_ALL : Fld := ⟨R.CARV_DARM_CFG, 28, 28⟩
def F.CARV_DARM_CFG_REC_EN : Fld := ⟨R.CARV_DARM_CFG, 27, 27⟩
def F.CARV_DARM_CFG_RES : Fld := ⟨R.CARV_DARM_CFG, 26, 24⟩
def F.CARV_DARM_CFG_USED : Fld := ⟨R.CARV_DARM_CFG, 8, 0⟩
def R.CARV_TRC : Nat := 0x400180A4
def F.CARV_TRC_EN : Fld := ⟨R.CARV_TRC, 31, 31⟩
def F.CARV_TRC_RING : Fld := ⟨R.CARV_TRC, 29, 28⟩
def F.CARV_TRC_DOM : Fld := ⟨R.CARV_TRC, 9, 8⟩
def F.CARV_TRC_TYPE_MASK : Fld := ⟨R.CARV_TRC, 6, 0⟩
def R.CARV_DARM_W (i : Nat) : Nat := 0x400180B0 + 4 * i
def F.CARV_DARM_W_WORD (i : Nat) : Fld := ⟨R.CARV_DARM_W i, 31, 0⟩
def R.CARV_DARM_STAT : Nat := 0x400180C0
def F.CARV_DARM_STAT_PEND : Fld := ⟨R.CARV_DARM_STAT, 31, 31⟩
def F.CARV_DARM_STAT_STATUS : Fld := ⟨R.CARV_DARM_STAT, 27, 24⟩
def F.CARV_DARM_STAT_SLOT : Fld := ⟨R.CARV_DARM_STAT, 8, 0⟩
def R.CARV_CANCEL : Nat := 0x400180C4
def F.CARV_CANCEL_TAG : Fld := ⟨R.CARV_CANCEL, 31, 16⟩
def F.CARV_CANCEL_CHK : Fld := ⟨R.CARV_CANCEL, 15, 15⟩
def F.CARV_CANCEL_SLOT : Fld := ⟨R.CARV_CANCEL, 8, 0⟩
def R.CARV_CANCEL_STAT : Nat := 0x400180C8
def F.CARV_CANCEL_STAT_PEND : Fld := ⟨R.CARV_CANCEL_STAT, 31, 31⟩
def F.CARV_CANCEL_STAT_STATUS : Fld := ⟨R.CARV_CANCEL_STAT, 27, 24⟩
def R.CARV_INSP_SEL : Nat := 0x400180CC
def F.CARV_INSP_SEL_SLOT : Fld := ⟨R.CARV_INSP_SEL, 8, 0⟩
def R.CARV_INSP0 : Nat := 0x400180D0
def F.CARV_INSP0_ANGLE : Fld := ⟨R.CARV_INSP0, 31, 0⟩
def R.CARV_INSP1 : Nat := 0x400180D4
def F.CARV_INSP1_W1 : Fld := ⟨R.CARV_INSP1, 31, 0⟩
def R.CARV_INSP2 : Nat := 0x400180D8
def F.CARV_INSP2_DUR : Fld := ⟨R.CARV_INSP2, 31, 0⟩
def R.CARV_INSP3 : Nat := 0x400180DC
def F.CARV_INSP3_STATE : Fld := ⟨R.CARV_INSP3, 31, 29⟩
def F.CARV_INSP3_OWNER : Fld := ⟨R.CARV_INSP3, 28, 25⟩
def F.CARV_INSP3_TAG : Fld := ⟨R.CARV_INSP3, 15, 0⟩
def R.CARV_INSP4 : Nat := 0x400180E0
def F.CARV_INSP4_OFS_A : Fld := ⟨R.CARV_INSP4, 31, 0⟩
def R.CARV_INSP5 : Nat := 0x400180E4
def F.CARV_INSP5_OFS_D : Fld := ⟨R.CARV_INSP5, 31, 0⟩
def R.CARV_INSP6 : Nat := 0x400180E8
def F.CARV_INSP6_T_LO : Fld := ⟨R.CARV_INSP6, 31, 0⟩
def R.CARV_INSP7 : Nat := 0x400180EC
def F.CARV_INSP7_ASEQ : Fld := ⟨R.CARV_INSP7, 31, 0⟩
def R.CARV_CNT_A : Nat := 0x400180F0
def F.CARV_CNT_A_LATE : Fld := ⟨R.CARV_CNT_A, 31, 16⟩
def F.CARV_CNT_A_GUARD : Fld := ⟨R.CARV_CNT_A, 15, 0⟩
def R.CARV_CNT_B : Nat := 0x400180F4
def F.CARV_CNT_B_FULL : Fld := ⟨R.CARV_CNT_B, 31, 16⟩
def F.CARV_CNT_B_REFUSED : Fld := ⟨R.CARV_CNT_B, 15, 0⟩
def R.CARV_CNT_C : Nat := 0x400180F8
def F.CARV_CNT_C_FLUSH : Fld := ⟨R.CARV_CNT_C, 31, 16⟩
def F.CARV_CNT_C_PLACE_LATE : Fld := ⟨R.CARV_CNT_C, 15, 0⟩
def R.CARV_CNT_D : Nat := 0x400180FC
def F.CARV_CNT_D_OVERRUN : Fld := ⟨R.CARV_CNT_D, 31, 16⟩
def F.CARV_CNT_D_REC_LOST : Fld := ⟨R.CARV_CNT_D, 15, 0⟩
def R.CARV_CTL : Nat := 0x40018100
def F.CARV_CTL_CLR : Fld := ⟨R.CARV_CTL, 2, 2⟩
def F.CARV_CTL_FLUSH1 : Fld := ⟨R.CARV_CTL, 1, 1⟩
def F.CARV_CTL_FLUSH0 : Fld := ⟨R.CARV_CTL, 0, 0⟩
def R.CARV_ASEQ : Nat := 0x40018104
def F.CARV_ASEQ_NEXT : Fld := ⟨R.CARV_ASEQ, 31, 0⟩

/-! TRIG (07_output_channels.md) -/

def R.TRIG_SW : Nat := 0x40079040
def F.TRIG_SW_PULSE : Fld := ⟨R.TRIG_SW, 7, 0⟩
def R.TRIG_OVF : Nat := 0x40079044
def F.TRIG_OVF_LAST : Fld := ⟨R.TRIG_OVF, 23, 16⟩
def F.TRIG_OVF_CNT : Fld := ⟨R.TRIG_OVF, 15, 0⟩
def R.TRIG_CTL : Nat := 0x40079048
def F.TRIG_CTL_CLR : Fld := ⟨R.TRIG_CTL, 0, 0⟩
def R.TRIG_SEL (i : Nat) : Nat := 0x40079080 + 4 * i
def F.TRIG_SEL_EN (i : Nat) : Fld := ⟨R.TRIG_SEL i, 31, 31⟩
def F.TRIG_SEL_EDGE (i : Nat) : Fld := ⟨R.TRIG_SEL i, 9, 8⟩
def F.TRIG_SEL_SRC (i : Nat) : Fld := ⟨R.TRIG_SEL i, 6, 0⟩

/-! IGN (07_output_channels.md) -/

def R.IGN_CFG (p : Nat) : Nat := 0x40060040 + 0x1000 * p
def F.IGN_CFG_DOM (p : Nat) : Fld := ⟨R.IGN_CFG p, 16, 16⟩
def F.IGN_CFG_SPRIO (p : Nat) : Fld := ⟨R.IGN_CFG p, 8, 8⟩
def F.IGN_CFG_MODE (p : Nat) : Fld := ⟨R.IGN_CFG p, 7, 4⟩
def F.IGN_CFG_PRESET (p : Nat) : Fld := ⟨R.IGN_CFG p, 3, 0⟩
def R.IGN_DWELL (p : Nat) : Nat := 0x40060044 + 0x1000 * p
def F.IGN_DWELL_MAX (p : Nat) : Fld := ⟨R.IGN_DWELL p, 31, 16⟩
def F.IGN_DWELL_MIN (p : Nat) : Fld := ⟨R.IGN_DWELL p, 15, 0⟩
def R.IGN_FB (p : Nat) : Nat := 0x40060048 + 0x1000 * p
def F.IGN_FB_EN (p : Nat) : Fld := ⟨R.IGN_FB p, 31, 31⟩
def F.IGN_FB_POL (p : Nat) : Fld := ⟨R.IGN_FB p, 30, 30⟩
def F.IGN_FB_INH_SHORT (p : Nat) : Fld := ⟨R.IGN_FB p, 29, 29⟩
def F.IGN_FB_RISE_MIN (p : Nat) : Fld := ⟨R.IGN_FB p, 27, 16⟩
def F.IGN_FB_RISE_MAX (p : Nat) : Fld := ⟨R.IGN_FB p, 15, 0⟩
def R.IGN_FB2 (p : Nat) : Nat := 0x4006004C + 0x1000 * p
def F.IGN_FB2_FALL_MAX (p : Nat) : Fld := ⟨R.IGN_FB2 p, 11, 0⟩
def R.IGN_SOFT (p : Nat) : Nat := 0x40060050 + 0x1000 * p
def F.IGN_SOFT_HOLD (p : Nat) : Fld := ⟨R.IGN_SOFT p, 31, 16⟩
def F.IGN_SOFT_SETUP (p : Nat) : Fld := ⟨R.IGN_SOFT p, 15, 0⟩
def R.IGN_STAT (p : Nat) : Nat := 0x40060054 + 0x1000 * p
def F.IGN_STAT_SOFT (p : Nat) : Fld := ⟨R.IGN_STAT p, 10, 10⟩
def F.IGN_STAT_INHIBIT (p : Nat) : Fld := ⟨R.IGN_STAT p, 9, 9⟩
def F.IGN_STAT_FB (p : Nat) : Fld := ⟨R.IGN_STAT p, 8, 8⟩
def F.IGN_STAT_CHARGING (p : Nat) : Fld := ⟨R.IGN_STAT p, 7, 7⟩
def F.IGN_STAT_PEND (p : Nat) : Fld := ⟨R.IGN_STAT p, 6, 6⟩
def F.IGN_STAT_DMAX (p : Nat) : Fld := ⟨R.IGN_STAT p, 4, 4⟩
def F.IGN_STAT_SHORTDW (p : Nat) : Fld := ⟨R.IGN_STAT p, 3, 3⟩
def F.IGN_STAT_STUCK (p : Nat) : Fld := ⟨R.IGN_STAT p, 2, 2⟩
def F.IGN_STAT_EARLY (p : Nat) : Fld := ⟨R.IGN_STAT p, 1, 1⟩
def F.IGN_STAT_NOCHG (p : Nat) : Fld := ⟨R.IGN_STAT p, 0, 0⟩
def R.IGN_LAST_LO (p : Nat) : Nat := 0x40060058 + 0x1000 * p
def F.IGN_LAST_LO_TS_LO (p : Nat) : Fld := ⟨R.IGN_LAST_LO p, 31, 0⟩
def R.IGN_LAST_HI (p : Nat) : Nat := 0x4006005C + 0x1000 * p
def F.IGN_LAST_HI_TS_HI (p : Nat) : Fld := ⟨R.IGN_LAST_HI p, 31, 0⟩
def R.IGN_LAST_DW (p : Nat) : Nat := 0x40060060 + 0x1000 * p
def F.IGN_LAST_DW_DW (p : Nat) : Fld := ⟨R.IGN_LAST_DW p, 31, 0⟩
def R.IGN_LAST_FB (p : Nat) : Nat := 0x40060064 + 0x1000 * p
def F.IGN_LAST_FB_FB (p : Nat) : Fld := ⟨R.IGN_LAST_FB p, 31, 0⟩
def R.IGN_CNT_A (p : Nat) : Nat := 0x40060068 + 0x1000 * p
def F.IGN_CNT_A_SHORTDW (p : Nat) : Fld := ⟨R.IGN_CNT_A p, 31, 16⟩
def F.IGN_CNT_A_DMAX (p : Nat) : Fld := ⟨R.IGN_CNT_A p, 15, 0⟩
def R.IGN_CNT_B (p : Nat) : Nat := 0x4006006C + 0x1000 * p
def F.IGN_CNT_B_NOCHG (p : Nat) : Fld := ⟨R.IGN_CNT_B p, 31, 16⟩
def F.IGN_CNT_B_EARLY (p : Nat) : Fld := ⟨R.IGN_CNT_B p, 15, 0⟩
def R.IGN_CNT_C (p : Nat) : Nat := 0x40060070 + 0x1000 * p
def F.IGN_CNT_C_STUCK (p : Nat) : Fld := ⟨R.IGN_CNT_C p, 31, 16⟩
def F.IGN_CNT_C_SOFT (p : Nat) : Fld := ⟨R.IGN_CNT_C p, 15, 0⟩
def R.IGN_CTL (p : Nat) : Nat := 0x40060074 + 0x1000 * p
def F.IGN_CTL_UNINH (p : Nat) : Fld := ⟨R.IGN_CTL p, 1, 1⟩
def F.IGN_CTL_CLR (p : Nat) : Fld := ⟨R.IGN_CTL p, 0, 0⟩

/-! TAPC (07_output_channels.md) -/

def R.TAPC_DOM : Nat := 0x40078040
def F.TAPC_DOM_DOM : Fld := ⟨R.TAPC_DOM, 31, 0⟩
def R.TAPC_DSAFE : Nat := 0x40078044
def F.TAPC_DSAFE_DSAFE : Fld := ⟨R.TAPC_DSAFE, 31, 0⟩
def R.TAPC_SWLVL : Nat := 0x40078048
def F.TAPC_SWLVL_LVL : Fld := ⟨R.TAPC_SWLVL, 31, 0⟩
def R.TAPC_EVLVL : Nat := 0x4007804C
def F.TAPC_EVLVL_EV : Fld := ⟨R.TAPC_EVLVL, 31, 0⟩
def R.TAPC_PIN : Nat := 0x40078050
def F.TAPC_PIN_PIN : Fld := ⟨R.TAPC_PIN, 31, 0⟩
def R.TAPC_CFG (i : Nat) : Nat := 0x40078080 + 4 * i
def F.TAPC_CFG_ADC (i : Nat) : Fld := ⟨R.TAPC_CFG i, 27, 25⟩
def F.TAPC_CFG_INP (i : Nat) : Fld := ⟨R.TAPC_CFG i, 24, 20⟩
def F.TAPC_CFG_SAFE (i : Nat) : Fld := ⟨R.TAPC_CFG i, 15, 14⟩
def F.TAPC_CFG_INV (i : Nat) : Fld := ⟨R.TAPC_CFG i, 13, 13⟩
def F.TAPC_CFG_OD (i : Nat) : Fld := ⟨R.TAPC_CFG i, 12, 12⟩
def F.TAPC_CFG_UNIT (i : Nat) : Fld := ⟨R.TAPC_CFG i, 7, 3⟩
def F.TAPC_CFG_SEL (i : Nat) : Fld := ⟨R.TAPC_CFG i, 2, 0⟩

/-! DRV (08_solenoid_drive.md) -/

def R.DRV_CFG (p : Nat) : Nat := 0x40020040 + 0x1000 * p
def F.DRV_CFG_REC_EN (p : Nat) : Fld := ⟨R.DRV_CFG p, 20, 20⟩
def F.DRV_CFG_REC_RES (p : Nat) : Fld := ⟨R.DRV_CFG p, 19, 17⟩
def F.DRV_CFG_DOM (p : Nat) : Fld := ⟨R.DRV_CFG p, 16, 16⟩
def F.DRV_CFG_DIRECT_SUP (p : Nat) : Fld := ⟨R.DRV_CFG p, 13, 12⟩
def F.DRV_CFG_PROF (p : Nat) : Fld := ⟨R.DRV_CFG p, 11, 8⟩
def F.DRV_CFG_MODE (p : Nat) : Fld := ⟨R.DRV_CFG p, 7, 4⟩
def F.DRV_CFG_PRESET (p : Nat) : Fld := ⟨R.DRV_CFG p, 3, 0⟩
def R.DRV_SENSE (p : Nat) : Nat := 0x40020044 + 0x1000 * p
def F.DRV_SENSE_OC_THR (p : Nat) : Fld := ⟨R.DRV_SENSE p, 27, 16⟩
def F.DRV_SENSE_RSH (p : Nat) : Fld := ⟨R.DRV_SENSE p, 9, 0⟩
def R.DRV_TIM (p : Nat) : Nat := 0x40020048 + 0x1000 * p
def F.DRV_TIM_ON_MAX (p : Nat) : Fld := ⟨R.DRV_TIM p, 31, 16⟩
def F.DRV_TIM_OFF_MIN (p : Nat) : Fld := ⟨R.DRV_TIM p, 15, 0⟩
def R.DRV_DUTY (p : Nat) : Nat := 0x4002004C + 0x1000 * p
def F.DRV_DUTY_DUTY_WIN (p : Nat) : Fld := ⟨R.DRV_DUTY p, 31, 16⟩
def F.DRV_DUTY_DUTY_MAX (p : Nat) : Fld := ⟨R.DRV_DUTY p, 6, 0⟩
def R.DRV_DIAG (p : Nat) : Nat := 0x40020050 + 0x1000 * p
def F.DRV_DIAG_OC_TRIPS (p : Nat) : Fld := ⟨R.DRV_DIAG p, 27, 24⟩
def F.DRV_DIAG_OPEN_PCT (p : Nat) : Fld := ⟨R.DRV_DIAG p, 22, 16⟩
def F.DRV_DIAG_RISE_MIN (p : Nat) : Fld := ⟨R.DRV_DIAG p, 11, 0⟩
def R.DRV_DIAG2 (p : Nat) : Nat := 0x40020054 + 0x1000 * p
def F.DRV_DIAG2_OFF_I (p : Nat) : Fld := ⟨R.DRV_DIAG2 p, 11, 0⟩
def R.DRV_STAT (p : Nat) : Nat := 0x40020058 + 0x1000 * p
def F.DRV_STAT_INHIBIT (p : Nat) : Fld := ⟨R.DRV_STAT p, 26, 26⟩
def F.DRV_STAT_BAT_FB (p : Nat) : Fld := ⟨R.DRV_STAT p, 25, 25⟩
def F.DRV_STAT_THR_SAT (p : Nat) : Fld := ⟨R.DRV_STAT p, 24, 24⟩
def F.DRV_STAT_ARM_MISS (p : Nat) : Fld := ⟨R.DRV_STAT p, 23, 23⟩
def F.DRV_STAT_PH_TO (p : Nat) : Fld := ⟨R.DRV_STAT p, 22, 22⟩
def F.DRV_STAT_DUTY (p : Nat) : Fld := ⟨R.DRV_STAT p, 21, 21⟩
def F.DRV_STAT_ONMAX (p : Nat) : Fld := ⟨R.DRV_STAT p, 20, 20⟩
def F.DRV_STAT_LS_SHORT (p : Nat) : Fld := ⟨R.DRV_STAT p, 19, 19⟩
def F.DRV_STAT_SHORT (p : Nat) : Fld := ⟨R.DRV_STAT p, 18, 18⟩
def F.DRV_STAT_OPEN (p : Nat) : Fld := ⟨R.DRV_STAT p, 17, 17⟩
def F.DRV_STAT_OC (p : Nat) : Fld := ⟨R.DRV_STAT p, 16, 16⟩
def F.DRV_STAT_CMD (p : Nat) : Fld := ⟨R.DRV_STAT p, 9, 9⟩
def F.DRV_STAT_GATE (p : Nat) : Fld := ⟨R.DRV_STAT p, 8, 8⟩
def F.DRV_STAT_PHASE (p : Nat) : Fld := ⟨R.DRV_STAT p, 6, 4⟩
def F.DRV_STAT_STATE (p : Nat) : Fld := ⟨R.DRV_STAT p, 2, 0⟩
def R.DRV_LAST_LO (p : Nat) : Nat := 0x4002005C + 0x1000 * p
def F.DRV_LAST_LO_TS_LO (p : Nat) : Fld := ⟨R.DRV_LAST_LO p, 31, 0⟩
def R.DRV_LAST_HI (p : Nat) : Nat := 0x40020060 + 0x1000 * p
def F.DRV_LAST_HI_TS_HI (p : Nat) : Fld := ⟨R.DRV_LAST_HI p, 31, 0⟩
def R.DRV_LAST_ARM (p : Nat) : Nat := 0x40020064 + 0x1000 * p
def F.DRV_LAST_ARM_ARM (p : Nat) : Fld := ⟨R.DRV_LAST_ARM p, 31, 0⟩
def R.DRV_LAST_I (p : Nat) : Nat := 0x40020068 + 0x1000 * p
def F.DRV_LAST_I_I_ARM (p : Nat) : Fld := ⟨R.DRV_LAST_I p, 27, 16⟩
def F.DRV_LAST_I_PEAK (p : Nat) : Fld := ⟨R.DRV_LAST_I p, 11, 0⟩
def R.DRV_DUTY_NOW (p : Nat) : Nat := 0x4002006C + 0x1000 * p
def F.DRV_DUTY_NOW_USE (p : Nat) : Fld := ⟨R.DRV_DUTY_NOW p, 9, 0⟩
def R.DRV_CNT_A (p : Nat) : Nat := 0x40020070 + 0x1000 * p
def F.DRV_CNT_A_OC (p : Nat) : Fld := ⟨R.DRV_CNT_A p, 31, 16⟩
def F.DRV_CNT_A_ARM_MISS (p : Nat) : Fld := ⟨R.DRV_CNT_A p, 15, 0⟩
def R.DRV_CNT_B (p : Nat) : Nat := 0x40020074 + 0x1000 * p
def F.DRV_CNT_B_DROP (p : Nat) : Fld := ⟨R.DRV_CNT_B p, 31, 16⟩
def F.DRV_CNT_B_FLAG (p : Nat) : Fld := ⟨R.DRV_CNT_B p, 15, 0⟩
def R.DRV_CNT_C (p : Nat) : Nat := 0x40020078 + 0x1000 * p
def F.DRV_CNT_C_DELAY (p : Nat) : Fld := ⟨R.DRV_CNT_C p, 31, 16⟩
def F.DRV_CNT_C_REC_LOST (p : Nat) : Fld := ⟨R.DRV_CNT_C p, 15, 0⟩
def R.DRV_CTL (p : Nat) : Nat := 0x4002007C + 0x1000 * p
def F.DRV_CTL_ABORT (p : Nat) : Fld := ⟨R.DRV_CTL p, 2, 2⟩
def F.DRV_CTL_UNINH (p : Nat) : Fld := ⟨R.DRV_CTL p, 1, 1⟩
def F.DRV_CTL_CLR (p : Nat) : Fld := ⟨R.DRV_CTL p, 0, 0⟩

/-! BANK (08_solenoid_drive.md) -/

def R.BANK_CFG (p : Nat) : Nat := 0x40050040 + 0x1000 * p
def F.BANK_CFG_MAX_DELAY (p : Nat) : Fld := ⟨R.BANK_CFG p, 31, 16⟩
def F.BANK_CFG_POLICY (p : Nat) : Fld := ⟨R.BANK_CFG p, 9, 8⟩
def F.BANK_CFG_MODE (p : Nat) : Fld := ⟨R.BANK_CFG p, 7, 4⟩
def F.BANK_CFG_PRESET (p : Nat) : Fld := ⟨R.BANK_CFG p, 3, 0⟩
def R.BANK_DIAG (p : Nat) : Nat := 0x40050044 + 0x1000 * p
def F.BANK_DIAG_SW_LO (p : Nat) : Fld := ⟨R.BANK_DIAG p, 27, 16⟩
def F.BANK_DIAG_SW_HI (p : Nat) : Fld := ⟨R.BANK_DIAG p, 11, 0⟩
def R.BANK_STAT (p : Nat) : Nat := 0x40050048 + 0x1000 * p
def F.BANK_STAT_PREEMPT (p : Nat) : Fld := ⟨R.BANK_STAT p, 31, 31⟩
def F.BANK_STAT_WAIT_DROP (p : Nat) : Fld := ⟨R.BANK_STAT p, 30, 30⟩
def F.BANK_STAT_GND_SHORT (p : Nat) : Fld := ⟨R.BANK_STAT p, 29, 29⟩
def F.BANK_STAT_HS_SHORT (p : Nat) : Fld := ⟨R.BANK_STAT p, 28, 28⟩
def F.BANK_STAT_VSW (p : Nat) : Fld := ⟨R.BANK_STAT p, 27, 16⟩
def F.BANK_STAT_LATCHED (p : Nat) : Fld := ⟨R.BANK_STAT p, 9, 9⟩
def F.BANK_STAT_SHARED (p : Nat) : Fld := ⟨R.BANK_STAT p, 8, 8⟩
def F.BANK_STAT_HV (p : Nat) : Fld := ⟨R.BANK_STAT p, 5, 5⟩
def F.BANK_STAT_HB (p : Nat) : Fld := ⟨R.BANK_STAT p, 4, 4⟩
def F.BANK_STAT_COND (p : Nat) : Fld := ⟨R.BANK_STAT p, 3, 0⟩
def R.BANK_ADC (p : Nat) : Nat := 0x4005004C + 0x1000 * p
def F.BANK_ADC_CH (p : Nat) : Fld := ⟨R.BANK_ADC p, 13, 12⟩
def F.BANK_ADC_CODE (p : Nat) : Fld := ⟨R.BANK_ADC p, 11, 0⟩
def R.BANK_CNT_A (p : Nat) : Nat := 0x40050050 + 0x1000 * p
def F.BANK_CNT_A_WAIT (p : Nat) : Fld := ⟨R.BANK_CNT_A p, 31, 16⟩
def F.BANK_CNT_A_WAIT_DROP (p : Nat) : Fld := ⟨R.BANK_CNT_A p, 15, 0⟩
def R.BANK_CNT_B (p : Nat) : Nat := 0x40050054 + 0x1000 * p
def F.BANK_CNT_B_PREEMPT (p : Nat) : Fld := ⟨R.BANK_CNT_B p, 31, 16⟩
def F.BANK_CNT_B_SHARE (p : Nat) : Fld := ⟨R.BANK_CNT_B p, 15, 0⟩
def R.BANK_CTL (p : Nat) : Nat := 0x40050058 + 0x1000 * p
def F.BANK_CTL_UNLATCH (p : Nat) : Fld := ⟨R.BANK_CTL p, 1, 1⟩
def F.BANK_CTL_CLR (p : Nat) : Fld := ⟨R.BANK_CTL p, 0, 0⟩

/-! BST (08_solenoid_drive.md) -/

def R.BST_CFG (p : Nat) : Nat := 0x4005C040 + 0x1000 * p
def F.BST_CFG_READY (p : Nat) : Fld := ⟨R.BST_CFG p, 30, 24⟩
def F.BST_CFG_TARGET (p : Nat) : Fld := ⟨R.BST_CFG p, 22, 16⟩
def F.BST_CFG_MODE (p : Nat) : Fld := ⟨R.BST_CFG p, 7, 4⟩
def F.BST_CFG_PRESET (p : Nat) : Fld := ⟨R.BST_CFG p, 3, 0⟩
def R.BST_SW (p : Nat) : Nat := 0x4005C044 + 0x1000 * p
def F.BST_SW_TOFF (p : Nat) : Fld := ⟨R.BST_SW p, 31, 16⟩
def F.BST_SW_TON (p : Nat) : Fld := ⟨R.BST_SW p, 15, 0⟩
def R.BST_LIM (p : Nat) : Nat := 0x4005C048 + 0x1000 * p
def F.BST_LIM_CHG_TO (p : Nat) : Fld := ⟨R.BST_LIM p, 31, 16⟩
def F.BST_LIM_HYST (p : Nat) : Fld := ⟨R.BST_LIM p, 15, 8⟩
def F.BST_LIM_OV (p : Nat) : Fld := ⟨R.BST_LIM p, 6, 0⟩
def R.BST_STAT (p : Nat) : Nat := 0x4005C04C + 0x1000 * p
def F.BST_STAT_TIMEOUT (p : Nat) : Fld := ⟨R.BST_STAT p, 17, 17⟩
def F.BST_STAT_OV (p : Nat) : Fld := ⟨R.BST_STAT p, 16, 16⟩
def F.BST_STAT_SWITCHING (p : Nat) : Fld := ⟨R.BST_STAT p, 13, 13⟩
def F.BST_STAT_READY_ST (p : Nat) : Fld := ⟨R.BST_STAT p, 12, 12⟩
def F.BST_STAT_VHV (p : Nat) : Fld := ⟨R.BST_STAT p, 11, 0⟩
def R.BST_VB (p : Nat) : Nat := 0x4005C050 + 0x1000 * p
def F.BST_VB_VB (p : Nat) : Fld := ⟨R.BST_VB p, 11, 0⟩
def R.BST_CNT_A (p : Nat) : Nat := 0x4005C054 + 0x1000 * p
def F.BST_CNT_A_OV (p : Nat) : Fld := ⟨R.BST_CNT_A p, 31, 16⟩
def F.BST_CNT_A_TIMEOUT (p : Nat) : Fld := ⟨R.BST_CNT_A p, 15, 0⟩
def R.BST_CNT_B (p : Nat) : Nat := 0x4005C058 + 0x1000 * p
def F.BST_CNT_B_BNR_WAIT (p : Nat) : Fld := ⟨R.BST_CNT_B p, 31, 16⟩
def F.BST_CNT_B_BNR_FB (p : Nat) : Fld := ⟨R.BST_CNT_B p, 15, 0⟩
def R.BST_CNT_C (p : Nat) : Nat := 0x4005C05C + 0x1000 * p
def F.BST_CNT_C_BNR_SKIP (p : Nat) : Fld := ⟨R.BST_CNT_C p, 15, 0⟩
def R.BST_CTL (p : Nat) : Nat := 0x4005C060 + 0x1000 * p
def F.BST_CTL_CLR (p : Nat) : Fld := ⟨R.BST_CTL p, 0, 0⟩

/-! PROF (08_solenoid_drive.md) -/

def R.PROF_LOAD : Nat := 0x4005E040
def F.PROF_LOAD_PROF : Fld := ⟨R.PROF_LOAD, 3, 0⟩
def R.PROF_LSTAT : Nat := 0x4005E044
def F.PROF_LSTAT_PEND : Fld := ⟨R.PROF_LSTAT, 31, 31⟩
def F.PROF_LSTAT_CODE : Fld := ⟨R.PROF_LSTAT, 27, 24⟩
def F.PROF_LSTAT_PROF : Fld := ⟨R.PROF_LSTAT, 19, 16⟩
def F.PROF_LSTAT_PHASE : Fld := ⟨R.PROF_LSTAT, 6, 4⟩
def R.PROF_VALID : Nat := 0x4005E048
def F.PROF_VALID_VALID : Fld := ⟨R.PROF_VALID, 15, 0⟩

/-! ADC (09_angle_sampling.md) -/

def R.ADC_CFG (p : Nat) : Nat := 0x40080040 + 0x1000 * p
def F.ADC_CFG_REC_EN (p : Nat) : Fld := ⟨R.ADC_CFG p, 20, 20⟩
def F.ADC_CFG_REC_RES (p : Nat) : Fld := ⟨R.ADC_CFG p, 19, 17⟩
def F.ADC_CFG_TRIG_INP (p : Nat) : Fld := ⟨R.ADC_CFG p, 13, 8⟩
def F.ADC_CFG_MODE (p : Nat) : Fld := ⟨R.ADC_CFG p, 7, 4⟩
def F.ADC_CFG_PRESET (p : Nat) : Fld := ⟨R.ADC_CFG p, 3, 0⟩
def R.ADC_TRACK (p : Nat) : Nat := 0x40080044 + 0x1000 * p
def F.ADC_TRACK_TRACK (p : Nat) : Fld := ⟨R.ADC_TRACK p, 13, 0⟩
def R.ADC_SW (p : Nat) : Nat := 0x40080048 + 0x1000 * p
def F.ADC_SW_GO (p : Nat) : Fld := ⟨R.ADC_SW p, 31, 31⟩
def F.ADC_SW_INP (p : Nat) : Fld := ⟨R.ADC_SW p, 5, 0⟩
def R.ADC_SWRES (p : Nat) : Nat := 0x4008004C + 0x1000 * p
def F.ADC_SWRES_DONE (p : Nat) : Fld := ⟨R.ADC_SWRES p, 31, 31⟩
def F.ADC_SWRES_LOST (p : Nat) : Fld := ⟨R.ADC_SWRES p, 30, 30⟩
def F.ADC_SWRES_VALUE (p : Nat) : Fld := ⟨R.ADC_SWRES p, 15, 0⟩
def R.ADC_SWTS_LO (p : Nat) : Nat := 0x40080050 + 0x1000 * p
def F.ADC_SWTS_LO_TS_LO (p : Nat) : Fld := ⟨R.ADC_SWTS_LO p, 31, 0⟩
def R.ADC_SWTS_HI (p : Nat) : Nat := 0x40080054 + 0x1000 * p
def F.ADC_SWTS_HI_TS_HI (p : Nat) : Fld := ⟨R.ADC_SWTS_HI p, 31, 0⟩
def R.ADC_STAT (p : Nat) : Nat := 0x40080058 + 0x1000 * p
def F.ADC_STAT_QLEN (p : Nat) : Fld := ⟨R.ADC_STAT p, 11, 8⟩
def F.ADC_STAT_BUSY (p : Nat) : Fld := ⟨R.ADC_STAT p, 0, 0⟩
def R.ADC_CNT_CONV (p : Nat) : Nat := 0x4008005C + 0x1000 * p
def F.ADC_CNT_CONV_CONV (p : Nat) : Fld := ⟨R.ADC_CNT_CONV p, 31, 0⟩
def R.ADC_CNT_A (p : Nat) : Nat := 0x40080060 + 0x1000 * p
def F.ADC_CNT_A_DELAYED (p : Nat) : Fld := ⟨R.ADC_CNT_A p, 31, 16⟩
def F.ADC_CNT_A_LOST (p : Nat) : Fld := ⟨R.ADC_CNT_A p, 15, 0⟩
def R.ADC_CNT_B (p : Nat) : Nat := 0x40080064 + 0x1000 * p
def F.ADC_CNT_B_SLOWCONV (p : Nat) : Fld := ⟨R.ADC_CNT_B p, 31, 16⟩
def F.ADC_CNT_B_REC_LOST (p : Nat) : Fld := ⟨R.ADC_CNT_B p, 15, 0⟩
def R.ADC_CTL (p : Nat) : Nat := 0x40080068 + 0x1000 * p
def F.ADC_CTL_CLR (p : Nat) : Fld := ⟨R.ADC_CTL p, 0, 0⟩

/-! SMPL (09_angle_sampling.md) -/

def R.SMPL_DOM_CFG (i : Nat) : Nat := 0x40088040 + 16 * i
def F.SMPL_DOM_CFG_LEAD (i : Nat) : Fld := ⟨R.SMPL_DOM_CFG i, 31, 16⟩
def F.SMPL_DOM_CFG_MODE (i : Nat) : Fld := ⟨R.SMPL_DOM_CFG i, 7, 4⟩
def F.SMPL_DOM_CFG_PRESET (i : Nat) : Fld := ⟨R.SMPL_DOM_CFG i, 3, 0⟩
def R.SMPL_DOM_RUN (i : Nat) : Nat := 0x40088044 + 16 * i
def F.SMPL_DOM_RUN_ACT (i : Nat) : Fld := ⟨R.SMPL_DOM_RUN i, 31, 16⟩
def F.SMPL_DOM_RUN_EN (i : Nat) : Fld := ⟨R.SMPL_DOM_RUN i, 15, 0⟩
def R.SMPL_DOM_REC (i : Nat) : Nat := 0x40088048 + 16 * i
def F.SMPL_DOM_REC_EN (i : Nat) : Fld := ⟨R.SMPL_DOM_REC i, 31, 31⟩
def F.SMPL_DOM_REC_RES (i : Nat) : Fld := ⟨R.SMPL_DOM_REC i, 2, 0⟩
def R.SMPL_DOM_ERR (i : Nat) : Nat := 0x4008804C + 16 * i
def F.SMPL_DOM_ERR_CODE (i : Nat) : Fld := ⟨R.SMPL_DOM_ERR i, 23, 16⟩
def F.SMPL_DOM_ERR_RUN (i : Nat) : Fld := ⟨R.SMPL_DOM_ERR i, 3, 0⟩
def R.SMPL_CNT_TAKEN : Nat := 0x40088060
def F.SMPL_CNT_TAKEN_TAKEN : Fld := ⟨R.SMPL_CNT_TAKEN, 31, 0⟩
def R.SMPL_CNT_A : Nat := 0x40088064
def F.SMPL_CNT_A_MISSED : Fld := ⟨R.SMPL_CNT_A, 31, 16⟩
def F.SMPL_CNT_A_TAKE_LATE : Fld := ⟨R.SMPL_CNT_A, 15, 0⟩
def R.SMPL_CNT_B : Nat := 0x40088068
def F.SMPL_CNT_B_ABORT : Fld := ⟨R.SMPL_CNT_B, 31, 16⟩
def F.SMPL_CNT_B_REC_LOST : Fld := ⟨R.SMPL_CNT_B, 15, 0⟩
def R.SMPL_CTL : Nat := 0x4008806C
def F.SMPL_CTL_CLR : Fld := ⟨R.SMPL_CTL, 0, 0⟩

/-! KNK (09_angle_sampling.md) -/

def R.KNK_CFG : Nat := 0x40089040
def F.KNK_CFG_REC_EN : Fld := ⟨R.KNK_CFG, 20, 20⟩
def F.KNK_CFG_REC_RES : Fld := ⟨R.KNK_CFG, 19, 17⟩
def F.KNK_CFG_FEN : Fld := ⟨R.KNK_CFG, 15, 12⟩
def F.KNK_CFG_MODE : Fld := ⟨R.KNK_CFG, 7, 4⟩
def F.KNK_CFG_PRESET : Fld := ⟨R.KNK_CFG, 3, 0⟩
def R.KNK_RATE : Nat := 0x40089044
def F.KNK_RATE_PRE : Fld := ⟨R.KNK_RATE, 23, 16⟩
def F.KNK_RATE_PER : Fld := ⟨R.KNK_RATE, 15, 0⟩
def R.KNK_INT : Nat := 0x40089048
def F.KNK_INT_SQR : Fld := ⟨R.KNK_INT, 8, 8⟩
def F.KNK_INT_SHIFT : Fld := ⟨R.KNK_INT, 5, 0⟩
def R.KNK_CHEN : Nat := 0x4008904C
def F.KNK_CHEN_EN : Fld := ⟨R.KNK_CHEN, 7, 0⟩
def R.KNK_BPF (i : Nat) : Nat := 0x40089060 + 4 * i
def F.KNK_BPF_BW (i : Nat) : Fld := ⟨R.KNK_BPF i, 31, 16⟩
def F.KNK_BPF_F0 (i : Nat) : Fld := ⟨R.KNK_BPF i, 15, 0⟩
def R.KNK_COEF_A1 (i : Nat) : Nat := 0x40089070 + 12 * i
def F.KNK_COEF_A1_A1 (i : Nat) : Fld := ⟨R.KNK_COEF_A1 i, 25, 0⟩
def R.KNK_COEF_A2 (i : Nat) : Nat := 0x40089074 + 12 * i
def F.KNK_COEF_A2_A2 (i : Nat) : Fld := ⟨R.KNK_COEF_A2 i, 23, 0⟩
def R.KNK_COEF_B0 (i : Nat) : Nat := 0x40089078 + 12 * i
def F.KNK_COEF_B0_B0 (i : Nat) : Fld := ⟨R.KNK_COEF_B0 i, 23, 0⟩
def R.KNK_STAT : Nat := 0x400890A0
def F.KNK_STAT_OPEN : Fld := ⟨R.KNK_STAT, 7, 0⟩
def R.KNK_CNT_A : Nat := 0x400890A4
def F.KNK_CNT_A_LOST_SMP : Fld := ⟨R.KNK_CNT_A, 31, 16⟩
def F.KNK_CNT_A_OVERLAP : Fld := ⟨R.KNK_CNT_A, 15, 0⟩
def R.KNK_CNT_B : Nat := 0x400890A8
def F.KNK_CNT_B_ABORT : Fld := ⟨R.KNK_CNT_B, 31, 16⟩
def F.KNK_CNT_B_REC_LOST : Fld := ⟨R.KNK_CNT_B, 15, 0⟩
def R.KNK_CTL : Nat := 0x400890AC
def F.KNK_CTL_CLR : Fld := ⟨R.KNK_CTL, 0, 0⟩
def R.KNK_WIN_A (i : Nat) : Nat := 0x40089100 + 8 * i
def F.KNK_WIN_A_EN (i : Nat) : Fld := ⟨R.KNK_WIN_A i, 31, 31⟩
def F.KNK_WIN_A_DOM (i : Nat) : Fld := ⟨R.KNK_WIN_A i, 30, 30⟩
def F.KNK_WIN_A_OPEN (i : Nat) : Fld := ⟨R.KNK_WIN_A i, 29, 0⟩
def R.KNK_WIN_B (i : Nat) : Nat := 0x40089104 + 8 * i
def F.KNK_WIN_B_CYL (i : Nat) : Fld := ⟨R.KNK_WIN_B i, 20, 16⟩
def F.KNK_WIN_B_CH (i : Nat) : Fld := ⟨R.KNK_WIN_B i, 14, 12⟩
def F.KNK_WIN_B_LEN (i : Nat) : Fld := ⟨R.KNK_WIN_B i, 11, 0⟩

/-! CMB (10_combustion_trim.md) -/

def R.CMB_CFG : Nat := 0x4008A040
def F.CMB_CFG_REC_EN : Fld := ⟨R.CMB_CFG, 20, 20⟩
def F.CMB_CFG_REC_RES : Fld := ⟨R.CMB_CFG, 19, 17⟩
def F.CMB_CFG_MISS_MAX : Fld := ⟨R.CMB_CFG, 15, 8⟩
def R.CMB_CYLEN : Nat := 0x4008A044
def F.CMB_CYLEN_EN : Fld := ⟨R.CMB_CYLEN, 23, 0⟩
def R.CMB_ERR : Nat := 0x4008A048
def F.CMB_ERR_CODE : Fld := ⟨R.CMB_ERR, 23, 16⟩
def F.CMB_ERR_CYL : Fld := ⟨R.CMB_ERR, 4, 0⟩
def R.CMB_PREF0 : Nat := 0x4008A04C
def F.CMB_PREF0_PREF : Fld := ⟨R.CMB_PREF0, 31, 0⟩
def R.CMB_PREF1 : Nat := 0x4008A050
def F.CMB_PREF1_PREF : Fld := ⟨R.CMB_PREF1, 31, 0⟩
def R.CMB_BUF : Nat := 0x4008A054
def F.CMB_BUF_USED : Fld := ⟨R.CMB_BUF, 15, 0⟩
def R.CMB_VD (i : Nat) : Nat := 0x4008A060 + 4 * i
def F.CMB_VD_VD (i : Nat) : Fld := ⟨R.CMB_VD i, 31, 0⟩
def R.CMB_CNT_A : Nat := 0x4008A080
def F.CMB_CNT_A_MISFIRE : Fld := ⟨R.CMB_CNT_A, 31, 16⟩
def F.CMB_CNT_A_PEGFAIL : Fld := ⟨R.CMB_CNT_A, 15, 0⟩
def R.CMB_CNT_B : Nat := 0x4008A084
def F.CMB_CNT_B_INVALID : Fld := ⟨R.CMB_CNT_B, 31, 16⟩
def F.CMB_CNT_B_REC_LOST : Fld := ⟨R.CMB_CNT_B, 15, 0⟩
def R.CMB_CNT_C : Nat := 0x4008A088
def F.CMB_CNT_C_DUPRUN : Fld := ⟨R.CMB_CNT_C, 31, 16⟩
def F.CMB_CNT_C_MFB_NA : Fld := ⟨R.CMB_CNT_C, 15, 0⟩
def R.CMB_CTL : Nat := 0x4008A08C
def F.CMB_CTL_CLR : Fld := ⟨R.CMB_CTL, 0, 0⟩
def R.CMB_INSP_SEL : Nat := 0x4008A090
def F.CMB_INSP_SEL_CYL : Fld := ⟨R.CMB_INSP_SEL, 4, 0⟩
def R.CMB_INSP_DELTA : Nat := 0x4008A098
def F.CMB_INSP_DELTA_DELTA : Fld := ⟨R.CMB_INSP_DELTA, 31, 0⟩
def R.CMB_INSP_STAT : Nat := 0x4008A09C
def F.CMB_INSP_STAT_ALLOC : Fld := ⟨R.CMB_INSP_STAT, 31, 16⟩
def F.CMB_INSP_STAT_VALID : Fld := ⟨R.CMB_INSP_STAT, 11, 0⟩

/-! TRIM (10_combustion_trim.md) -/

def R.TRIM_ZERO_LO : Nat := 0x4008B040
def F.TRIM_ZERO_LO_ZERO : Fld := ⟨R.TRIM_ZERO_LO, 31, 0⟩
def R.TRIM_ZERO_HI : Nat := 0x4008B044
def F.TRIM_ZERO_HI_ZERO : Fld := ⟨R.TRIM_ZERO_HI, 31, 0⟩
def R.TRIM_CTL : Nat := 0x4008B048
def F.TRIM_CTL_CLR : Fld := ⟨R.TRIM_CTL, 0, 0⟩
def R.TRIM_L_SRC (i : Nat) : Nat := 0x4008B100 + 32 * i
def F.TRIM_L_SRC_EN (i : Nat) : Fld := ⟨R.TRIM_L_SRC i, 31, 31⟩
def F.TRIM_L_SRC_CYL (i : Nat) : Fld := ⟨R.TRIM_L_SRC i, 20, 16⟩
def F.TRIM_L_SRC_MET (i : Nat) : Fld := ⟨R.TRIM_L_SRC i, 11, 8⟩
def F.TRIM_L_SRC_INVAL (i : Nat) : Fld := ⟨R.TRIM_L_SRC i, 5, 5⟩
def F.TRIM_L_SRC_TGT (i : Nat) : Fld := ⟨R.TRIM_L_SRC i, 4, 4⟩
def R.TRIM_L_TARGET (i : Nat) : Nat := 0x4008B104 + 32 * i
def F.TRIM_L_TARGET_TARGET (i : Nat) : Fld := ⟨R.TRIM_L_TARGET i, 31, 0⟩
def R.TRIM_L_GAIN (i : Nat) : Nat := 0x4008B108 + 32 * i
def F.TRIM_L_GAIN_GAIN (i : Nat) : Fld := ⟨R.TRIM_L_GAIN i, 31, 0⟩
def R.TRIM_L_MIN (i : Nat) : Nat := 0x4008B10C + 32 * i
def F.TRIM_L_MIN_MIN (i : Nat) : Fld := ⟨R.TRIM_L_MIN i, 31, 0⟩
def R.TRIM_L_MAX (i : Nat) : Nat := 0x4008B110 + 32 * i
def F.TRIM_L_MAX_MAX (i : Nat) : Fld := ⟨R.TRIM_L_MAX i, 31, 0⟩
def R.TRIM_L_OFS (i : Nat) : Nat := 0x4008B114 + 32 * i
def F.TRIM_L_OFS_OFS (i : Nat) : Fld := ⟨R.TRIM_L_OFS i, 31, 0⟩
def R.TRIM_L_MVAL (i : Nat) : Nat := 0x4008B118 + 32 * i
def F.TRIM_L_MVAL_MVAL (i : Nat) : Fld := ⟨R.TRIM_L_MVAL i, 31, 0⟩
def R.TRIM_L_STAT (i : Nat) : Nat := 0x4008B11C + 32 * i
def F.TRIM_L_STAT_LATE (i : Nat) : Fld := ⟨R.TRIM_L_STAT i, 31, 16⟩
def F.TRIM_L_STAT_INVAL (i : Nat) : Fld := ⟨R.TRIM_L_STAT i, 1, 1⟩
def F.TRIM_L_STAT_CLAMPED (i : Nat) : Fld := ⟨R.TRIM_L_STAT i, 0, 0⟩

/-! TMR (11_time_timers.md) -/

def R.TMR_CFG (k : Nat) : Nat := 0x40090040 + 0x1000 * (k / 2) + 0x40 * (k % 2)
def F.TMR_CFG_DIV (k : Nat) : Fld := ⟨R.TMR_CFG k, 31, 16⟩
def F.TMR_CFG_TRIG_ACT (k : Nat) : Fld := ⟨R.TMR_CFG k, 15, 14⟩
def F.TMR_CFG_CLASS (k : Nat) : Fld := ⟨R.TMR_CFG k, 13, 13⟩
def F.TMR_CFG_OUTMODE (k : Nat) : Fld := ⟨R.TMR_CFG k, 12, 11⟩
def F.TMR_CFG_IDLE (k : Nat) : Fld := ⟨R.TMR_CFG k, 10, 10⟩
def F.TMR_CFG_PER_IMM (k : Nat) : Fld := ⟨R.TMR_CFG k, 9, 9⟩
def F.TMR_CFG_CMP_IMM (k : Nat) : Fld := ⟨R.TMR_CFG k, 8, 8⟩
def F.TMR_CFG_MODE (k : Nat) : Fld := ⟨R.TMR_CFG k, 7, 4⟩
def F.TMR_CFG_PRESET (k : Nat) : Fld := ⟨R.TMR_CFG k, 3, 0⟩
def R.TMR_RELOAD (k : Nat) : Nat := 0x40090044 + 0x1000 * (k / 2) + 0x40 * (k % 2)
def F.TMR_RELOAD_RELOAD (k : Nat) : Fld := ⟨R.TMR_RELOAD k, 31, 0⟩
def R.TMR_COMPARE (k : Nat) : Nat := 0x40090048 + 0x1000 * (k / 2) + 0x40 * (k % 2)
def F.TMR_COMPARE_COMPARE (k : Nat) : Fld := ⟨R.TMR_COMPARE k, 31, 0⟩
def R.TMR_CTL (k : Nat) : Nat := 0x4009004C + 0x1000 * (k / 2) + 0x40 * (k % 2)
def F.TMR_CTL_CLR (k : Nat) : Fld := ⟨R.TMR_CTL k, 2, 2⟩
def F.TMR_CTL_FWRAP (k : Nat) : Fld := ⟨R.TMR_CTL k, 1, 1⟩
def F.TMR_CTL_RUN (k : Nat) : Fld := ⟨R.TMR_CTL k, 0, 0⟩
def R.TMR_COUNT (k : Nat) : Nat := 0x40090050 + 0x1000 * (k / 2) + 0x40 * (k % 2)
def F.TMR_COUNT_COUNT (k : Nat) : Fld := ⟨R.TMR_COUNT k, 31, 0⟩
def R.TMR_ACTCMP (k : Nat) : Nat := 0x40090054 + 0x1000 * (k / 2) + 0x40 * (k % 2)
def F.TMR_ACTCMP_CMP (k : Nat) : Fld := ⟨R.TMR_ACTCMP k, 31, 0⟩
def R.TMR_ACTREL (k : Nat) : Nat := 0x40090058 + 0x1000 * (k / 2) + 0x40 * (k % 2)
def F.TMR_ACTREL_REL (k : Nat) : Fld := ⟨R.TMR_ACTREL k, 31, 0⟩
def R.TMR_STAT (k : Nat) : Nat := 0x4009005C + 0x1000 * (k / 2) + 0x40 * (k % 2)
def F.TMR_STAT_FWRAP (k : Nat) : Fld := ⟨R.TMR_STAT k, 7, 7⟩
def F.TMR_STAT_MATCH (k : Nat) : Fld := ⟨R.TMR_STAT k, 6, 6⟩
def F.TMR_STAT_PASSED (k : Nat) : Fld := ⟨R.TMR_STAT k, 5, 5⟩
def F.TMR_STAT_NEVER (k : Nat) : Fld := ⟨R.TMR_STAT k, 4, 4⟩
def F.TMR_STAT_IMM_RES (k : Nat) : Fld := ⟨R.TMR_STAT k, 3, 3⟩
def F.TMR_STAT_OUT (k : Nat) : Fld := ⟨R.TMR_STAT k, 2, 2⟩
def F.TMR_STAT_ARMED (k : Nat) : Fld := ⟨R.TMR_STAT k, 1, 1⟩
def F.TMR_STAT_RUNNING (k : Nat) : Fld := ⟨R.TMR_STAT k, 0, 0⟩
def R.TMR_WRAP_LO (k : Nat) : Nat := 0x40090060 + 0x1000 * (k / 2) + 0x40 * (k % 2)
def F.TMR_WRAP_LO_TS_LO (k : Nat) : Fld := ⟨R.TMR_WRAP_LO k, 31, 0⟩
def R.TMR_WRAP_HI (k : Nat) : Nat := 0x40090064 + 0x1000 * (k / 2) + 0x40 * (k % 2)
def F.TMR_WRAP_HI_TS_HI (k : Nat) : Fld := ⟨R.TMR_WRAP_HI k, 31, 0⟩
def R.TMR_CNT_MATCH (k : Nat) : Nat := 0x40090068 + 0x1000 * (k / 2) + 0x40 * (k % 2)
def F.TMR_CNT_MATCH_MATCH (k : Nat) : Fld := ⟨R.TMR_CNT_MATCH k, 31, 0⟩
def R.TMR_CNT_ERR (k : Nat) : Nat := 0x4009006C + 0x1000 * (k / 2) + 0x40 * (k % 2)
def F.TMR_CNT_ERR_PASSED (k : Nat) : Fld := ⟨R.TMR_CNT_ERR k, 31, 16⟩
def F.TMR_CNT_ERR_FWRAP (k : Nat) : Fld := ⟨R.TMR_CNT_ERR k, 15, 0⟩

/-! TMRG (11_time_timers.md) -/

def R.TMR_GRP_MASK (i : Nat) : Nat := 0x40090100 + 16 * i
def F.TMR_GRP_MASK_MASK (i : Nat) : Fld := ⟨R.TMR_GRP_MASK i, 31, 0⟩
def R.TMR_GRP_CTL (i : Nat) : Nat := 0x40090104 + 16 * i
def F.TMR_GRP_CTL_STATUS (i : Nat) : Fld := ⟨R.TMR_GRP_CTL i, 11, 8⟩
def F.TMR_GRP_CTL_STOP (i : Nat) : Fld := ⟨R.TMR_GRP_CTL i, 1, 1⟩
def F.TMR_GRP_CTL_START (i : Nat) : Fld := ⟨R.TMR_GRP_CTL i, 0, 0⟩

/-! PIO (12_pio_engines.md) -/

def R.PIO_CFG (p : Nat) : Nat := 0x400A0040 + 0x1000 * p
def F.PIO_CFG_ENTRY (p : Nat) : Fld := ⟨R.PIO_CFG p, 26, 22⟩
def F.PIO_CFG_SORDER (p : Nat) : Fld := ⟨R.PIO_CFG p, 21, 21⟩
def F.PIO_CFG_AFILL (p : Nat) : Fld := ⟨R.PIO_CFG p, 19, 19⟩
def F.PIO_CFG_ADELIV (p : Nat) : Fld := ⟨R.PIO_CFG p, 18, 18⟩
def F.PIO_CFG_LANES (p : Nat) : Fld := ⟨R.PIO_CFG p, 17, 16⟩
def F.PIO_CFG_WLEN (p : Nat) : Fld := ⟨R.PIO_CFG p, 12, 8⟩
def F.PIO_CFG_MODE (p : Nat) : Fld := ⟨R.PIO_CFG p, 7, 4⟩
def F.PIO_CFG_PRESET (p : Nat) : Fld := ⟨R.PIO_CFG p, 3, 0⟩
def R.PIO_DIV (p : Nat) : Nat := 0x400A0044 + 0x1000 * p
def F.PIO_DIV_INT (p : Nat) : Fld := ⟨R.PIO_DIV p, 23, 8⟩
def F.PIO_DIV_FRAC (p : Nat) : Fld := ⟨R.PIO_DIV p, 7, 0⟩
def R.PIO_PINS (p : Nat) : Nat := 0x400A0048 + 0x1000 * p
def F.PIO_PINS_IBASE (p : Nat) : Fld := ⟨R.PIO_PINS p, 20, 16⟩
def F.PIO_PINS_ONUM (p : Nat) : Fld := ⟨R.PIO_PINS p, 11, 8⟩
def F.PIO_PINS_OBASE (p : Nat) : Fld := ⟨R.PIO_PINS p, 4, 0⟩
def R.PIO_CTL (p : Nat) : Nat := 0x400A004C + 0x1000 * p
def F.PIO_CTL_CLR (p : Nat) : Fld := ⟨R.PIO_CTL p, 3, 3⟩
def F.PIO_CTL_RESTART (p : Nat) : Fld := ⟨R.PIO_CTL p, 2, 2⟩
def F.PIO_CTL_RESUME (p : Nat) : Fld := ⟨R.PIO_CTL p, 1, 1⟩
def F.PIO_CTL_HALT (p : Nat) : Fld := ⟨R.PIO_CTL p, 0, 0⟩
def R.PIO_STAT (p : Nat) : Nat := 0x400A0050 + 0x1000 * p
def F.PIO_STAT_PC (p : Nat) : Fld := ⟨R.PIO_STAT p, 25, 21⟩
def F.PIO_STAT_CAUSE (p : Nat) : Fld := ⟨R.PIO_STAT p, 20, 18⟩
def F.PIO_STAT_STATE (p : Nat) : Fld := ⟨R.PIO_STAT p, 17, 16⟩
def F.PIO_STAT_WAITING (p : Nat) : Fld := ⟨R.PIO_STAT p, 15, 15⟩
def F.PIO_STAT_DPEND (p : Nat) : Fld := ⟨R.PIO_STAT p, 14, 14⟩
def F.PIO_STAT_RXF (p : Nat) : Fld := ⟨R.PIO_STAT p, 13, 13⟩
def F.PIO_STAT_TXF (p : Nat) : Fld := ⟨R.PIO_STAT p, 12, 12⟩
def F.PIO_STAT_RX_UNF (p : Nat) : Fld := ⟨R.PIO_STAT p, 5, 5⟩
def F.PIO_STAT_SLIP (p : Nat) : Fld := ⟨R.PIO_STAT p, 4, 4⟩
def F.PIO_STAT_TX_OVF (p : Nat) : Fld := ⟨R.PIO_STAT p, 3, 3⟩
def F.PIO_STAT_RX_OVF (p : Nat) : Fld := ⟨R.PIO_STAT p, 2, 2⟩
def F.PIO_STAT_RESUME_REFUSED (p : Nat) : Fld := ⟨R.PIO_STAT p, 1, 1⟩
def F.PIO_STAT_PROG_REFUSED (p : Nat) : Fld := ⟨R.PIO_STAT p, 0, 0⟩
def R.PIO_SHST (p : Nat) : Nat := 0x400A0054 + 0x1000 * p
def F.PIO_SHST_PROG (p : Nat) : Fld := ⟨R.PIO_SHST p, 31, 26⟩
def F.PIO_SHST_WAITC (p : Nat) : Fld := ⟨R.PIO_SHST p, 24, 16⟩
def F.PIO_SHST_TGOT (p : Nat) : Fld := ⟨R.PIO_SHST p, 13, 8⟩
def F.PIO_SHST_SLEFT (p : Nat) : Fld := ⟨R.PIO_SHST p, 5, 0⟩
def R.PIO_TX (p : Nat) : Nat := 0x400A0058 + 0x1000 * p
def F.PIO_TX_TX (p : Nat) : Fld := ⟨R.PIO_TX p, 31, 0⟩
def R.PIO_RX (p : Nat) : Nat := 0x400A005C + 0x1000 * p
def F.PIO_RX_RX (p : Nat) : Fld := ⟨R.PIO_RX p, 31, 0⟩
def R.PIO_A (p : Nat) : Nat := 0x400A0060 + 0x1000 * p
def F.PIO_A_A (p : Nat) : Fld := ⟨R.PIO_A p, 31, 0⟩
def R.PIO_B (p : Nat) : Nat := 0x400A0064 + 0x1000 * p
def F.PIO_B_B (p : Nat) : Fld := ⟨R.PIO_B p, 31, 0⟩
def R.PIO_SEND (p : Nat) : Nat := 0x400A0068 + 0x1000 * p
def F.PIO_SEND_SEND (p : Nat) : Fld := ⟨R.PIO_SEND p, 31, 0⟩
def R.PIO_TAKE (p : Nat) : Nat := 0x400A006C + 0x1000 * p
def F.PIO_TAKE_TAKE (p : Nat) : Fld := ⟨R.PIO_TAKE p, 31, 0⟩
def R.PIO_PROGGEN (p : Nat) : Nat := 0x400A0070 + 0x1000 * p
def F.PIO_PROGGEN_GEN (p : Nat) : Fld := ⟨R.PIO_PROGGEN p, 31, 0⟩
def R.PIO_HGEN (p : Nat) : Nat := 0x400A0074 + 0x1000 * p
def F.PIO_HGEN_GEN (p : Nat) : Fld := ⟨R.PIO_HGEN p, 31, 0⟩
def R.PIO_SC (p : Nat) : Nat := 0x400A0078 + 0x1000 * p
def F.PIO_SC_SC (p : Nat) : Fld := ⟨R.PIO_SC p, 31, 0⟩
def R.PIO_CNT (p : Nat) : Nat := 0x400A007C + 0x1000 * p
def F.PIO_CNT_SLIP (p : Nat) : Fld := ⟨R.PIO_CNT p, 31, 16⟩
def F.PIO_CNT_OVF (p : Nat) : Fld := ⟨R.PIO_CNT p, 15, 0⟩
def R.PIO_LC (p : Nat) : Nat := 0x400A0080 + 0x1000 * p
def F.PIO_LC_LC (p : Nat) : Fld := ⟨R.PIO_LC p, 15, 0⟩

/-! PIOG (12_pio_engines.md) -/

def R.PIOG_START : Nat := 0x400A8040
def F.PIOG_START_MASK : Fld := ⟨R.PIOG_START, 7, 0⟩
def R.PIOG_HALT : Nat := 0x400A8044
def F.PIOG_HALT_MASK : Fld := ⟨R.PIOG_HALT, 7, 0⟩
def R.PIOG_RESUME : Nat := 0x400A8048
def F.PIOG_RESUME_MASK : Fld := ⟨R.PIOG_RESUME, 7, 0⟩
def R.PIOG_DSYNC : Nat := 0x400A804C
def F.PIOG_DSYNC_MASK : Fld := ⟨R.PIOG_DSYNC, 7, 0⟩
def R.PIOG_STAT : Nat := 0x400A8050
def F.PIOG_STAT_LASTCMD : Fld := ⟨R.PIOG_STAT, 31, 28⟩
def F.PIOG_STAT_REFUSED : Fld := ⟨R.PIOG_STAT, 23, 16⟩
def F.PIOG_STAT_ACTIVE : Fld := ⟨R.PIOG_STAT, 7, 0⟩

/-! CORE (13_cores_interrupts.md) -/

def R.CORE_BOOT (p : Nat) : Nat := 0x400B8040 + 0x1000 * p
def F.CORE_BOOT_ADDR (p : Nat) : Fld := ⟨R.CORE_BOOT p, 31, 1⟩
def R.CORE_STAT (p : Nat) : Nat := 0x400B8044 + 0x1000 * p
def F.CORE_STAT_THR (p : Nat) : Fld := ⟨R.CORE_STAT p, 15, 12⟩
def F.CORE_STAT_NEST (p : Nat) : Fld := ⟨R.CORE_STAT p, 11, 8⟩
def F.CORE_STAT_PRIV (p : Nat) : Fld := ⟨R.CORE_STAT p, 3, 2⟩
def F.CORE_STAT_WFI (p : Nat) : Fld := ⟨R.CORE_STAT p, 1, 1⟩
def F.CORE_STAT_DBG (p : Nat) : Fld := ⟨R.CORE_STAT p, 0, 0⟩
def R.CORE_THRESH (p : Nat) : Nat := 0x400B8048 + 0x1000 * p
def F.CORE_THRESH_BASE (p : Nat) : Fld := ⟨R.CORE_THRESH p, 3, 0⟩
def R.CORE_ECC (p : Nat) : Nat := 0x400B804C + 0x1000 * p
def F.CORE_ECC_UE (p : Nat) : Fld := ⟨R.CORE_ECC p, 31, 16⟩
def F.CORE_ECC_CE (p : Nat) : Fld := ⟨R.CORE_ECC p, 15, 0⟩
def R.CORE_ECCADDR (p : Nat) : Nat := 0x400B8050 + 0x1000 * p
def F.CORE_ECCADDR_ADDR (p : Nat) : Fld := ⟨R.CORE_ECCADDR p, 31, 0⟩
def R.CORE_SCRUB (p : Nat) : Nat := 0x400B8054 + 0x1000 * p
def F.CORE_SCRUB_PERIOD (p : Nat) : Fld := ⟨R.CORE_SCRUB p, 31, 16⟩
def F.CORE_SCRUB_CLR (p : Nat) : Fld := ⟨R.CORE_SCRUB p, 1, 1⟩
def F.CORE_SCRUB_EN (p : Nat) : Fld := ⟨R.CORE_SCRUB p, 0, 0⟩

/-! RING (13_cores_interrupts.md) -/

def R.RING_RQ_SEL (i : Nat) : Nat := 0x40019040 + 8 * i
def F.RING_RQ_SEL_EN (i : Nat) : Fld := ⟨R.RING_RQ_SEL i, 31, 31⟩
def F.RING_RQ_SEL_RES (i : Nat) : Fld := ⟨R.RING_RQ_SEL i, 2, 0⟩
def R.RING_RQ_ADDR (i : Nat) : Nat := 0x40019044 + 8 * i
def F.RING_RQ_ADDR_ADDR (i : Nat) : Fld := ⟨R.RING_RQ_ADDR i, 31, 0⟩
def R.RING_BASE (i : Nat) : Nat := 0x40019080 + 16 * i
def F.RING_BASE_BASE (i : Nat) : Fld := ⟨R.RING_BASE i, 31, 0⟩
def R.RING_CFG (i : Nat) : Nat := 0x40019084 + 16 * i
def F.RING_CFG_EN (i : Nat) : Fld := ⟨R.RING_CFG i, 31, 31⟩
def F.RING_CFG_ERR (i : Nat) : Fld := ⟨R.RING_CFG i, 30, 30⟩
def F.RING_CFG_DIR (i : Nat) : Fld := ⟨R.RING_CFG i, 29, 29⟩
def F.RING_CFG_WM (i : Nat) : Fld := ⟨R.RING_CFG i, 15, 4⟩
def F.RING_CFG_SIZE_LOG2 (i : Nat) : Fld := ⟨R.RING_CFG i, 3, 0⟩
def R.RING_HEAD (i : Nat) : Nat := 0x40019088 + 16 * i
def F.RING_HEAD_HEAD (i : Nat) : Fld := ⟨R.RING_HEAD i, 15, 0⟩
def R.RING_TAIL (i : Nat) : Nat := 0x4001908C + 16 * i
def F.RING_TAIL_TAIL (i : Nat) : Fld := ⟨R.RING_TAIL i, 15, 0⟩
def R.RING_ECC : Nat := 0x40019280
def F.RING_ECC_UE : Fld := ⟨R.RING_ECC, 31, 16⟩
def F.RING_ECC_CE : Fld := ⟨R.RING_ECC, 15, 0⟩
def R.RING_ECCADDR : Nat := 0x40019284
def F.RING_ECCADDR_ADDR : Fld := ⟨R.RING_ECCADDR, 31, 0⟩
def R.RING_SCRUB : Nat := 0x40019288
def F.RING_SCRUB_PERIOD : Fld := ⟨R.RING_SCRUB, 31, 16⟩
def F.RING_SCRUB_CLR : Fld := ⟨R.RING_SCRUB, 1, 1⟩
def F.RING_SCRUB_EN : Fld := ⟨R.RING_SCRUB, 0, 0⟩

/-! INTC (13_cores_interrupts.md) -/

def R.INTC_SWI : Nat := 0x400B0040
def F.INTC_SWI_SET : Fld := ⟨R.INTC_SWI, 15, 0⟩
def R.INTC_HTHR (i : Nat) : Nat := 0x400B0050 + 4 * i
def F.INTC_HTHR_THR (i : Nat) : Fld := ⟨R.INTC_HTHR i, 3, 0⟩
def R.INTC_CLAIM (i : Nat) : Nat := 0x400B0060 + 8 * i
def F.INTC_CLAIM_PRIO (i : Nat) : Fld := ⟨R.INTC_CLAIM i, 19, 16⟩
def F.INTC_CLAIM_SRC (i : Nat) : Fld := ⟨R.INTC_CLAIM i, 8, 0⟩
def R.INTC_COMPLETE (i : Nat) : Nat := 0x400B0064 + 8 * i
def F.INTC_COMPLETE_SRC (i : Nat) : Fld := ⟨R.INTC_COMPLETE i, 8, 0⟩
def R.INTC_HSTAT : Nat := 0x400B0080
def F.INTC_HSTAT_HINT : Fld := ⟨R.INTC_HSTAT, 3, 0⟩
def R.INTC_FABSTAT : Nat := 0x400B0084
def F.INTC_FABSTAT_FAIL : Fld := ⟨R.INTC_FABSTAT, 31, 16⟩
def F.INTC_FABSTAT_LAST : Fld := ⟨R.INTC_FABSTAT, 8, 0⟩
def R.INTC_FABIN : Nat := 0x400B0088
def F.INTC_FABIN_NUM : Fld := ⟨R.INTC_FABIN, 13, 8⟩
def F.INTC_FABIN_NODE : Fld := ⟨R.INTC_FABIN, 5, 0⟩
def R.INTC_CNT : Nat := 0x400B008C
def F.INTC_CNT_WITHDRAWN : Fld := ⟨R.INTC_CNT, 31, 16⟩
def F.INTC_CNT_REPLACED : Fld := ⟨R.INTC_CNT, 15, 0⟩

/-! INTCS (13_cores_interrupts.md) -/

def R.INTC_PEND (p i : Nat) : Nat := 0x400B1040 + 0x1000 * p + 4 * i
def F.INTC_PEND_PEND (p i : Nat) : Fld := ⟨R.INTC_PEND p i, 31, 0⟩
def R.INTC_ACT (p i : Nat) : Nat := 0x400B1050 + 0x1000 * p + 4 * i
def F.INTC_ACT_ACT (p i : Nat) : Fld := ⟨R.INTC_ACT p i, 31, 0⟩
def R.INTC_SRC_CFG (s : Nat) : Nat := 0x400B1400 + 0x1000 * (s / 128) + 8 * (s % 128)
def F.INTC_SRC_CFG_ENABLE (s : Nat) : Fld := ⟨R.INTC_SRC_CFG s, 31, 31⟩
def F.INTC_SRC_CFG_KIND (s : Nat) : Fld := ⟨R.INTC_SRC_CFG s, 7, 7⟩
def F.INTC_SRC_CFG_TARGET (s : Nat) : Fld := ⟨R.INTC_SRC_CFG s, 6, 4⟩
def F.INTC_SRC_CFG_PRIO (s : Nat) : Fld := ⟨R.INTC_SRC_CFG s, 3, 0⟩
def R.INTC_SRC_VEC (s : Nat) : Nat := 0x400B1404 + 0x1000 * (s / 128) + 8 * (s % 128)
def F.INTC_SRC_VEC_VEC (s : Nat) : Fld := ⟨R.INTC_SRC_VEC s, 31, 0⟩

/-! NL (14_nynoral_fabric.md) -/

def R.NL_CFG (p : Nat) : Nat := 0x400C0040 + 0x1000 * p
def F.NL_CFG_RETRY_MAX (p : Nat) : Fld := ⟨R.NL_CFG p, 27, 24⟩
def F.NL_CFG_ACK_TO (p : Nat) : Fld := ⟨R.NL_CFG p, 23, 16⟩
def F.NL_CFG_BACKOFF (p : Nat) : Fld := ⟨R.NL_CFG p, 15, 8⟩
def F.NL_CFG_MODE (p : Nat) : Fld := ⟨R.NL_CFG p, 7, 4⟩
def F.NL_CFG_PRESET (p : Nat) : Fld := ⟨R.NL_CFG p, 3, 0⟩
def R.NL_RATE (p : Nat) : Nat := 0x400C0044 + 0x1000 * p
def F.NL_RATE_RATE (p : Nat) : Fld := ⟨R.NL_RATE p, 22, 16⟩
def F.NL_RATE_RATE_MAX (p : Nat) : Fld := ⟨R.NL_RATE p, 6, 0⟩
def R.NL_STAT (p : Nat) : Nat := 0x400C0048 + 0x1000 * p
def F.NL_STAT_LAST_DOWN (p : Nat) : Fld := ⟨R.NL_STAT p, 10, 8⟩
def F.NL_STAT_RETRYING (p : Nat) : Fld := ⟨R.NL_STAT p, 6, 6⟩
def F.NL_STAT_PEER_PORT (p : Nat) : Fld := ⟨R.NL_STAT p, 5, 4⟩
def F.NL_STAT_STATE (p : Nat) : Fld := ⟨R.NL_STAT p, 2, 0⟩
def R.NL_PEER (p i : Nat) : Nat := 0x400C004C + 0x1000 * p + 4 * i
def F.NL_PEER_UID (p i : Nat) : Fld := ⟨R.NL_PEER p i, 31, 0⟩
def R.NL_LAT (p : Nat) : Nat := 0x400C005C + 0x1000 * p
def F.NL_LAT_LAT (p : Nat) : Fld := ⟨R.NL_LAT p, 19, 0⟩
def R.NL_LATSPR (p : Nat) : Nat := 0x400C0060 + 0x1000 * p
def F.NL_LATSPR_SPREAD (p : Nat) : Fld := ⟨R.NL_LATSPR p, 15, 0⟩
def R.NL_CNT_A (p : Nat) : Nat := 0x400C0064 + 0x1000 * p
def F.NL_CNT_A_NACK (p : Nat) : Fld := ⟨R.NL_CNT_A p, 31, 16⟩
def F.NL_CNT_A_CRC (p : Nat) : Fld := ⟨R.NL_CNT_A p, 15, 0⟩
def R.NL_CNT_B (p : Nat) : Nat := 0x400C0068 + 0x1000 * p
def F.NL_CNT_B_DOWN (p : Nat) : Fld := ⟨R.NL_CNT_B p, 31, 16⟩
def F.NL_CNT_B_LEN (p : Nat) : Fld := ⟨R.NL_CNT_B p, 15, 0⟩
def R.NL_CNT_C (p : Nat) : Nat := 0x400C006C + 0x1000 * p
def F.NL_CNT_C_TAG (p : Nat) : Fld := ⟨R.NL_CNT_C p, 31, 16⟩
def F.NL_CNT_C_AUTHFAIL (p : Nat) : Fld := ⟨R.NL_CNT_C p, 15, 0⟩
def R.NL_CNT_TX (p : Nat) : Nat := 0x400C0070 + 0x1000 * p
def F.NL_CNT_TX_TX (p : Nat) : Fld := ⟨R.NL_CNT_TX p, 31, 0⟩
def R.NL_CNT_RX (p : Nat) : Nat := 0x400C0074 + 0x1000 * p
def F.NL_CNT_RX_RX (p : Nat) : Fld := ⟨R.NL_CNT_RX p, 31, 0⟩
def R.NL_CTL (p : Nat) : Nat := 0x400C0078 + 0x1000 * p
def F.NL_CTL_DOWN (p : Nat) : Fld := ⟨R.NL_CTL p, 1, 1⟩
def F.NL_CTL_CLR (p : Nat) : Fld := ⟨R.NL_CTL p, 0, 0⟩

/-! FAB (14_nynoral_fabric.md) -/

def R.FAB_CFG : Nat := 0x400C4040
def F.FAB_CFG_FIXED : Fld := ⟨R.FAB_CFG, 16, 16⟩
def F.FAB_CFG_ADDR_REQ : Fld := ⟨R.FAB_CFG, 13, 8⟩
def F.FAB_CFG_SETTLE : Fld := ⟨R.FAB_CFG, 7, 0⟩
def R.FAB_STAT : Nat := 0x400C4044
def F.FAB_STAT_EPOCH : Fld := ⟨R.FAB_STAT, 31, 24⟩
def F.FAB_STAT_NNODES : Fld := ⟨R.FAB_STAT, 21, 16⟩
def F.FAB_STAT_CONFLICT : Fld := ⟨R.FAB_STAT, 10, 10⟩
def F.FAB_STAT_SETTLED : Fld := ⟨R.FAB_STAT, 9, 9⟩
def F.FAB_STAT_ROOT : Fld := ⟨R.FAB_STAT, 8, 8⟩
def F.FAB_STAT_ADDR : Fld := ⟨R.FAB_STAT, 5, 0⟩
def R.FAB_UID (i : Nat) : Nat := 0x400C4048 + 4 * i
def F.FAB_UID_UID (i : Nat) : Fld := ⟨R.FAB_UID i, 31, 0⟩
def R.FAB_ROOTUID (i : Nat) : Nat := 0x400C4058 + 4 * i
def F.FAB_ROOTUID_UID (i : Nat) : Fld := ⟨R.FAB_ROOTUID i, 31, 0⟩
def R.FAB_TO : Nat := 0x400C4068
def F.FAB_TO_MSG_TO : Fld := ⟨R.FAB_TO, 31, 16⟩
def F.FAB_TO_REG_TO : Fld := ⟨R.FAB_TO, 15, 0⟩
def R.FAB_TO2 : Nat := 0x400C406C
def F.FAB_TO2_MAX_PAUSE : Fld := ⟨R.FAB_TO2, 31, 16⟩
def F.FAB_TO2_INTR_TO : Fld := ⟨R.FAB_TO2, 15, 0⟩
def R.FAB_TTL : Nat := 0x400C4070
def F.FAB_TTL_TTL : Fld := ⟨R.FAB_TTL, 7, 0⟩
def R.FAB_CNT_A : Nat := 0x400C4074
def F.FAB_CNT_A_TIMEOUT : Fld := ⟨R.FAB_CNT_A, 31, 16⟩
def F.FAB_CNT_A_PATHFAIL : Fld := ⟨R.FAB_CNT_A, 15, 0⟩
def R.FAB_CNT_B : Nat := 0x400C4078
def F.FAB_CNT_B_DUP : Fld := ⟨R.FAB_CNT_B, 31, 16⟩
def F.FAB_CNT_B_REROUTE : Fld := ⟨R.FAB_CNT_B, 15, 0⟩
def R.FAB_CNT_C : Nat := 0x400C407C
def F.FAB_CNT_C_REDISC : Fld := ⟨R.FAB_CNT_C, 31, 16⟩
def F.FAB_CNT_C_NOROUTE : Fld := ⟨R.FAB_CNT_C, 15, 0⟩
def R.FAB_CTL : Nat := 0x400C4080
def F.FAB_CTL_REDISC : Fld := ⟨R.FAB_CTL, 1, 1⟩
def F.FAB_CTL_CLR : Fld := ⟨R.FAB_CTL, 0, 0⟩
def R.FAB_RTE (i : Nat) : Nat := 0x400C4100 + 4 * i
def F.FAB_RTE_ENTRY (i : Nat) : Fld := ⟨R.FAB_RTE i, 5, 0⟩

/-! BEAC (14_nynoral_fabric.md) -/

def R.BEAC_TX (i : Nat) : Nat := 0x400C5040 + 4 * i
def F.BEAC_TX_EN (i : Nat) : Fld := ⟨R.BEAC_TX i, 31, 31⟩
def F.BEAC_TX_PORTS (i : Nat) : Fld := ⟨R.BEAC_TX i, 11, 8⟩
def F.BEAC_TX_DOM (i : Nat) : Fld := ⟨R.BEAC_TX i, 0, 0⟩
def R.BEAC_FWD (i : Nat) : Nat := 0x400C5050 + 4 * i
def F.BEAC_FWD_EN (i : Nat) : Fld := ⟨R.BEAC_FWD i, 31, 31⟩
def F.BEAC_FWD_PORTS (i : Nat) : Fld := ⟨R.BEAC_FWD i, 11, 8⟩
def R.BEAC_RX (i : Nat) : Nat := 0x400C5060 + 4 * i
def F.BEAC_RX_EN (i : Nat) : Fld := ⟨R.BEAC_RX i, 31, 31⟩
def F.BEAC_RX_CAM (i : Nat) : Fld := ⟨R.BEAC_RX i, 30, 30⟩
def F.BEAC_RX_FDOM (i : Nat) : Fld := ⟨R.BEAC_RX i, 29, 28⟩
def F.BEAC_RX_W_MAX (i : Nat) : Fld := ⟨R.BEAC_RX i, 24, 16⟩
def F.BEAC_RX_W_MIN (i : Nat) : Fld := ⟨R.BEAC_RX i, 6, 0⟩
def R.BEAC_VER : Nat := 0x400C5068
def F.BEAC_VER_BTAG_T : Fld := ⟨R.BEAC_VER, 31, 24⟩
def F.BEAC_VER_VTO : Fld := ⟨R.BEAC_VER, 15, 0⟩
def R.BEAC_STAT (i : Nat) : Nat := 0x400C5070 + 8 * i
def F.BEAC_STAT_SEQ (i : Nat) : Fld := ⟨R.BEAC_STAT i, 31, 24⟩
def F.BEAC_STAT_HOPS (i : Nat) : Fld := ⟨R.BEAC_STAT i, 23, 21⟩
def F.BEAC_STAT_PORT (i : Nat) : Fld := ⟨R.BEAC_STAT i, 17, 16⟩
def R.BEAC_AGE (i : Nat) : Nat := 0x400C5074 + 8 * i
def F.BEAC_AGE_AGE (i : Nat) : Fld := ⟨R.BEAC_AGE i, 22, 0⟩
def R.BEAC_CNT_A : Nat := 0x400C5090
def F.BEAC_CNT_A_DUP : Fld := ⟨R.BEAC_CNT_A, 31, 16⟩
def F.BEAC_CNT_A_HOPLIM : Fld := ⟨R.BEAC_CNT_A, 15, 0⟩
def R.BEAC_CNT_B : Nat := 0x400C5094
def F.BEAC_CNT_B_AUTHFAIL : Fld := ⟨R.BEAC_CNT_B, 31, 16⟩
def F.BEAC_CNT_B_IDX : Fld := ⟨R.BEAC_CNT_B, 15, 0⟩
def R.BEAC_CNT_C : Nat := 0x400C5098
def F.BEAC_CNT_C_TX : Fld := ⟨R.BEAC_CNT_C, 31, 16⟩
def F.BEAC_CNT_C_QUAL : Fld := ⟨R.BEAC_CNT_C, 15, 0⟩
def R.BEAC_CTL : Nat := 0x400C509C
def F.BEAC_CTL_CLR : Fld := ⟨R.BEAC_CTL, 0, 0⟩

/-! FCOL (15_faults_monitors.md) -/

def R.FCOL_CFG : Nat := 0x400D0040
def F.FCOL_CFG_ESC_F : Fld := ⟨R.FCOL_CFG, 2, 2⟩
def F.FCOL_CFG_ESC_U : Fld := ⟨R.FCOL_CFG, 1, 1⟩
def F.FCOL_CFG_ESC_C : Fld := ⟨R.FCOL_CFG, 0, 0⟩
def R.FCOL_REACT : Nat := 0x400D0044
def F.FCOL_REACT_RF : Fld := ⟨R.FCOL_REACT, 31, 16⟩
def F.FCOL_REACT_RU : Fld := ⟨R.FCOL_REACT, 15, 0⟩
def R.FCOL_ERRPIN : Nat := 0x400D0048
def F.FCOL_ERRPIN_MINW : Fld := ⟨R.FCOL_ERRPIN, 31, 16⟩
def F.FCOL_ERRPIN_CLS : Fld := ⟨R.FCOL_ERRPIN, 9, 8⟩
def F.FCOL_ERRPIN_DISC : Fld := ⟨R.FCOL_ERRPIN, 2, 2⟩
def F.FCOL_ERRPIN_PIN : Fld := ⟨R.FCOL_ERRPIN, 1, 1⟩
def F.FCOL_ERRPIN_SWLVL : Fld := ⟨R.FCOL_ERRPIN, 0, 0⟩
def R.FCOL_ACK : Nat := 0x400D004C
def F.FCOL_ACK_ALL : Fld := ⟨R.FCOL_ACK, 31, 31⟩
def F.FCOL_ACK_SRC : Fld := ⟨R.FCOL_ACK, 8, 0⟩
def R.FCOL_FIRST_W0 : Nat := 0x400D0050
def F.FCOL_FIRST_W0_W0 : Fld := ⟨R.FCOL_FIRST_W0, 31, 0⟩
def R.FCOL_FIRST_W1 : Nat := 0x400D0054
def F.FCOL_FIRST_W1_W1 : Fld := ⟨R.FCOL_FIRST_W1, 31, 0⟩
def R.FCOL_FIRST_TS_LO : Nat := 0x400D0058
def F.FCOL_FIRST_TS_LO_TS_LO : Fld := ⟨R.FCOL_FIRST_TS_LO, 31, 0⟩
def R.FCOL_FIRST_TS_HI : Nat := 0x400D005C
def F.FCOL_FIRST_TS_HI_TS_HI : Fld := ⟨R.FCOL_FIRST_TS_HI, 31, 0⟩
def R.FCOL_FIRST_STAT : Nat := 0x400D0060
def F.FCOL_FIRST_STAT_VALID : Fld := ⟨R.FCOL_FIRST_STAT, 31, 31⟩
def F.FCOL_FIRST_STAT_OVERFLOW : Fld := ⟨R.FCOL_FIRST_STAT, 30, 30⟩
def F.FCOL_FIRST_STAT_OVF_CNT : Fld := ⟨R.FCOL_FIRST_STAT, 15, 0⟩
def R.FCOL_DHOLD : Nat := 0x400D0064
def F.FCOL_DHOLD_HOLD : Fld := ⟨R.FCOL_DHOLD, 1, 0⟩
def R.FCOL_LOG : Nat := 0x400D0068
def F.FCOL_LOG_EN : Fld := ⟨R.FCOL_LOG, 31, 31⟩
def F.FCOL_LOG_CLOG : Fld := ⟨R.FCOL_LOG, 30, 30⟩
def F.FCOL_LOG_RING_C : Fld := ⟨R.FCOL_LOG, 29, 28⟩
def F.FCOL_LOG_RING_UF : Fld := ⟨R.FCOL_LOG, 25, 24⟩
def F.FCOL_LOG_ACKLOG : Fld := ⟨R.FCOL_LOG, 20, 20⟩
def R.FCOL_FINJ : Nat := 0x400D006C
def F.FCOL_FINJ_DETAIL : Fld := ⟨R.FCOL_FINJ, 31, 20⟩
def F.FCOL_FINJ_CLASS : Fld := ⟨R.FCOL_FINJ, 17, 16⟩
def F.FCOL_FINJ_KIND : Fld := ⟨R.FCOL_FINJ, 15, 9⟩
def R.FCOL_SWF : Nat := 0x400D0070
def F.FCOL_SWF_DETAIL : Fld := ⟨R.FCOL_SWF, 31, 20⟩
def F.FCOL_SWF_CLASS : Fld := ⟨R.FCOL_SWF, 17, 16⟩
def F.FCOL_SWF_N : Fld := ⟨R.FCOL_SWF, 2, 0⟩
def R.FCOL_SWARG : Nat := 0x400D0074
def F.FCOL_SWARG_ARG : Fld := ⟨R.FCOL_SWARG, 31, 0⟩
def R.FCOL_SUM : Nat := 0x400D0078
def F.FCOL_SUM_NUNACK : Fld := ⟨R.FCOL_SUM, 25, 16⟩
def F.FCOL_SUM_LAST : Fld := ⟨R.FCOL_SUM, 8, 0⟩
def R.FCOL_SEQ : Nat := 0x400D007C
def F.FCOL_SEQ_SEQ : Fld := ⟨R.FCOL_SEQ, 31, 0⟩
def R.FCOL_CNT_A : Nat := 0x400D0080
def F.FCOL_CNT_A_U : Fld := ⟨R.FCOL_CNT_A, 31, 16⟩
def F.FCOL_CNT_A_C : Fld := ⟨R.FCOL_CNT_A, 15, 0⟩
def R.FCOL_CNT_B : Nat := 0x400D0084
def F.FCOL_CNT_B_L3 : Fld := ⟨R.FCOL_CNT_B, 31, 16⟩
def F.FCOL_CNT_B_F : Fld := ⟨R.FCOL_CNT_B, 15, 0⟩
def R.FCOL_CNT_C : Nat := 0x400D0088
def F.FCOL_CNT_C_LOG_LOST : Fld := ⟨R.FCOL_CNT_C, 31, 16⟩
def F.FCOL_CNT_C_QDROP : Fld := ⟨R.FCOL_CNT_C, 15, 0⟩
def R.FCOL_CTL : Nat := 0x400D008C
def F.FCOL_CTL_FIRST_CLR : Fld := ⟨R.FCOL_CTL, 1, 1⟩
def F.FCOL_CTL_CLR : Fld := ⟨R.FCOL_CTL, 0, 0⟩
def R.FCOL_SCFG (i : Nat) : Nat := 0x400D0800 + 4 * i
def F.FCOL_SCFG_NOTIFY_C (i : Nat) : Fld := ⟨R.FCOL_SCFG i, 9, 9⟩
def F.FCOL_SCFG_DOM (i : Nat) : Fld := ⟨R.FCOL_SCFG i, 5, 4⟩
def F.FCOL_SCFG_ACTION (i : Nat) : Fld := ⟨R.FCOL_SCFG i, 2, 0⟩

/-! FFRC (15_faults_monitors.md) -/

def R.FFRC_FRC (p i : Nat) : Nat := 0x400D1040 + 0x1000 * p + 4 * i
def F.FFRC_FRC_FRC (p i : Nat) : Fld := ⟨R.FFRC_FRC p i, 31, 0⟩
def R.FFRC_UNACK (p i : Nat) : Nat := 0x400D1080 + 0x1000 * p + 4 * i
def F.FFRC_UNACK_UNACK (p i : Nat) : Fld := ⟨R.FFRC_UNACK p i, 31, 0⟩
def R.FFRC_STAT (s : Nat) : Nat := 0x400D1400 + 0x1000 * (s / 256) + 4 * (s % 256)
def F.FFRC_STAT_COUNT (s : Nat) : Fld := ⟨R.FFRC_STAT s, 31, 16⟩
def F.FFRC_STAT_KIND (s : Nat) : Fld := ⟨R.FFRC_STAT s, 15, 9⟩
def F.FFRC_STAT_FORCED (s : Nat) : Fld := ⟨R.FFRC_STAT s, 8, 8⟩
def F.FFRC_STAT_CLASS (s : Nat) : Fld := ⟨R.FFRC_STAT s, 5, 4⟩
def F.FFRC_STAT_LEVEL (s : Nat) : Fld := ⟨R.FFRC_STAT s, 3, 2⟩
def F.FFRC_STAT_TIMER (s : Nat) : Fld := ⟨R.FFRC_STAT s, 1, 1⟩
def F.FFRC_STAT_UNACK (s : Nat) : Fld := ⟨R.FFRC_STAT s, 0, 0⟩

/-! MON (15_faults_monitors.md) -/

def R.MON_CFG (m : Nat) : Nat := 0x400D8100 + 0x1000 * (m / 2) + 0x100 * (m % 2)
def F.MON_CFG_EN (m : Nat) : Fld := ⟨R.MON_CFG m, 31, 31⟩
def F.MON_CFG_SIGNED (m : Nat) : Fld := ⟨R.MON_CFG m, 30, 30⟩
def F.MON_CFG_SHIFT (m : Nat) : Fld := ⟨R.MON_CFG m, 20, 16⟩
def F.MON_CFG_SEL (m : Nat) : Fld := ⟨R.MON_CFG m, 15, 8⟩
def F.MON_CFG_PROBE (m : Nat) : Fld := ⟨R.MON_CFG m, 7, 0⟩
def R.MON_HBASE (m : Nat) : Nat := 0x400D8104 + 0x1000 * (m / 2) + 0x100 * (m % 2)
def F.MON_HBASE_HBASE (m : Nat) : Fld := ⟨R.MON_HBASE m, 31, 0⟩
def R.MON_LIMIT (m : Nat) : Nat := 0x400D8108 + 0x1000 * (m / 2) + 0x100 * (m % 2)
def F.MON_LIMIT_LIMIT (m : Nat) : Fld := ⟨R.MON_LIMIT m, 31, 0⟩
def R.MON_LCFG (m : Nat) : Nat := 0x400D810C + 0x1000 * (m / 2) + 0x100 * (m % 2)
def F.MON_LCFG_LEN (m : Nat) : Fld := ⟨R.MON_LCFG m, 31, 31⟩
def F.MON_LCFG_CLASS (m : Nat) : Fld := ⟨R.MON_LCFG m, 30, 30⟩
def F.MON_LCFG_DIR (m : Nat) : Fld := ⟨R.MON_LCFG m, 29, 29⟩
def F.MON_LCFG_LCNT (m : Nat) : Fld := ⟨R.MON_LCFG m, 15, 0⟩
def R.MON_CTL (m : Nat) : Nat := 0x400D8110 + 0x1000 * (m / 2) + 0x100 * (m % 2)
def F.MON_CTL_CLR (m : Nat) : Fld := ⟨R.MON_CTL m, 2, 2⟩
def F.MON_CTL_SNAPCLR (m : Nat) : Fld := ⟨R.MON_CTL m, 1, 1⟩
def F.MON_CTL_SNAP (m : Nat) : Fld := ⟨R.MON_CTL m, 0, 0⟩
def R.MON_STAT (m : Nat) : Nat := 0x400D8114 + 0x1000 * (m / 2) + 0x100 * (m % 2)
def F.MON_STAT_SNAPV (m : Nat) : Fld := ⟨R.MON_STAT m, 31, 31⟩
def F.MON_STAT_FULL (m : Nat) : Fld := ⟨R.MON_STAT m, 30, 30⟩
def F.MON_STAT_MISS (m : Nat) : Fld := ⟨R.MON_STAT m, 15, 0⟩
def R.MON_BEYOND (m : Nat) : Nat := 0x400D8118 + 0x1000 * (m / 2) + 0x100 * (m % 2)
def F.MON_BEYOND_BEYOND (m : Nat) : Fld := ⟨R.MON_BEYOND m, 15, 0⟩
def R.MON_SNAP_CNT (m : Nat) : Nat := 0x400D8120 + 0x1000 * (m / 2) + 0x100 * (m % 2)
def F.MON_SNAP_CNT_CNT (m : Nat) : Fld := ⟨R.MON_SNAP_CNT m, 31, 0⟩
def R.MON_SNAP_SUM_LO (m : Nat) : Nat := 0x400D8128 + 0x1000 * (m / 2) + 0x100 * (m % 2)
def F.MON_SNAP_SUM_LO_SUM (m : Nat) : Fld := ⟨R.MON_SNAP_SUM_LO m, 31, 0⟩
def R.MON_SNAP_SUM_HI (m : Nat) : Nat := 0x400D812C + 0x1000 * (m / 2) + 0x100 * (m % 2)
def F.MON_SNAP_SUM_HI_SUM (m : Nat) : Fld := ⟨R.MON_SNAP_SUM_HI m, 31, 0⟩
def R.MON_SNAP_MIN (m : Nat) : Nat := 0x400D8130 + 0x1000 * (m / 2) + 0x100 * (m % 2)
def F.MON_SNAP_MIN_MIN (m : Nat) : Fld := ⟨R.MON_SNAP_MIN m, 31, 0⟩
def R.MON_SNAP_MAX (m : Nat) : Nat := 0x400D8134 + 0x1000 * (m / 2) + 0x100 * (m % 2)
def F.MON_SNAP_MAX_MAX (m : Nat) : Fld := ⟨R.MON_SNAP_MAX m, 31, 0⟩
def R.MON_SNAP_TS_LO (m : Nat) : Nat := 0x400D8138 + 0x1000 * (m / 2) + 0x100 * (m % 2)
def F.MON_SNAP_TS_LO_TS (m : Nat) : Fld := ⟨R.MON_SNAP_TS_LO m, 31, 0⟩
def R.MON_SNAP_TS_HI (m : Nat) : Nat := 0x400D813C + 0x1000 * (m / 2) + 0x100 * (m % 2)
def F.MON_SNAP_TS_HI_TS (m : Nat) : Fld := ⟨R.MON_SNAP_TS_HI m, 31, 0⟩
def R.MON_SNAP_BIN (m b : Nat) : Nat := 0x400D8180 + 0x1000 * (m / 2) + 0x100 * (m % 2) + 4 * b
def F.MON_SNAP_BIN_BIN (m b : Nat) : Fld := ⟨R.MON_SNAP_BIN m b, 31, 0⟩

/-! SYS (16_modes_startup.md) -/

def R.SYS_MODE : Nat := 0x40000040
def F.SYS_MODE_PREV : Fld := ⟨R.SYS_MODE, 23, 20⟩
def F.SYS_MODE_LEAD : Fld := ⟨R.SYS_MODE, 16, 16⟩
def F.SYS_MODE_BOOTED : Fld := ⟨R.SYS_MODE, 8, 8⟩
def F.SYS_MODE_MODE : Fld := ⟨R.SYS_MODE, 3, 0⟩
def R.SYS_MODECMD : Nat := 0x40000044
def F.SYS_MODECMD_KEY : Fld := ⟨R.SYS_MODECMD, 15, 8⟩
def F.SYS_MODECMD_CMD : Fld := ⟨R.SYS_MODECMD, 3, 0⟩
def R.SYS_MODESTAT : Nat := 0x40000048
def F.SYS_MODESTAT_PEND : Fld := ⟨R.SYS_MODESTAT, 31, 31⟩
def F.SYS_MODESTAT_REFUSE : Fld := ⟨R.SYS_MODESTAT, 27, 24⟩
def F.SYS_MODESTAT_LASTCMD : Fld := ⟨R.SYS_MODESTAT, 19, 16⟩
def F.SYS_MODESTAT_REFUSED : Fld := ⟨R.SYS_MODESTAT, 15, 0⟩
def R.SYS_SAFE : Nat := 0x4000004C
def F.SYS_SAFE_SRC : Fld := ⟨R.SYS_SAFE, 24, 16⟩
def F.SYS_SAFE_PREBOOT : Fld := ⟨R.SYS_SAFE, 4, 4⟩
def F.SYS_SAFE_SW : Fld := ⟨R.SYS_SAFE, 2, 2⟩
def F.SYS_SAFE_FCOL : Fld := ⟨R.SYS_SAFE, 1, 1⟩
def F.SYS_SAFE_BROWNOUT : Fld := ⟨R.SYS_SAFE, 0, 0⟩
def R.SYS_SAFEACK : Nat := 0x40000050
def F.SYS_SAFEACK_RES : Fld := ⟨R.SYS_SAFEACK, 31, 28⟩
def F.SYS_SAFEACK_OWNER : Fld := ⟨R.SYS_SAFEACK, 7, 5⟩
def F.SYS_SAFEACK_FIRST : Fld := ⟨R.SYS_SAFEACK, 0, 0⟩
def F.SYS_SAFEACK_KEY : Fld := ⟨R.SYS_SAFEACK, 31, 0⟩
def R.SYS_SAFE_TS_LO : Nat := 0x40000054
def F.SYS_SAFE_TS_LO_TS_LO : Fld := ⟨R.SYS_SAFE_TS_LO, 31, 0⟩
def R.SYS_SAFE_TS_HI : Nat := 0x40000058
def F.SYS_SAFE_TS_HI_TS_HI : Fld := ⟨R.SYS_SAFE_TS_HI, 31, 0⟩
def R.SYS_SVC : Nat := 0x4000005C
def F.SYS_SVC_ALLOW : Fld := ⟨R.SYS_SVC, 0, 0⟩
def R.SYS_SHUT : Nat := 0x40000060
def F.SYS_SHUT_SHUT_T : Fld := ⟨R.SYS_SHUT, 31, 16⟩
def F.SYS_SHUT_DONE : Fld := ⟨R.SYS_SHUT, 15, 15⟩
def F.SYS_SHUT_PWROFF : Fld := ⟨R.SYS_SHUT, 0, 0⟩
def R.SYS_BOOTSTAT : Nat := 0x40000064
def F.SYS_BOOTSTAT_CODE : Fld := ⟨R.SYS_BOOTSTAT, 23, 16⟩
def F.SYS_BOOTSTAT_TIME : Fld := ⟨R.SYS_BOOTSTAT, 15, 0⟩
def R.SYS_CTL : Nat := 0x40000068
def F.SYS_CTL_CLR : Fld := ⟨R.SYS_CTL, 1, 1⟩
def F.SYS_CTL_REBOOT : Fld := ⟨R.SYS_CTL, 0, 0⟩
def R.SYS_CNT_A : Nat := 0x4000006C
def F.SYS_CNT_A_SAFE : Fld := ⟨R.SYS_CNT_A, 31, 16⟩
def F.SYS_CNT_A_SHUTDOWN : Fld := ⟨R.SYS_CNT_A, 15, 0⟩
def R.SYS_PWRUP : Nat := 0x40000070
def F.SYS_PWRUP_CAUSE : Fld := ⟨R.SYS_PWRUP, 2, 0⟩

/-! SEC (17_identity_update.md) -/

def R.SEC_LC : Nat := 0x40004040
def F.SEC_LC_OWNER_KEY : Fld := ⟨R.SEC_LC, 9, 9⟩
def F.SEC_LC_ENDORSED : Fld := ⟨R.SEC_LC, 8, 8⟩
def F.SEC_LC_STATE : Fld := ⟨R.SEC_LC, 2, 0⟩
def R.SEC_CMD : Nat := 0x40004044
def F.SEC_CMD_KEY : Fld := ⟨R.SEC_CMD, 31, 24⟩
def F.SEC_CMD_CMD : Fld := ⟨R.SEC_CMD, 7, 0⟩
def R.SEC_ARG : Nat := 0x40004048
def F.SEC_ARG_ADDR : Fld := ⟨R.SEC_ARG, 31, 0⟩
def R.SEC_STAT : Nat := 0x4000404C
def F.SEC_STAT_PEND : Fld := ⟨R.SEC_STAT, 31, 31⟩
def F.SEC_STAT_OWNER : Fld := ⟨R.SEC_STAT, 30, 28⟩
def F.SEC_STAT_STATUS : Fld := ⟨R.SEC_STAT, 27, 24⟩
def F.SEC_STAT_LASTCMD : Fld := ⟨R.SEC_STAT, 23, 16⟩
def F.SEC_STAT_FAILS : Fld := ⟨R.SEC_STAT, 15, 0⟩
def R.SEC_CHAL (i : Nat) : Nat := 0x40004050 + 4 * i
def F.SEC_CHAL_CHAL (i : Nat) : Fld := ⟨R.SEC_CHAL i, 31, 0⟩
def R.SEC_CERTLEN : Nat := 0x40004060
def F.SEC_CERTLEN_LEN : Fld := ⟨R.SEC_CERTLEN, 15, 0⟩
def R.SEC_CNT : Nat := 0x40004064
def F.SEC_CNT_SIGFAIL : Fld := ⟨R.SEC_CNT, 31, 16⟩
def F.SEC_CNT_QUOTES : Fld := ⟨R.SEC_CNT, 15, 0⟩

/-! UPD (17_identity_update.md) -/

def R.UPD_CFG : Nat := 0x40005040
def F.UPD_CFG_TRIAL : Fld := ⟨R.UPD_CFG, 12, 12⟩
def F.UPD_CFG_VBMIN : Fld := ⟨R.UPD_CFG, 11, 0⟩
def R.UPD_STAGE : Nat := 0x40005044
def F.UPD_STAGE_KEY : Fld := ⟨R.UPD_STAGE, 31, 24⟩
def F.UPD_STAGE_OP : Fld := ⟨R.UPD_STAGE, 9, 8⟩
def F.UPD_STAGE_KIND : Fld := ⟨R.UPD_STAGE, 1, 0⟩
def R.UPD_SRC : Nat := 0x40005048
def F.UPD_SRC_SRC : Fld := ⟨R.UPD_SRC, 31, 0⟩
def R.UPD_OFS : Nat := 0x4000504C
def F.UPD_OFS_OFS : Fld := ⟨R.UPD_OFS, 31, 0⟩
def R.UPD_LEN : Nat := 0x40005050
def F.UPD_LEN_LEN : Fld := ⟨R.UPD_LEN, 16, 0⟩
def R.UPD_SSTAT : Nat := 0x40005054
def F.UPD_SSTAT_PEND : Fld := ⟨R.UPD_SSTAT, 31, 31⟩
def F.UPD_SSTAT_STATUS : Fld := ⟨R.UPD_SSTAT, 27, 24⟩
def F.UPD_SSTAT_KIND : Fld := ⟨R.UPD_SSTAT, 17, 16⟩
def F.UPD_SSTAT_OPEN : Fld := ⟨R.UPD_SSTAT, 3, 0⟩
def R.UPD_ACT : Nat := 0x40005058
def F.UPD_ACT_KEY : Fld := ⟨R.UPD_ACT, 31, 24⟩
def F.UPD_ACT_MASK : Fld := ⟨R.UPD_ACT, 3, 0⟩
def R.UPD_ASTAT : Nat := 0x4000505C
def F.UPD_ASTAT_PEND : Fld := ⟨R.UPD_ASTAT, 31, 31⟩
def F.UPD_ASTAT_DONE : Fld := ⟨R.UPD_ASTAT, 30, 30⟩
def F.UPD_ASTAT_REASON : Fld := ⟨R.UPD_ASTAT, 27, 24⟩
def F.UPD_ASTAT_MASK : Fld := ⟨R.UPD_ASTAT, 19, 16⟩
def F.UPD_ASTAT_REFUSED : Fld := ⟨R.UPD_ASTAT, 15, 0⟩
def R.UPD_SLOT : Nat := 0x40005060
def F.UPD_SLOT_VALID : Fld := ⟨R.UPD_SLOT, 15, 12⟩
def F.UPD_SLOT_TRIAL : Fld := ⟨R.UPD_SLOT, 11, 8⟩
def F.UPD_SLOT_STAGED : Fld := ⟨R.UPD_SLOT, 7, 4⟩
def F.UPD_SLOT_ACTIVE_B : Fld := ⟨R.UPD_SLOT, 3, 0⟩
def R.UPD_RBC (i : Nat) : Nat := 0x40005064 + 4 * i
def F.UPD_RBC_RBC (i : Nat) : Fld := ⟨R.UPD_RBC i, 31, 0⟩
def R.UPD_MOVE : Nat := 0x40005074
def F.UPD_MOVE_MS : Fld := ⟨R.UPD_MOVE, 31, 0⟩
def R.UPD_CFGSTAT : Nat := 0x40005078
def F.UPD_CFGSTAT_REJECT : Fld := ⟨R.UPD_CFGSTAT, 31, 16⟩
def R.UPD_CFGADDR : Nat := 0x4000507C
def F.UPD_CFGADDR_ADDR : Fld := ⟨R.UPD_CFGADDR, 31, 0⟩
def R.UPD_CTL : Nat := 0x40005080
def F.UPD_CTL_REVERT : Fld := ⟨R.UPD_CTL, 11, 8⟩
def F.UPD_CTL_CONFIRM : Fld := ⟨R.UPD_CTL, 3, 0⟩

/-! MRAMC (17_identity_update.md) -/

def R.MRAMC_WADDR : Nat := 0x40003040
def F.MRAMC_WADDR_ADDR : Fld := ⟨R.MRAMC_WADDR, 22, 0⟩
def R.MRAMC_WDLO : Nat := 0x40003044
def F.MRAMC_WDLO_DLO : Fld := ⟨R.MRAMC_WDLO, 31, 0⟩
def R.MRAMC_WDHI : Nat := 0x40003048
def F.MRAMC_WDHI_DHI : Fld := ⟨R.MRAMC_WDHI, 31, 0⟩
def R.MRAMC_WSTAT : Nat := 0x4000304C
def F.MRAMC_WSTAT_PEND : Fld := ⟨R.MRAMC_WSTAT, 31, 31⟩
def F.MRAMC_WSTAT_STATUS : Fld := ⟨R.MRAMC_WSTAT, 27, 24⟩
def F.MRAMC_WSTAT_REP : Fld := ⟨R.MRAMC_WSTAT, 1, 0⟩
def R.MRAMC_LAPP : Nat := 0x40003050
def F.MRAMC_LAPP_SRC : Fld := ⟨R.MRAMC_LAPP, 31, 0⟩
def R.MRAMC_LSTAT : Nat := 0x40003054
def F.MRAMC_LSTAT_PEND : Fld := ⟨R.MRAMC_LSTAT, 31, 31⟩
def F.MRAMC_LSTAT_STATUS : Fld := ⟨R.MRAMC_LSTAT, 27, 24⟩
def R.MRAMC_LHEAD : Nat := 0x40003058
def F.MRAMC_LHEAD_LHEAD : Fld := ⟨R.MRAMC_LHEAD, 31, 0⟩
def R.MRAMC_WMAX : Nat := 0x4000305C
def F.MRAMC_WMAX_WMAX : Fld := ⟨R.MRAMC_WMAX, 31, 0⟩
def R.MRAMC_WBLK : Nat := 0x40003060
def F.MRAMC_WBLK_BLK : Fld := ⟨R.MRAMC_WBLK, 8, 0⟩
def R.MRAMC_CNT : Nat := 0x40003064
def F.MRAMC_CNT_RD_RETRY : Fld := ⟨R.MRAMC_CNT, 31, 16⟩
def F.MRAMC_CNT_WR_REP : Fld := ⟨R.MRAMC_CNT, 15, 0⟩
def R.MRAMC_CTL : Nat := 0x40003068
def F.MRAMC_CTL_CLR : Fld := ⟨R.MRAMC_CTL, 0, 0⟩

/-! RTC (18_oasis_domain.md) -/

def R.RTC_SUB : Nat := 0x400E0040
def F.RTC_SUB_SUB : Fld := ⟨R.RTC_SUB, 14, 0⟩
def R.RTC_SEC : Nat := 0x400E0044
def F.RTC_SEC_SEC : Fld := ⟨R.RTC_SEC, 31, 0⟩
def R.RTC_SET : Nat := 0x400E0048
def F.RTC_SET_SEC : Fld := ⟨R.RTC_SET, 31, 0⟩
def R.RTC_TRIM : Nat := 0x400E004C
def F.RTC_TRIM_TRIM : Fld := ⟨R.RTC_TRIM, 11, 0⟩
def R.RTC_ALARM : Nat := 0x400E0050
def F.RTC_ALARM_ALARM : Fld := ⟨R.RTC_ALARM, 31, 0⟩
def R.RTC_CTL : Nat := 0x400E0054
def F.RTC_CTL_CL : Fld := ⟨R.RTC_CTL, 5, 2⟩
def F.RTC_CTL_AWAKE : Fld := ⟨R.RTC_CTL, 1, 1⟩
def F.RTC_CTL_AEN : Fld := ⟨R.RTC_CTL, 0, 0⟩
def R.RTC_STAT : Nat := 0x400E0058
def F.RTC_STAT_APAST : Fld := ⟨R.RTC_STAT, 3, 3⟩
def F.RTC_STAT_ALARM : Fld := ⟨R.RTC_STAT, 2, 2⟩
def F.RTC_STAT_XTAL_FAIL : Fld := ⟨R.RTC_STAT, 1, 1⟩
def F.RTC_STAT_VALID : Fld := ⟨R.RTC_STAT, 0, 0⟩
def R.RTC_TB_LO : Nat := 0x400E005C
def F.RTC_TB_LO_TB_LO : Fld := ⟨R.RTC_TB_LO, 31, 0⟩
def R.RTC_TB_HI : Nat := 0x400E0060
def F.RTC_TB_HI_TB_HI : Fld := ⟨R.RTC_TB_HI, 31, 0⟩
def R.RTC_TB_SEC : Nat := 0x400E0064
def F.RTC_TB_SEC_SEC : Fld := ⟨R.RTC_TB_SEC, 31, 0⟩

/-! SENT (18_oasis_domain.md) -/

def R.SENT_CFG : Nat := 0x400E1040
def F.SENT_CFG_ROT_GATE : Fld := ⟨R.SENT_CFG, 16, 16⟩
def F.SENT_CFG_SPER : Fld := ⟨R.SENT_CFG, 15, 0⟩
def R.SENT_SSC : Nat := 0x400E1044
def F.SENT_SSC_ROT_CNT : Fld := ⟨R.SENT_SSC, 23, 16⟩
def F.SENT_SSC_THR : Fld := ⟨R.SENT_SSC, 11, 8⟩
def F.SENT_SSC_WAKE : Fld := ⟨R.SENT_SSC, 2, 2⟩
def F.SENT_SSC_REC : Fld := ⟨R.SENT_SSC, 1, 1⟩
def F.SENT_SSC_EN : Fld := ⟨R.SENT_SSC, 0, 0⟩
def R.SENT_TCNT : Nat := 0x400E1048
def F.SENT_TCNT_TCNT : Fld := ⟨R.SENT_TCNT, 15, 0⟩
def R.SENT_IN_CFG (i : Nat) : Nat := 0x400E1050 + 8 * i
def F.SENT_IN_CFG_EVERY (i : Nat) : Fld := ⟨R.SENT_IN_CFG i, 23, 16⟩
def F.SENT_IN_CFG_NCONS (i : Nat) : Fld := ⟨R.SENT_IN_CFG i, 11, 8⟩
def F.SENT_IN_CFG_WAKE (i : Nat) : Fld := ⟨R.SENT_IN_CFG i, 4, 4⟩
def F.SENT_IN_CFG_REC (i : Nat) : Fld := ⟨R.SENT_IN_CFG i, 3, 3⟩
def F.SENT_IN_CFG_ACTIVE (i : Nat) : Fld := ⟨R.SENT_IN_CFG i, 2, 2⟩
def F.SENT_IN_CFG_TYPE (i : Nat) : Fld := ⟨R.SENT_IN_CFG i, 1, 1⟩
def F.SENT_IN_CFG_EN (i : Nat) : Fld := ⟨R.SENT_IN_CFG i, 0, 0⟩
def R.SENT_IN_THR (i : Nat) : Nat := 0x400E1054 + 8 * i
def F.SENT_IN_THR_VAL (i : Nat) : Fld := ⟨R.SENT_IN_THR i, 23, 16⟩
def F.SENT_IN_THR_HI (i : Nat) : Fld := ⟨R.SENT_IN_THR i, 15, 8⟩
def F.SENT_IN_THR_LO (i : Nat) : Fld := ⟨R.SENT_IN_THR i, 7, 0⟩
def R.SENT_EVT : Nat := 0x400E10A0
def F.SENT_EVT_EVT : Fld := ⟨R.SENT_EVT, 8, 0⟩
def R.SENT_LAST : Nat := 0x400E10A4
def F.SENT_LAST_SRC : Fld := ⟨R.SENT_LAST, 3, 0⟩
def R.SENT_LASTSEC : Nat := 0x400E10A8
def F.SENT_LASTSEC_SEC : Fld := ⟨R.SENT_LASTSEC, 31, 0⟩
def R.SENT_CNT : Nat := 0x400E10AC
def F.SENT_CNT_ROT : Fld := ⟨R.SENT_CNT, 31, 16⟩
def F.SENT_CNT_IN : Fld := ⟨R.SENT_CNT, 15, 0⟩

/-! OPWR (18_oasis_domain.md) -/

def R.OPWR_STAT : Nat := 0x400E2040
def F.OPWR_STAT_RAM_PERR : Fld := ⟨R.OPWR_STAT, 4, 4⟩
def F.OPWR_STAT_VBAT_CRIT : Fld := ⟨R.OPWR_STAT, 3, 3⟩
def F.OPWR_STAT_VBAT_LOW : Fld := ⟨R.OPWR_STAT, 2, 2⟩
def F.OPWR_STAT_LOST : Fld := ⟨R.OPWR_STAT, 1, 1⟩
def F.OPWR_STAT_SRC : Fld := ⟨R.OPWR_STAT, 0, 0⟩
def R.OPWR_VBAT : Nat := 0x400E2044
def F.OPWR_VBAT_VBAT : Fld := ⟨R.OPWR_VBAT, 12, 0⟩
def R.OPWR_CFG : Nat := 0x400E2048
def F.OPWR_CFG_LOW : Fld := ⟨R.OPWR_CFG, 9, 0⟩
def R.OPWR_WCAUSE : Nat := 0x400E204C
def F.OPWR_WCAUSE_POWER : Fld := ⟨R.OPWR_WCAUSE, 4, 4⟩
def F.OPWR_WCAUSE_EXT : Fld := ⟨R.OPWR_WCAUSE, 3, 3⟩
def F.OPWR_WCAUSE_ROT : Fld := ⟨R.OPWR_WCAUSE, 2, 2⟩
def F.OPWR_WCAUSE_SENT : Fld := ⟨R.OPWR_WCAUSE, 1, 1⟩
def F.OPWR_WCAUSE_ALARM : Fld := ⟨R.OPWR_WCAUSE, 0, 0⟩
def R.OPWR_WAKE : Nat := 0x400E2050
def F.OPWR_WAKE_PIN : Fld := ⟨R.OPWR_WAKE, 3, 3⟩
def F.OPWR_WAKE_PEND : Fld := ⟨R.OPWR_WAKE, 2, 2⟩
def F.OPWR_WAKE_SYSHOLD : Fld := ⟨R.OPWR_WAKE, 1, 1⟩
def F.OPWR_WAKE_SWHOLD : Fld := ⟨R.OPWR_WAKE, 0, 0⟩
def R.OPWR_RAM (i : Nat) : Nat := 0x400E2100 + 4 * i
def F.OPWR_RAM_DATA (i : Nat) : Fld := ⟨R.OPWR_RAM i, 31, 0⟩

/-! Common page registers (02_register_pages.md, R46): the address of each in page `pg`, and the fields. -/

def R.PID (pg : Nat) : Nat := 0x40000000 + 0x1000 * pg + 0x0
def R.PCAP (pg : Nat) : Nat := 0x40000000 + 0x1000 * pg + 0x4
def R.PCTL (pg : Nat) : Nat := 0x40000000 + 0x1000 * pg + 0x8
def F.PCTL_SHDW_HOLD (pg : Nat) : Fld := ⟨R.PCTL pg, 4, 4⟩
def F.PCTL_PRESET_ALL (pg : Nat) : Fld := ⟨R.PCTL pg, 3, 3⟩
def F.PCTL_RESTART (pg : Nat) : Fld := ⟨R.PCTL pg, 2, 2⟩
def F.PCTL_FREEZE (pg : Nat) : Fld := ⟨R.PCTL pg, 1, 1⟩
def F.PCTL_ENABLE (pg : Nat) : Fld := ⟨R.PCTL pg, 0, 0⟩
def R.PSTAT (pg : Nat) : Nat := 0x40000000 + 0x1000 * pg + 0xC
def F.PSTAT_SHDW_PEND (pg : Nat) : Fld := ⟨R.PSTAT pg, 4, 4⟩
def F.PSTAT_RESTARTING (pg : Nat) : Fld := ⟨R.PSTAT pg, 3, 3⟩
def F.PSTAT_FAULTED (pg : Nat) : Fld := ⟨R.PSTAT pg, 2, 2⟩
def F.PSTAT_RUNNING (pg : Nat) : Fld := ⟨R.PSTAT pg, 1, 1⟩
def F.PSTAT_BUSY (pg : Nat) : Fld := ⟨R.PSTAT pg, 0, 0⟩
def R.PIRQ (pg : Nat) : Nat := 0x40000000 + 0x1000 * pg + 0x10
def R.PIEN (pg : Nat) : Nat := 0x40000000 + 0x1000 * pg + 0x14
def R.PIFRC (pg : Nat) : Nat := 0x40000000 + 0x1000 * pg + 0x18
def R.PFLT (pg : Nat) : Nat := 0x40000000 + 0x1000 * pg + 0x1C
def R.PFFRC (pg : Nat) : Nat := 0x40000000 + 0x1000 * pg + 0x20
def R.PLOCK (pg : Nat) : Nat := 0x40000000 + 0x1000 * pg + 0x24
def F.PLOCK_OWNER (pg : Nat) : Fld := ⟨R.PLOCK pg, 7, 5⟩
def F.PLOCK_FIRST (pg : Nat) : Fld := ⟨R.PLOCK pg, 1, 1⟩
def F.PLOCK_UNLOCKED (pg : Nat) : Fld := ⟨R.PLOCK pg, 0, 0⟩
def R.PACC (pg : Nat) : Nat := 0x40000000 + 0x1000 * pg + 0x28
def R.PGEN (pg : Nat) : Nat := 0x40000000 + 0x1000 * pg + 0x2C

/-! The first page of each block type (R41). -/

def P.SYS : Nat := 0x0
def P.TBASE : Nat := 0x1
def P.HOSTP : Nat := 0x2
def P.MRAMC : Nat := 0x3
def P.SEC : Nat := 0x4
def P.UPD : Nat := 0x5
def P.WHL (p : Nat) : Nat := 0x8 + p
def P.ANG (p : Nat) : Nat := 0x10 + p
def P.PRED (p : Nat) : Nat := 0x12 + p
def P.CARV : Nat := 0x18
def P.RING : Nat := 0x19
def P.DRV (p : Nat) : Nat := 0x20 + p
def P.BANK (p : Nat) : Nat := 0x50 + p
def P.BST (p : Nat) : Nat := 0x5C + p
def P.PROF : Nat := 0x5E
def P.IGN (p : Nat) : Nat := 0x60 + p
def P.TAPC : Nat := 0x78
def P.TRIG : Nat := 0x79
def P.ADC (p : Nat) : Nat := 0x80 + p
def P.SMPL : Nat := 0x88
def P.KNK : Nat := 0x89
def P.CMB : Nat := 0x8A
def P.TRIM : Nat := 0x8B
def P.TMR (p : Nat) : Nat := 0x90 + p
def P.PIO (p : Nat) : Nat := 0xA0 + p
def P.PIOG : Nat := 0xA8
def P.INTC : Nat := 0xB0
def P.CORE (p : Nat) : Nat := 0xB8 + p
def P.NL (p : Nat) : Nat := 0xC0 + p
def P.FAB : Nat := 0xC4
def P.BEAC : Nat := 0xC5
def P.FCOL : Nat := 0xD0
def P.FFRC (p : Nat) : Nat := 0xD1 + p
def P.MON (p : Nat) : Nat := 0xD8 + p
def P.RTC : Nat := 0xE0
def P.SENT : Nat := 0xE1
def P.OPWR : Nat := 0xE2

end Sys2Proof.Machine
end

