-- ==== Sys2Proof/Machine/MapRows.lean ====
section
/-!
DEFINITION. Machine/MapRows.lean: for each block type, its block-specific registers as the chapter's register table gives them:
offset, count and stride of an array, reset word, and the named fields with access code (R7) and the range rule of the
field (R90 and the rules like it: a numeric field outside its range is clamped; a reserved code keeps the previous value).
Bits without a named field are reserved (R8).
-/

namespace Sys2Proof.Machine

def rowsSYS : List RRow := [
  ⟨0x4, 1, 0, 0x148DB222, [⟨28, 27, .ro, .any⟩, ⟨26, 24, .ro, .any⟩, ⟨23, 20, .ro, .any⟩, ⟨19, 17, .ro, .any⟩, ⟨16, 14, .ro, .any⟩, ⟨13, 10, .ro, .any⟩, ⟨9, 6, .ro, .any⟩, ⟨5, 2, .ro, .any⟩, ⟨1, 0, .ro, .any⟩]⟩ /- SYS_PCAP -/,
  ⟨0xC0, 1, 0, 0x0, [⟨19, 0, .ro, .any⟩]⟩ /- SYS_STGM_NOW -/,
  ⟨0xC4, 1, 0, 0xFFFFF, [⟨19, 0, .ro, .any⟩]⟩ /- SYS_STGM_MIN -/,
  ⟨0xC8, 1, 0, 0x0, [⟨19, 0, .ro, .any⟩]⟩ /- SYS_STGM_MAX -/,
  ⟨0xCC, 1, 0, 0x6540200, [⟨31, 16, .rw, .any⟩, ⟨11, 8, .rw, .clamp 0 10⟩, ⟨0, 0, .w1s, .any⟩]⟩ /- SYS_STGM_CTL -/,
  ⟨0xD0, 1, 0, 0x0, [⟨1, 1, .ro, .any⟩, ⟨0, 0, .w1c, .any⟩]⟩ /- SYS_STGM_STAT -/,
  ⟨0xD4, 1, 0, 0x0, [⟨17, 17, .w1c, .any⟩, ⟨16, 16, .ro, .any⟩, ⟨11, 0, .ro, .any⟩]⟩ /- SYS_VMON -/,
  ⟨0x40, 1, 0, 0x3, [⟨23, 20, .ro, .any⟩, ⟨16, 16, .rw, .any⟩, ⟨8, 8, .ro, .any⟩, ⟨3, 0, .ro, .any⟩]⟩ /- SYS_MODE -/,
  ⟨0x44, 1, 0, 0x0, [⟨15, 8, .wo, .any⟩, ⟨3, 0, .wo, .any⟩]⟩ /- SYS_MODECMD -/,
  ⟨0x48, 1, 0, 0x0, [⟨31, 31, .ro, .any⟩, ⟨27, 24, .ro, .any⟩, ⟨19, 16, .ro, .any⟩, ⟨15, 0, .ro, .any⟩]⟩ /- SYS_MODESTAT -/,
  ⟨0x4C, 1, 0, 0x1FF0000, [⟨24, 16, .ro, .any⟩, ⟨4, 4, .ro, .any⟩, ⟨2, 2, .ro, .any⟩, ⟨1, 1, .ro, .any⟩, ⟨0, 0, .ro, .any⟩]⟩ /- SYS_SAFE -/,
  ⟨0x50, 1, 0, 0xE0, [⟨31, 28, .ro, .any⟩, ⟨7, 5, .ro, .any⟩, ⟨0, 0, .ro, .any⟩, ⟨31, 0, .wo, .any⟩]⟩ /- SYS_SAFEACK -/,
  ⟨0x54, 1, 0, 0x0, [⟨31, 0, .ro, .any⟩]⟩ /- SYS_SAFE_TS_LO -/,
  ⟨0x58, 1, 0, 0x0, [⟨31, 0, .ro, .any⟩]⟩ /- SYS_SAFE_TS_HI -/,
  ⟨0x5C, 1, 0, 0x0, [⟨0, 0, .rw, .any⟩]⟩ /- SYS_SVC -/,
  ⟨0x60, 1, 0, 0x1F40000, [⟨31, 16, .rw, .clamp 1 10000⟩, ⟨15, 15, .ro, .any⟩, ⟨0, 0, .rw, .any⟩]⟩ /- SYS_SHUT -/,
  ⟨0x64, 1, 0, 0x0, [⟨23, 16, .ro, .any⟩, ⟨15, 0, .ro, .any⟩]⟩ /- SYS_BOOTSTAT -/,
  ⟨0x68, 1, 0, 0x0, [⟨1, 1, .w1s, .any⟩, ⟨0, 0, .w1s, .any⟩]⟩ /- SYS_CTL -/,
  ⟨0x6C, 1, 0, 0x0, [⟨31, 16, .ro, .any⟩, ⟨15, 0, .ro, .any⟩]⟩ /- SYS_CNT_A -/,
  ⟨0x70, 1, 0, 0x0, [⟨2, 0, .ro, .any⟩]⟩ /- SYS_PWRUP -/]

def rowsTBASE : List RRow := [
  ⟨0x40, 1, 0, 0x0, [⟨31, 0, .ro, .any⟩]⟩ /- TB_NOW_LO -/,
  ⟨0x44, 1, 0, 0x0, [⟨31, 0, .ro, .any⟩]⟩ /- TB_NOW_HI -/,
  ⟨0x48, 1, 0, 0x0, [⟨31, 16, .ro, .any⟩, ⟨4, 4, .ro, .any⟩, ⟨3, 3, .ro, .any⟩, ⟨2, 2, .ro, .any⟩, ⟨1, 1, .ro, .any⟩, ⟨0, 0, .ro, .any⟩]⟩ /- TB_STAT -/,
  ⟨0x4C, 1, 0, 0x40, [⟨7, 4, .rwl, .any⟩, ⟨0, 0, .rwl, .any⟩]⟩ /- TB_CTL -/,
  ⟨0x50, 1, 0, 0x0, [⟨15, 0, .ro, .any⟩]⟩ /- TB_LOSS -/,
  ⟨0x54, 1, 0, 0x0, [⟨31, 0, .ro, .any⟩]⟩ /- TB_SLEW -/]

def rowsHOSTP : List RRow := [
  ⟨0x40, 1, 0, 0x4000000, [⟨31, 16, .rw, .any⟩]⟩ /- HOSTP_CFG -/,
  ⟨0x44, 1, 0, 0x0, [⟨31, 28, .ro, .any⟩, ⟨6, 6, .w1c, .any⟩, ⟨5, 5, .w1c, .any⟩, ⟨4, 4, .w1c, .any⟩, ⟨3, 3, .w1c, .any⟩, ⟨2, 2, .w1c, .any⟩, ⟨1, 1, .w1c, .any⟩, ⟨0, 0, .w1c, .any⟩]⟩ /- HOSTP_STAT -/,
  ⟨0x48, 1, 0, 0x0, [⟨31, 0, .ro, .any⟩]⟩ /- HOSTP_LASTCMD -/,
  ⟨0x4C, 1, 0, 0x0, [⟨31, 0, .ro, .any⟩]⟩ /- HOSTP_LASTADDR -/,
  ⟨0x50, 1, 0, 0x0, [⟨31, 0, .ro, .any⟩]⟩ /- HOSTP_CNT_OK -/,
  ⟨0x54, 1, 0, 0x0, [⟨31, 16, .ro, .any⟩, ⟨15, 0, .ro, .any⟩]⟩ /- HOSTP_CNT_ERR -/]

def rowsWHL : List RRow := [
  ⟨0x40, 1, 0, 0x11, [⟨16, 16, .rws, .any⟩, ⟨15, 15, .rws, .any⟩, ⟨14, 13, .rws, .codes 2⟩, ⟨12, 11, .rws, .codes 2⟩, ⟨10, 8, .rws, .codes 2⟩, ⟨7, 4, .ro, .any⟩, ⟨3, 0, .rw, .any⟩]⟩ /- WHL_CFG -/,
  ⟨0x44, 1, 0, 0x221E028, [⟨27, 24, .rws, .clamp 0 4⟩, ⟨23, 20, .rws, .any⟩, ⟨18, 12, .rws, .clamp 5 90⟩, ⟨11, 0, .rws, .clamp 20 2000⟩]⟩ /- WHL_VR -/,
  ⟨0x48, 1, 0, 0x40050, [⟨31, 16, .rws, .clamp 1 65535⟩, ⟨15, 0, .rws, .clamp 32 65535⟩]⟩ /- WHL_FILT -/,
  ⟨0x4C, 1, 0, 0xA028, [⟨24, 24, .rws, .any⟩, ⟨16, 8, .rws, .clamp 105 400⟩, ⟨6, 0, .rws, .clamp 5 95⟩]⟩ /- WHL_QUAL -/,
  ⟨0x50, 1, 0, 0x70802A3, [⟨31, 31, .rws, .any⟩, ⟨27, 16, .rws, .any⟩, ⟨11, 0, .rws, .clamp 10 4094⟩]⟩ /- WHL_DIR -/,
  ⟨0x54, 1, 0, 0x4C0, [⟨15, 0, .rws, .any⟩]⟩ /- WHL_DLY -/,
  ⟨0x58, 1, 0, 0x0, [⟨27, 16, .ro, .any⟩, ⟨5, 5, .ro, .any⟩, ⟨4, 4, .ro, .any⟩, ⟨3, 3, .ro, .any⟩, ⟨2, 2, .ro, .any⟩, ⟨1, 1, .ro, .any⟩, ⟨0, 0, .ro, .any⟩]⟩ /- WHL_STAT -/,
  ⟨0x5C, 1, 0, 0x0, [⟨31, 0, .ro, .any⟩]⟩ /- WHL_LAST_LO -/,
  ⟨0x60, 1, 0, 0x0, [⟨31, 0, .ro, .any⟩]⟩ /- WHL_LAST_HI -/,
  ⟨0x64, 1, 0, 0x0, [⟨18, 18, .ro, .any⟩, ⟨17, 17, .ro, .any⟩, ⟨16, 16, .ro, .any⟩, ⟨15, 0, .ro, .any⟩]⟩ /- WHL_RATIO -/,
  ⟨0x68, 1, 0, 0x0, [⟨31, 0, .ro, .any⟩]⟩ /- WHL_CNT_ACC -/,
  ⟨0x6C, 1, 0, 0x0, [⟨31, 16, .ro, .any⟩, ⟨15, 0, .ro, .any⟩]⟩ /- WHL_CNT_NOISE -/,
  ⟨0x70, 1, 0, 0x0, [⟨31, 16, .ro, .any⟩, ⟨15, 0, .ro, .any⟩]⟩ /- WHL_CNT_MISC -/,
  ⟨0x74, 1, 0, 0x0, [⟨31, 16, .ro, .any⟩, ⟨15, 0, .ro, .any⟩]⟩ /- WHL_CNT_DIAG -/,
  ⟨0x78, 1, 0, 0x8, [⟨7, 0, .rw, .any⟩]⟩ /- WHL_NOISE_LIM -/,
  ⟨0x7C, 1, 0, 0x0, [⟨4, 2, .ro, .any⟩, ⟨1, 0, .ro, .any⟩]⟩ /- WHL_BIND -/,
  ⟨0x80, 1, 0, 0x0, [⟨0, 0, .w1s, .any⟩]⟩ /- WHL_CLR -/,
  ⟨0x84, 1, 0, 0x0, [⟨2, 2, .w1c, .any⟩, ⟨1, 1, .ro, .any⟩, ⟨0, 0, .ro, .any⟩]⟩ /- WHL_SSC -/]

def rowsANG : List RRow := [
  ⟨0x40, 1, 0, 0x8411, [⟨20, 20, .rws, .any⟩, ⟨19, 19, .rws, .any⟩, ⟨18, 18, .rws, .any⟩, ⟨17, 17, .rws, .any⟩, ⟨16, 16, .rws, .any⟩, ⟨15, 15, .rws, .any⟩, ⟨14, 13, .rws, .any⟩, ⟨12, 10, .rws, .any⟩, ⟨9, 9, .rws, .any⟩, ⟨8, 8, .rw, .any⟩, ⟨7, 4, .ro, .any⟩, ⟨3, 0, .rw, .any⟩]⟩ /- ANG_CFG -/,
  ⟨0x44, 1, 0, 0x0, [⟨19, 19, .rw, .any⟩, ⟨18, 16, .rw, .any⟩, ⟨15, 15, .rw, .any⟩, ⟨14, 12, .rw, .any⟩, ⟨11, 11, .rw, .any⟩, ⟨10, 8, .rw, .any⟩, ⟨7, 7, .rw, .any⟩, ⟨6, 4, .rw, .any⟩, ⟨3, 3, .rw, .any⟩, ⟨2, 0, .rw, .any⟩]⟩ /- ANG_BIND -/,
  ⟨0x48, 1, 0, 0x0, [⟨25, 16, .rw, .any⟩, ⟨9, 0, .rw, .any⟩]⟩ /- ANG_TTN_A -/,
  ⟨0x4C, 1, 0, 0x0, [⟨25, 16, .rw, .any⟩, ⟨9, 0, .rw, .any⟩]⟩ /- ANG_TTN_B -/,
  ⟨0x50, 1, 0, 0x0, [⟨9, 0, .rw, .any⟩]⟩ /- ANG_TTN_C -/,
  ⟨0x54, 1, 0, 0x3C7D8246, [⟨31, 24, .rws, .clamp 30 95⟩, ⟨23, 16, .rws, .clamp 101 200⟩, ⟨15, 8, .rws, .clamp 101 200⟩, ⟨6, 0, .rws, .clamp 30 99⟩]⟩ /- ANG_PAT -/,
  ⟨0x58, 1, 0, 0x4B, [⟨6, 0, .rws, .clamp 30 99⟩]⟩ /- ANG_PAT2 -/,
  ⟨0x5C, 1, 0, 0x1000A0, [⟨27, 16, .rws, .clamp 1 160⟩, ⟨11, 0, .rws, .clamp 16 1440⟩]⟩ /- ANG_TOL -/,
  ⟨0x60, 1, 0, 0x24040000, [⟨31, 28, .rws, .clamp 1 15⟩, ⟨27, 24, .rws, .clamp 2 15⟩, ⟨23, 16, .rws, .clamp 1 255⟩]⟩ /- ANG_LOSS -/,
  ⟨0x64, 1, 0, 0x1388, [⟨16, 0, .rws, .clamp 10 100000⟩]⟩ /- ANG_STALL -/,
  ⟨0x68, 1, 0, 0x300, [⟨11, 8, .rws, .clamp 1 15⟩, ⟨1, 1, .ro, .any⟩, ⟨0, 0, .rws, .any⟩]⟩ /- ANG_DIR -/,
  ⟨0x6C, 1, 0, 0x0, [⟨2, 2, .w1s, .any⟩, ⟨1, 1, .w1s, .any⟩, ⟨0, 0, .w1s, .any⟩]⟩ /- ANG_CTL -/,
  ⟨0x70, 1, 0, 0x0, [⟨31, 24, .ro, .any⟩, ⟨23, 16, .ro, .any⟩, ⟨15, 15, .ro, .any⟩, ⟨14, 14, .ro, .any⟩, ⟨13, 13, .ro, .any⟩, ⟨12, 10, .ro, .any⟩, ⟨9, 7, .ro, .any⟩, ⟨6, 6, .ro, .any⟩, ⟨5, 5, .ro, .any⟩, ⟨4, 4, .ro, .any⟩, ⟨3, 0, .ro, .any⟩]⟩ /- ANG_STATE -/,
  ⟨0x74, 1, 0, 0x0, [⟨23, 16, .ro, .any⟩, ⟨8, 0, .ro, .any⟩]⟩ /- ANG_POS -/,
  ⟨0x78, 1, 0, 0x0, [⟨31, 0, .ro, .any⟩]⟩ /- ANG_TANGLE -/,
  ⟨0x7C, 1, 0, 0x0, [⟨31, 0, .ro, .any⟩]⟩ /- ANG_CYC -/,
  ⟨0x80, 8, 4, 0x0, [⟨31, 31, .rw, .any⟩, ⟨30, 29, .rw, .codes 2⟩, ⟨16, 8, .rw, .any⟩, ⟨7, 0, .rw, .any⟩]⟩ /- ANG_ELOCK -/,
  ⟨0xA0, 1, 0, 0x0, [⟨31, 16, .ro, .any⟩, ⟨15, 0, .ro, .any⟩]⟩ /- ANG_CNT_A -/,
  ⟨0xA4, 1, 0, 0x0, [⟨31, 16, .ro, .any⟩, ⟨15, 0, .ro, .any⟩]⟩ /- ANG_CNT_B -/,
  ⟨0xA8, 1, 0, 0x0, [⟨31, 16, .ro, .any⟩, ⟨15, 0, .ro, .any⟩]⟩ /- ANG_CNT_C -/,
  ⟨0xAC, 1, 0, 0x0, [⟨23, 16, .ro, .any⟩, ⟨15, 13, .ro, .any⟩, ⟨8, 0, .ro, .any⟩]⟩ /- ANG_TTSTAT -/]

def rowsPRED : List RRow := [
  ⟨0x40, 1, 0, 0x190411, [⟨23, 16, .rws, .clamp 1 100⟩, ⟨13, 13, .rws, .any⟩, ⟨12, 12, .rws, .any⟩, ⟨11, 8, .rws, .clamp 2 8⟩, ⟨7, 4, .ro, .any⟩, ⟨3, 0, .rw, .any⟩]⟩ /- PRED_CFG -/,
  ⟨0x44, 1, 0, 0x14, [⟨7, 0, .rws, .clamp 1 200⟩]⟩ /- PRED_HOLD -/,
  ⟨0x48, 1, 0, 0x3C1904, [⟨27, 16, .rws, .clamp 10 4095⟩, ⟨15, 8, .rws, .clamp 1 50⟩, ⟨4, 4, .rw, .any⟩, ⟨3, 0, .rws, .clamp 0 8⟩]⟩ /- PRED_DUNE -/,
  ⟨0x4C, 1, 0, 0x0, [⟨15, 12, .ro, .any⟩, ⟨6, 6, .ro, .any⟩, ⟨5, 5, .ro, .any⟩, ⟨4, 4, .ro, .any⟩, ⟨3, 3, .ro, .any⟩, ⟨2, 2, .ro, .any⟩, ⟨1, 1, .ro, .any⟩, ⟨0, 0, .ro, .any⟩]⟩ /- PRED_STAT -/,
  ⟨0x50, 1, 0, 0x0, [⟨31, 0, .ro, .any⟩]⟩ /- PRED_ANGLE -/,
  ⟨0x54, 1, 0, 0x0, [⟨31, 0, .ro, .any⟩]⟩ /- PRED_ATS_LO -/,
  ⟨0x58, 1, 0, 0x0, [⟨31, 0, .ro, .any⟩]⟩ /- PRED_ATS_HI -/,
  ⟨0x5C, 1, 0, 0x0, [⟨18, 0, .ro, .any⟩]⟩ /- PRED_RPM -/,
  ⟨0x60, 1, 0, 0x0, [⟨31, 0, .ro, .any⟩]⟩ /- PRED_TK_LO -/,
  ⟨0x64, 1, 0, 0x0, [⟨31, 0, .ro, .any⟩]⟩ /- PRED_TK_HI -/,
  ⟨0x68, 1, 0, 0x0, [⟨31, 0, .ro, .any⟩]⟩ /- PRED_THK -/,
  ⟨0x6C, 1, 0, 0x0, [⟨31, 0, .ro, .any⟩]⟩ /- PRED_OMG_LO -/,
  ⟨0x70, 1, 0, 0x0, [⟨15, 0, .ro, .any⟩]⟩ /- PRED_OMG_HI -/,
  ⟨0x74, 1, 0, 0x0, [⟨31, 0, .ro, .any⟩]⟩ /- PRED_ACC_LO -/,
  ⟨0x78, 1, 0, 0x0, [⟨31, 0, .ro, .any⟩]⟩ /- PRED_ACC_HI -/,
  ⟨0x7C, 1, 0, 0x0, [⟨31, 0, .ro, .any⟩]⟩ /- PRED_PNEXT -/,
  ⟨0x80, 1, 0, 0x8000, [⟨15, 0, .ro, .any⟩]⟩ /- PRED_DEFF -/,
  ⟨0x84, 1, 0, 0x80000000, [⟨31, 0, .ro, .any⟩]⟩ /- PRED_NORM -/,
  ⟨0x88, 1, 0, 0x0, [⟨31, 16, .ro, .any⟩, ⟨15, 0, .ro, .any⟩]⟩ /- PRED_DSTAT -/,
  ⟨0x8C, 1, 0, 0x0, [⟨31, 16, .ro, .any⟩, ⟨15, 0, .ro, .any⟩]⟩ /- PRED_CNT_A -/,
  ⟨0x90, 1, 0, 0x0, [⟨31, 16, .ro, .any⟩, ⟨15, 0, .ro, .any⟩]⟩ /- PRED_CNT_B -/,
  ⟨0x94, 1, 0, 0x0, [⟨1, 1, .w1s, .any⟩, ⟨0, 0, .w1s, .any⟩]⟩ /- PRED_CTL -/]

def rowsCARV_0 : List RRow := [
  ⟨0x40, 2, 16, 0x2011, [⟨19, 8, .rws, .clamp 0 1440⟩, ⟨7, 4, .ro, .any⟩, ⟨3, 0, .rw, .any⟩]⟩ /- CARV_DOM_CFG -/,
  ⟨0x44, 2, 16, 0xA0005A, [⟨31, 16, .rws, .clamp 32 65535⟩, ⟨8, 0, .rws, .clamp 0 359⟩]⟩ /- CARV_DOM_TIM -/,
  ⟨0x48, 2, 16, 0x0, [⟨24, 16, .ro, .any⟩, ⟨11, 8, .ro, .any⟩, ⟨1, 1, .ro, .any⟩, ⟨0, 0, .ro, .any⟩]⟩ /- CARV_DOM_STAT -/,
  ⟨0x4C, 2, 16, 0x0, [⟨31, 0, .ro, .any⟩]⟩ /- CARV_DOM_NEXT -/,
  ⟨0x60, 1, 0, 0x19660, [⟨17, 0, .rw, .any⟩]⟩ /- CARV_LATEDEF -/,
  ⟨0x64, 1, 0, 0x322710, [⟨31, 16, .rw, .any⟩, ⟨15, 0, .rw, .any⟩]⟩ /- CARV_LTOL -/,
  ⟨0x68, 4, 4, 0x0, [⟨24, 16, .rw, .clamp 0 256⟩, ⟨8, 0, .rw, .any⟩]⟩ /- CARV_RES -/,
  ⟨0x78, 1, 0, 0x1000100, [⟨24, 16, .ro, .any⟩, ⟨8, 0, .ro, .any⟩]⟩ /- CARV_POOL -/,
  ⟨0x80, 8, 4, 0x0, [⟨31, 31, .rw, .any⟩, ⟨28, 28, .rw, .any⟩, ⟨27, 27, .rw, .any⟩, ⟨26, 24, .rw, .any⟩, ⟨8, 0, .ro, .any⟩]⟩ /- CARV_ARM_CFG -/,
  ⟨0xA0, 1, 0, 0x0, [⟨28, 28, .rw, .any⟩, ⟨27, 27, .rw, .any⟩, ⟨26, 24, .rw, .any⟩, ⟨8, 0, .ro, .any⟩]⟩ /- CARV_DARM_CFG -/,
  ⟨0xA4, 1, 0, 0x0, [⟨31, 31, .rw, .any⟩, ⟨29, 28, .rw, .any⟩, ⟨9, 8, .rw, .any⟩, ⟨6, 0, .rw, .any⟩]⟩ /- CARV_TRC -/,
  ⟨0xB0, 4, 4, 0x0, [⟨31, 0, .rw, .any⟩]⟩ /- CARV_DARM_W -/,
  ⟨0xC0, 1, 0, 0x1FF, [⟨31, 31, .ro, .any⟩, ⟨27, 24, .ro, .any⟩, ⟨8, 0, .ro, .any⟩]⟩ /- CARV_DARM_STAT -/,
  ⟨0xC4, 1, 0, 0x0, [⟨31, 16, .wo, .any⟩, ⟨15, 15, .wo, .any⟩, ⟨8, 0, .wo, .any⟩]⟩ /- CARV_CANCEL -/,
  ⟨0xC8, 1, 0, 0x0, [⟨31, 31, .ro, .any⟩, ⟨27, 24, .ro, .any⟩]⟩ /- CARV_CANCEL_STAT -/,
  ⟨0xCC, 1, 0, 0x0, [⟨8, 0, .rw, .any⟩]⟩ /- CARV_INSP_SEL -/,
  ⟨0xD0, 1, 0, 0x0, [⟨31, 0, .ro, .any⟩]⟩ /- CARV_INSP0 -/,
  ⟨0xD4, 1, 0, 0x0, [⟨31, 0, .ro, .any⟩]⟩ /- CARV_INSP1 -/,
  ⟨0xD8, 1, 0, 0x0, [⟨31, 0, .ro, .any⟩]⟩ /- CARV_INSP2 -/,
  ⟨0xDC, 1, 0, 0x0, [⟨31, 29, .ro, .any⟩, ⟨28, 25, .ro, .any⟩, ⟨15, 0, .ro, .any⟩]⟩ /- CARV_INSP3 -/,
  ⟨0xE0, 1, 0, 0x0, [⟨31, 0, .ro, .any⟩]⟩ /- CARV_INSP4 -/,
  ⟨0xE4, 1, 0, 0x0, [⟨31, 0, .ro, .any⟩]⟩ /- CARV_INSP5 -/,
  ⟨0xE8, 1, 0, 0x0, [⟨31, 0, .ro, .any⟩]⟩ /- CARV_INSP6 -/,
  ⟨0xEC, 1, 0, 0x0, [⟨31, 0, .ro, .any⟩]⟩ /- CARV_INSP7 -/]

def rowsCARV_1 : List RRow := [
  ⟨0xF0, 1, 0, 0x0, [⟨31, 16, .ro, .any⟩, ⟨15, 0, .ro, .any⟩]⟩ /- CARV_CNT_A -/,
  ⟨0xF4, 1, 0, 0x0, [⟨31, 16, .ro, .any⟩, ⟨15, 0, .ro, .any⟩]⟩ /- CARV_CNT_B -/,
  ⟨0xF8, 1, 0, 0x0, [⟨31, 16, .ro, .any⟩, ⟨15, 0, .ro, .any⟩]⟩ /- CARV_CNT_C -/,
  ⟨0xFC, 1, 0, 0x0, [⟨31, 16, .ro, .any⟩, ⟨15, 0, .ro, .any⟩]⟩ /- CARV_CNT_D -/,
  ⟨0x100, 1, 0, 0x0, [⟨2, 2, .w1s, .any⟩, ⟨1, 1, .w1s, .any⟩, ⟨0, 0, .w1s, .any⟩]⟩ /- CARV_CTL -/,
  ⟨0x104, 1, 0, 0x0, [⟨31, 0, .ro, .any⟩]⟩ /- CARV_ASEQ -/]

def rowsCARV : List RRow := rowsCARV_0 ++ rowsCARV_1

def rowsTRIG : List RRow := [
  ⟨0x40, 1, 0, 0x0, [⟨7, 0, .w1s, .any⟩]⟩ /- TRIG_SW -/,
  ⟨0x44, 1, 0, 0x0, [⟨23, 16, .ro, .any⟩, ⟨15, 0, .ro, .any⟩]⟩ /- TRIG_OVF -/,
  ⟨0x48, 1, 0, 0x0, [⟨0, 0, .w1s, .any⟩]⟩ /- TRIG_CTL -/,
  ⟨0x80, 56, 4, 0x0, [⟨31, 31, .rw, .any⟩, ⟨9, 8, .rw, .codes 2⟩, ⟨6, 0, .rw, .any⟩]⟩ /- TRIG_SEL -/]

def rowsIGN : List RRow := [
  ⟨0x40, 1, 0, 0x11, [⟨16, 16, .rw, .any⟩, ⟨8, 8, .rws, .any⟩, ⟨7, 4, .ro, .any⟩, ⟨3, 0, .rw, .any⟩]⟩ /- IGN_CFG -/,
  ⟨0x44, 1, 0, 0x177001F4, [⟨31, 16, .rws, .clamp 100 20000⟩, ⟨15, 0, .rws, .clamp 10 10000⟩]⟩ /- IGN_DWELL -/,
  ⟨0x48, 1, 0, 0xA12C1388, [⟨31, 31, .rws, .any⟩, ⟨30, 30, .rws, .any⟩, ⟨29, 29, .rws, .any⟩, ⟨27, 16, .rws, .any⟩, ⟨15, 0, .rws, .clamp 10 20000⟩]⟩ /- IGN_FB -/,
  ⟨0x4C, 1, 0, 0x32, [⟨11, 0, .rws, .clamp 1 4095⟩]⟩ /- IGN_FB2 -/,
  ⟨0x50, 1, 0, 0x640019, [⟨31, 16, .rws, .clamp 10 1000⟩, ⟨15, 0, .rws, .clamp 10 1000⟩]⟩ /- IGN_SOFT -/,
  ⟨0x54, 1, 0, 0x0, [⟨10, 10, .ro, .any⟩, ⟨9, 9, .ro, .any⟩, ⟨8, 8, .ro, .any⟩, ⟨7, 7, .ro, .any⟩, ⟨6, 6, .ro, .any⟩, ⟨4, 4, .w1c, .any⟩, ⟨3, 3, .w1c, .any⟩, ⟨2, 2, .w1c, .any⟩, ⟨1, 1, .w1c, .any⟩, ⟨0, 0, .w1c, .any⟩]⟩ /- IGN_STAT -/,
  ⟨0x58, 1, 0, 0x0, [⟨31, 0, .ro, .any⟩]⟩ /- IGN_LAST_LO -/,
  ⟨0x5C, 1, 0, 0x0, [⟨31, 0, .ro, .any⟩]⟩ /- IGN_LAST_HI -/,
  ⟨0x60, 1, 0, 0x0, [⟨31, 0, .ro, .any⟩]⟩ /- IGN_LAST_DW -/,
  ⟨0x64, 1, 0, 0x0, [⟨31, 0, .ro, .any⟩]⟩ /- IGN_LAST_FB -/,
  ⟨0x68, 1, 0, 0x0, [⟨31, 16, .ro, .any⟩, ⟨15, 0, .ro, .any⟩]⟩ /- IGN_CNT_A -/,
  ⟨0x6C, 1, 0, 0x0, [⟨31, 16, .ro, .any⟩, ⟨15, 0, .ro, .any⟩]⟩ /- IGN_CNT_B -/,
  ⟨0x70, 1, 0, 0x0, [⟨31, 16, .ro, .any⟩, ⟨15, 0, .ro, .any⟩]⟩ /- IGN_CNT_C -/,
  ⟨0x74, 1, 0, 0x0, [⟨1, 1, .w1s, .any⟩, ⟨0, 0, .w1s, .any⟩]⟩ /- IGN_CTL -/]

def rowsTAPC : List RRow := [
  ⟨0x40, 1, 0, 0x0, [⟨31, 0, .rw, .any⟩]⟩ /- TAPC_DOM -/,
  ⟨0x44, 1, 0, 0x0, [⟨31, 0, .rw, .any⟩]⟩ /- TAPC_DSAFE -/,
  ⟨0x48, 1, 0, 0x0, [⟨31, 0, .rw, .any⟩]⟩ /- TAPC_SWLVL -/,
  ⟨0x4C, 1, 0, 0x0, [⟨31, 0, .ro, .any⟩]⟩ /- TAPC_EVLVL -/,
  ⟨0x50, 1, 0, 0x0, [⟨31, 0, .ro, .any⟩]⟩ /- TAPC_PIN -/,
  ⟨0x80, 32, 4, 0x8004, [⟨27, 25, .rw, .any⟩, ⟨24, 20, .rw, .any⟩, ⟨15, 14, .rw, .any⟩, ⟨13, 13, .rw, .any⟩, ⟨12, 12, .rw, .any⟩, ⟨7, 3, .rw, .any⟩, ⟨2, 0, .rw, .any⟩]⟩ /- TAPC_CFG -/]

def rowsDRV : List RRow := [
  ⟨0x40, 1, 0, 0x11, [⟨20, 20, .rw, .any⟩, ⟨19, 17, .rw, .any⟩, ⟨16, 16, .rw, .any⟩, ⟨13, 12, .rws, .codes 1⟩, ⟨11, 8, .rws, .any⟩, ⟨7, 4, .ro, .any⟩, ⟨3, 0, .rw, .any⟩]⟩ /- DRV_CFG -/,
  ⟨0x44, 1, 0, 0x9C40064, [⟨27, 16, .rws, .clamp 50 4095⟩, ⟨9, 0, .rws, .clamp 1 1023⟩]⟩ /- DRV_SENSE -/,
  ⟨0x48, 1, 0, 0x1F40064, [⟨31, 16, .rws, .clamp 1 65535⟩, ⟨15, 0, .rws, .clamp 1 65535⟩]⟩ /- DRV_TIM -/,
  ⟨0x4C, 1, 0, 0x64001E, [⟨31, 16, .rws, .clamp 10 10000⟩, ⟨6, 0, .rws, .clamp 1 100⟩]⟩ /- DRV_DUTY -/,
  ⟨0x50, 1, 0, 0x31400C8, [⟨27, 24, .rws, .clamp 1 15⟩, ⟨22, 16, .rws, .clamp 1 99⟩, ⟨11, 0, .rws, .any⟩]⟩ /- DRV_DIAG -/,
  ⟨0x54, 1, 0, 0x32, [⟨11, 0, .rws, .clamp 10 4095⟩]⟩ /- DRV_DIAG2 -/,
  ⟨0x58, 1, 0, 0x0, [⟨26, 26, .ro, .any⟩, ⟨25, 25, .w1c, .any⟩, ⟨24, 24, .w1c, .any⟩, ⟨23, 23, .w1c, .any⟩, ⟨22, 22, .w1c, .any⟩, ⟨21, 21, .w1c, .any⟩, ⟨20, 20, .w1c, .any⟩, ⟨19, 19, .w1c, .any⟩, ⟨18, 18, .w1c, .any⟩, ⟨17, 17, .w1c, .any⟩, ⟨16, 16, .w1c, .any⟩, ⟨9, 9, .ro, .any⟩, ⟨8, 8, .ro, .any⟩, ⟨6, 4, .ro, .any⟩, ⟨2, 0, .ro, .any⟩]⟩ /- DRV_STAT -/,
  ⟨0x5C, 1, 0, 0x0, [⟨31, 0, .ro, .any⟩]⟩ /- DRV_LAST_LO -/,
  ⟨0x60, 1, 0, 0x0, [⟨31, 0, .ro, .any⟩]⟩ /- DRV_LAST_HI -/,
  ⟨0x64, 1, 0, 0xFFFFFFFF, [⟨31, 0, .ro, .any⟩]⟩ /- DRV_LAST_ARM -/,
  ⟨0x68, 1, 0, 0x0, [⟨27, 16, .ro, .any⟩, ⟨11, 0, .ro, .any⟩]⟩ /- DRV_LAST_I -/,
  ⟨0x6C, 1, 0, 0x0, [⟨9, 0, .ro, .any⟩]⟩ /- DRV_DUTY_NOW -/,
  ⟨0x70, 1, 0, 0x0, [⟨31, 16, .ro, .any⟩, ⟨15, 0, .ro, .any⟩]⟩ /- DRV_CNT_A -/,
  ⟨0x74, 1, 0, 0x0, [⟨31, 16, .ro, .any⟩, ⟨15, 0, .ro, .any⟩]⟩ /- DRV_CNT_B -/,
  ⟨0x78, 1, 0, 0x0, [⟨31, 16, .ro, .any⟩, ⟨15, 0, .ro, .any⟩]⟩ /- DRV_CNT_C -/,
  ⟨0x7C, 1, 0, 0x0, [⟨2, 2, .w1s, .any⟩, ⟨1, 1, .w1s, .any⟩, ⟨0, 0, .w1s, .any⟩]⟩ /- DRV_CTL -/]

def rowsBANK : List RRow := [
  ⟨0x40, 1, 0, 0x1F40011, [⟨31, 16, .rws, .any⟩, ⟨9, 8, .rws, .codes 2⟩, ⟨7, 4, .ro, .any⟩, ⟨3, 0, .rw, .any⟩]⟩ /- BANK_CFG -/,
  ⟨0x44, 1, 0, 0xA00050, [⟨27, 16, .rws, .clamp 20 4095⟩, ⟨11, 0, .rws, .clamp 20 4095⟩]⟩ /- BANK_DIAG -/,
  ⟨0x48, 1, 0, 0x0, [⟨31, 31, .w1c, .any⟩, ⟨30, 30, .w1c, .any⟩, ⟨29, 29, .w1c, .any⟩, ⟨28, 28, .w1c, .any⟩, ⟨27, 16, .ro, .any⟩, ⟨9, 9, .ro, .any⟩, ⟨8, 8, .ro, .any⟩, ⟨5, 5, .ro, .any⟩, ⟨4, 4, .ro, .any⟩, ⟨3, 0, .ro, .any⟩]⟩ /- BANK_STAT -/,
  ⟨0x4C, 1, 0, 0x0, [⟨13, 12, .ro, .any⟩, ⟨11, 0, .ro, .any⟩]⟩ /- BANK_ADC -/,
  ⟨0x50, 1, 0, 0x0, [⟨31, 16, .ro, .any⟩, ⟨15, 0, .ro, .any⟩]⟩ /- BANK_CNT_A -/,
  ⟨0x54, 1, 0, 0x0, [⟨31, 16, .ro, .any⟩, ⟨15, 0, .ro, .any⟩]⟩ /- BANK_CNT_B -/,
  ⟨0x58, 1, 0, 0x0, [⟨1, 1, .w1s, .any⟩, ⟨0, 0, .w1s, .any⟩]⟩ /- BANK_CTL -/]

def rowsBST : List RRow := [
  ⟨0x40, 1, 0, 0x3C410011, [⟨30, 24, .rws, .any⟩, ⟨22, 16, .rws, .clamp 24 95⟩, ⟨7, 4, .ro, .any⟩, ⟨3, 0, .rw, .any⟩]⟩ /- BST_CFG -/,
  ⟨0x44, 1, 0, 0x9600C8, [⟨31, 16, .rws, .clamp 10 2000⟩, ⟨15, 0, .rws, .clamp 10 2000⟩]⟩ /- BST_SW -/,
  ⟨0x48, 1, 0, 0x320A48, [⟨31, 16, .rws, .clamp 1 1000⟩, ⟨15, 8, .rws, .clamp 1 100⟩, ⟨6, 0, .rws, .any⟩]⟩ /- BST_LIM -/,
  ⟨0x4C, 1, 0, 0x0, [⟨17, 17, .w1c, .any⟩, ⟨16, 16, .w1c, .any⟩, ⟨13, 13, .ro, .any⟩, ⟨12, 12, .ro, .any⟩, ⟨11, 0, .ro, .any⟩]⟩ /- BST_STAT -/,
  ⟨0x50, 1, 0, 0x0, [⟨11, 0, .ro, .any⟩]⟩ /- BST_VB -/,
  ⟨0x54, 1, 0, 0x0, [⟨31, 16, .ro, .any⟩, ⟨15, 0, .ro, .any⟩]⟩ /- BST_CNT_A -/,
  ⟨0x58, 1, 0, 0x0, [⟨31, 16, .ro, .any⟩, ⟨15, 0, .ro, .any⟩]⟩ /- BST_CNT_B -/,
  ⟨0x5C, 1, 0, 0x0, [⟨15, 0, .ro, .any⟩]⟩ /- BST_CNT_C -/,
  ⟨0x60, 1, 0, 0x0, [⟨0, 0, .w1s, .any⟩]⟩ /- BST_CTL -/]

def rowsPROF : List RRow := [
  ⟨0x40, 1, 0, 0x0, [⟨3, 0, .wo, .any⟩]⟩ /- PROF_LOAD -/,
  ⟨0x44, 1, 0, 0x0, [⟨31, 31, .ro, .any⟩, ⟨27, 24, .ro, .any⟩, ⟨19, 16, .ro, .any⟩, ⟨6, 4, .ro, .any⟩]⟩ /- PROF_LSTAT -/,
  ⟨0x48, 1, 0, 0x0, [⟨15, 0, .ro, .any⟩]⟩ /- PROF_VALID -/]

def rowsADC : List RRow := [
  ⟨0x40, 1, 0, 0x11, [⟨20, 20, .rw, .any⟩, ⟨19, 17, .rw, .any⟩, ⟨13, 8, .rw, .codes 32⟩, ⟨7, 4, .ro, .any⟩, ⟨3, 0, .rw, .any⟩]⟩ /- ADC_CFG -/,
  ⟨0x44, 1, 0, 0x10B, [⟨13, 0, .rws, .clamp 267 12800⟩]⟩ /- ADC_TRACK -/,
  ⟨0x48, 1, 0, 0x0, [⟨31, 31, .w1s, .any⟩, ⟨5, 0, .rw, .codes 32⟩]⟩ /- ADC_SW -/,
  ⟨0x4C, 1, 0, 0x0, [⟨31, 31, .ro, .any⟩, ⟨30, 30, .ro, .any⟩, ⟨15, 0, .ro, .any⟩]⟩ /- ADC_SWRES -/,
  ⟨0x50, 1, 0, 0x0, [⟨31, 0, .ro, .any⟩]⟩ /- ADC_SWTS_LO -/,
  ⟨0x54, 1, 0, 0x0, [⟨31, 0, .ro, .any⟩]⟩ /- ADC_SWTS_HI -/,
  ⟨0x58, 1, 0, 0x0, [⟨11, 8, .ro, .any⟩, ⟨0, 0, .ro, .any⟩]⟩ /- ADC_STAT -/,
  ⟨0x5C, 1, 0, 0x0, [⟨31, 0, .ro, .any⟩]⟩ /- ADC_CNT_CONV -/,
  ⟨0x60, 1, 0, 0x0, [⟨31, 16, .ro, .any⟩, ⟨15, 0, .ro, .any⟩]⟩ /- ADC_CNT_A -/,
  ⟨0x64, 1, 0, 0x0, [⟨31, 16, .ro, .any⟩, ⟨15, 0, .ro, .any⟩]⟩ /- ADC_CNT_B -/,
  ⟨0x68, 1, 0, 0x0, [⟨0, 0, .w1s, .any⟩]⟩ /- ADC_CTL -/]

def rowsSMPL : List RRow := [
  ⟨0x40, 2, 16, 0xA00011, [⟨31, 16, .rws, .clamp 32 65535⟩, ⟨7, 4, .ro, .any⟩, ⟨3, 0, .rw, .any⟩]⟩ /- SMPL_DOM_CFG -/,
  ⟨0x44, 2, 16, 0x0, [⟨31, 16, .ro, .any⟩, ⟨15, 0, .rw, .any⟩]⟩ /- SMPL_DOM_RUN -/,
  ⟨0x48, 2, 16, 0x0, [⟨31, 31, .rw, .any⟩, ⟨2, 0, .rw, .any⟩]⟩ /- SMPL_DOM_REC -/,
  ⟨0x4C, 2, 16, 0x0, [⟨23, 16, .ro, .any⟩, ⟨3, 0, .ro, .any⟩]⟩ /- SMPL_DOM_ERR -/,
  ⟨0x60, 1, 0, 0x0, [⟨31, 0, .ro, .any⟩]⟩ /- SMPL_CNT_TAKEN -/,
  ⟨0x64, 1, 0, 0x0, [⟨31, 16, .ro, .any⟩, ⟨15, 0, .ro, .any⟩]⟩ /- SMPL_CNT_A -/,
  ⟨0x68, 1, 0, 0x0, [⟨31, 16, .ro, .any⟩, ⟨15, 0, .ro, .any⟩]⟩ /- SMPL_CNT_B -/,
  ⟨0x6C, 1, 0, 0x0, [⟨0, 0, .w1s, .any⟩]⟩ /- SMPL_CTL -/]

def rowsKNK : List RRow := [
  ⟨0x40, 1, 0, 0xF011, [⟨20, 20, .rw, .any⟩, ⟨19, 17, .rw, .any⟩, ⟨15, 12, .rws, .any⟩, ⟨7, 4, .ro, .any⟩, ⟨3, 0, .rw, .any⟩]⟩ /- KNK_CFG -/,
  ⟨0x44, 1, 0, 0x100FA0, [⟨23, 16, .rws, .any⟩, ⟨15, 0, .rws, .clamp 800 65535⟩]⟩ /- KNK_RATE -/,
  ⟨0x48, 1, 0, 0x10, [⟨8, 8, .rws, .any⟩, ⟨5, 0, .rws, .clamp 0 48⟩]⟩ /- KNK_INT -/,
  ⟨0x4C, 1, 0, 0x0, [⟨7, 0, .rw, .any⟩]⟩ /- KNK_CHEN -/,
  ⟨0x60, 1, 0, 0x5DC1770, [⟨31, 16, .rws, .clamp 50 20000⟩, ⟨15, 0, .rws, .clamp 100 60000⟩]⟩ /- KNK_BPF -/,
  ⟨0x64, 1, 0, 0x5DC2AF8, [⟨31, 16, .rws, .clamp 50 20000⟩, ⟨15, 0, .rws, .clamp 100 60000⟩]⟩ /- KNK_BPF -/,
  ⟨0x68, 1, 0, 0x5DC38A4, [⟨31, 16, .rws, .clamp 50 20000⟩, ⟨15, 0, .rws, .clamp 100 60000⟩]⟩ /- KNK_BPF -/,
  ⟨0x6C, 1, 0, 0x5DC4650, [⟨31, 16, .rws, .clamp 50 20000⟩, ⟨15, 0, .rws, .clamp 100 60000⟩]⟩ /- KNK_BPF -/,
  ⟨0x70, 4, 12, 0x0, [⟨25, 0, .ro, .any⟩]⟩ /- KNK_COEF_A1 -/,
  ⟨0x74, 4, 12, 0x0, [⟨23, 0, .ro, .any⟩]⟩ /- KNK_COEF_A2 -/,
  ⟨0x78, 4, 12, 0x0, [⟨23, 0, .ro, .any⟩]⟩ /- KNK_COEF_B0 -/,
  ⟨0xA0, 1, 0, 0x0, [⟨7, 0, .ro, .any⟩]⟩ /- KNK_STAT -/,
  ⟨0xA4, 1, 0, 0x0, [⟨31, 16, .ro, .any⟩, ⟨15, 0, .ro, .any⟩]⟩ /- KNK_CNT_A -/,
  ⟨0xA8, 1, 0, 0x0, [⟨31, 16, .ro, .any⟩, ⟨15, 0, .ro, .any⟩]⟩ /- KNK_CNT_B -/,
  ⟨0xAC, 1, 0, 0x0, [⟨0, 0, .w1s, .any⟩]⟩ /- KNK_CTL -/,
  ⟨0x100, 32, 8, 0x0, [⟨31, 31, .rw, .any⟩, ⟨30, 30, .rw, .any⟩, ⟨29, 0, .rw, .any⟩]⟩ /- KNK_WIN_A -/,
  ⟨0x104, 32, 8, 0x10, [⟨20, 16, .rw, .any⟩, ⟨14, 12, .rw, .any⟩, ⟨11, 0, .rw, .clamp 1 4095⟩]⟩ /- KNK_WIN_B -/]

def rowsCMB : List RRow := [
  ⟨0x40, 1, 0, 0x400, [⟨20, 20, .rw, .any⟩, ⟨19, 17, .rw, .any⟩, ⟨15, 8, .rws, .any⟩]⟩ /- CMB_CFG -/,
  ⟨0x44, 1, 0, 0x0, [⟨23, 0, .rw, .any⟩]⟩ /- CMB_CYLEN -/,
  ⟨0x48, 1, 0, 0x0, [⟨23, 16, .ro, .any⟩, ⟨4, 0, .ro, .any⟩]⟩ /- CMB_ERR -/,
  ⟨0x4C, 1, 0, 0x18BCD, [⟨31, 0, .rw, .any⟩]⟩ /- CMB_PREF0 -/,
  ⟨0x50, 1, 0, 0x18BCD, [⟨31, 0, .rw, .any⟩]⟩ /- CMB_PREF1 -/,
  ⟨0x54, 1, 0, 0x0, [⟨15, 0, .ro, .any⟩]⟩ /- CMB_BUF -/,
  ⟨0x60, 8, 4, 0x0, [⟨31, 0, .rw, .any⟩]⟩ /- CMB_VD -/,
  ⟨0x80, 1, 0, 0x0, [⟨31, 16, .ro, .any⟩, ⟨15, 0, .ro, .any⟩]⟩ /- CMB_CNT_A -/,
  ⟨0x84, 1, 0, 0x0, [⟨31, 16, .ro, .any⟩, ⟨15, 0, .ro, .any⟩]⟩ /- CMB_CNT_B -/,
  ⟨0x88, 1, 0, 0x0, [⟨31, 16, .ro, .any⟩, ⟨15, 0, .ro, .any⟩]⟩ /- CMB_CNT_C -/,
  ⟨0x8C, 1, 0, 0x0, [⟨0, 0, .w1s, .any⟩]⟩ /- CMB_CTL -/,
  ⟨0x90, 1, 0, 0x0, [⟨4, 0, .rw, .any⟩]⟩ /- CMB_INSP_SEL -/,
  ⟨0x98, 1, 0, 0x0, [⟨31, 0, .ro, .any⟩]⟩ /- CMB_INSP_DELTA -/,
  ⟨0x9C, 1, 0, 0x0, [⟨31, 16, .ro, .any⟩, ⟨11, 0, .ro, .any⟩]⟩ /- CMB_INSP_STAT -/]

def rowsTRIM : List RRow := [
  ⟨0x40, 1, 0, 0x0, [⟨31, 0, .w1s, .any⟩]⟩ /- TRIM_ZERO_LO -/,
  ⟨0x44, 1, 0, 0x0, [⟨31, 0, .w1s, .any⟩]⟩ /- TRIM_ZERO_HI -/,
  ⟨0x48, 1, 0, 0x0, [⟨0, 0, .w1s, .any⟩]⟩ /- TRIM_CTL -/,
  ⟨0x100, 64, 32, 0x0, [⟨31, 31, .rw, .any⟩, ⟨20, 16, .rw, .codes 23⟩, ⟨11, 8, .rw, .codes 11⟩, ⟨5, 5, .rw, .any⟩, ⟨4, 4, .rw, .any⟩]⟩ /- TRIM_L_SRC -/,
  ⟨0x104, 64, 32, 0x0, [⟨31, 0, .rw, .any⟩]⟩ /- TRIM_L_TARGET -/,
  ⟨0x108, 64, 32, 0x0, [⟨31, 0, .rw, .any⟩]⟩ /- TRIM_L_GAIN -/,
  ⟨0x10C, 64, 32, 0x0, [⟨31, 0, .rw, .any⟩]⟩ /- TRIM_L_MIN -/,
  ⟨0x110, 64, 32, 0x0, [⟨31, 0, .rw, .any⟩]⟩ /- TRIM_L_MAX -/,
  ⟨0x114, 64, 32, 0x0, [⟨31, 0, .ro, .any⟩]⟩ /- TRIM_L_OFS -/,
  ⟨0x118, 64, 32, 0x0, [⟨31, 0, .ro, .any⟩]⟩ /- TRIM_L_MVAL -/,
  ⟨0x11C, 64, 32, 0x0, [⟨31, 16, .ro, .any⟩, ⟨1, 1, .ro, .any⟩, ⟨0, 0, .ro, .any⟩]⟩ /- TRIM_L_STAT -/]

def rowsTMR : List RRow := [
  ⟨0x40, 2, 64, 0x11, [⟨31, 16, .rws, .any⟩, ⟨15, 14, .rws, .any⟩, ⟨13, 13, .rws, .any⟩, ⟨12, 11, .rws, .codes 2⟩, ⟨10, 10, .rws, .any⟩, ⟨9, 9, .rws, .any⟩, ⟨8, 8, .rws, .any⟩, ⟨7, 4, .ro, .any⟩, ⟨3, 0, .rw, .any⟩]⟩ /- TMR_CFG -/,
  ⟨0x44, 2, 64, 0xFFFFFFFF, [⟨31, 0, .rw, .any⟩]⟩ /- TMR_RELOAD -/,
  ⟨0x48, 2, 64, 0x0, [⟨31, 0, .rw, .any⟩]⟩ /- TMR_COMPARE -/,
  ⟨0x4C, 2, 64, 0x0, [⟨2, 2, .w1s, .any⟩, ⟨1, 1, .w1s, .any⟩, ⟨0, 0, .rw, .any⟩]⟩ /- TMR_CTL -/,
  ⟨0x50, 2, 64, 0x0, [⟨31, 0, .ro, .any⟩]⟩ /- TMR_COUNT -/,
  ⟨0x54, 2, 64, 0x0, [⟨31, 0, .ro, .any⟩]⟩ /- TMR_ACTCMP -/,
  ⟨0x58, 2, 64, 0xFFFFFFFF, [⟨31, 0, .ro, .any⟩]⟩ /- TMR_ACTREL -/,
  ⟨0x5C, 2, 64, 0x0, [⟨7, 7, .w1c, .any⟩, ⟨6, 6, .w1c, .any⟩, ⟨5, 5, .w1c, .any⟩, ⟨4, 4, .ro, .any⟩, ⟨3, 3, .ro, .any⟩, ⟨2, 2, .ro, .any⟩, ⟨1, 1, .ro, .any⟩, ⟨0, 0, .ro, .any⟩]⟩ /- TMR_STAT -/,
  ⟨0x60, 2, 64, 0x0, [⟨31, 0, .ro, .any⟩]⟩ /- TMR_WRAP_LO -/,
  ⟨0x64, 2, 64, 0x0, [⟨31, 0, .ro, .any⟩]⟩ /- TMR_WRAP_HI -/,
  ⟨0x68, 2, 64, 0x0, [⟨31, 0, .ro, .any⟩]⟩ /- TMR_CNT_MATCH -/,
  ⟨0x6C, 2, 64, 0x0, [⟨31, 16, .ro, .any⟩, ⟨15, 0, .ro, .any⟩]⟩ /- TMR_CNT_ERR -/]

def rowsTMRG : List RRow := [
  ⟨0x100, 8, 16, 0x0, [⟨31, 0, .rw, .any⟩]⟩ /- TMR_GRP_MASK -/,
  ⟨0x104, 8, 16, 0x0, [⟨11, 8, .ro, .any⟩, ⟨1, 1, .w1s, .any⟩, ⟨0, 0, .w1s, .any⟩]⟩ /- TMR_GRP_CTL -/]

def rowsPIO : List RRow := [
  ⟨0x40, 1, 0, 0x11, [⟨26, 22, .rw, .any⟩, ⟨21, 21, .rws, .any⟩, ⟨19, 19, .rws, .any⟩, ⟨18, 18, .rws, .any⟩, ⟨17, 16, .rws, .any⟩, ⟨12, 8, .rws, .any⟩, ⟨7, 4, .ro, .any⟩, ⟨3, 0, .rw, .any⟩]⟩ /- PIO_CFG -/,
  ⟨0x44, 1, 0, 0x1900, [⟨23, 8, .rws, .clamp 2 65535⟩, ⟨7, 0, .rws, .any⟩]⟩ /- PIO_DIV -/,
  ⟨0x48, 1, 0, 0x100, [⟨20, 16, .rw, .any⟩, ⟨11, 8, .rw, .clamp 1 8⟩, ⟨4, 0, .rw, .any⟩]⟩ /- PIO_PINS -/,
  ⟨0x4C, 1, 0, 0x0, [⟨3, 3, .w1s, .any⟩, ⟨2, 2, .w1s, .any⟩, ⟨1, 1, .w1s, .any⟩, ⟨0, 0, .w1s, .any⟩]⟩ /- PIO_CTL -/,
  ⟨0x50, 1, 0, 0x0, [⟨25, 21, .ro, .any⟩, ⟨20, 18, .ro, .any⟩, ⟨17, 16, .ro, .any⟩, ⟨15, 15, .ro, .any⟩, ⟨14, 14, .ro, .any⟩, ⟨13, 13, .ro, .any⟩, ⟨12, 12, .ro, .any⟩, ⟨5, 5, .w1c, .any⟩, ⟨4, 4, .w1c, .any⟩, ⟨3, 3, .w1c, .any⟩, ⟨2, 2, .w1c, .any⟩, ⟨1, 1, .w1c, .any⟩, ⟨0, 0, .w1c, .any⟩]⟩ /- PIO_STAT -/,
  ⟨0x54, 1, 0, 0x0, [⟨31, 26, .ro, .any⟩, ⟨24, 16, .ro, .any⟩, ⟨13, 8, .ro, .any⟩, ⟨5, 0, .ro, .any⟩]⟩ /- PIO_SHST -/,
  ⟨0x58, 1, 0, 0x0, [⟨31, 0, .wo, .any⟩]⟩ /- PIO_TX -/,
  ⟨0x5C, 1, 0, 0x0, [⟨31, 0, .ro, .any⟩]⟩ /- PIO_RX -/,
  ⟨0x60, 1, 0, 0x0, [⟨31, 0, .rw, .any⟩]⟩ /- PIO_A -/,
  ⟨0x64, 1, 0, 0x0, [⟨31, 0, .rw, .any⟩]⟩ /- PIO_B -/,
  ⟨0x68, 1, 0, 0x0, [⟨31, 0, .rw, .any⟩]⟩ /- PIO_SEND -/,
  ⟨0x6C, 1, 0, 0x0, [⟨31, 0, .rw, .any⟩]⟩ /- PIO_TAKE -/,
  ⟨0x70, 1, 0, 0x0, [⟨31, 0, .ro, .any⟩]⟩ /- PIO_PROGGEN -/,
  ⟨0x74, 1, 0, 0xFFFFFFFF, [⟨31, 0, .ro, .any⟩]⟩ /- PIO_HGEN -/,
  ⟨0x78, 1, 0, 0x0, [⟨31, 0, .ro, .any⟩]⟩ /- PIO_SC -/,
  ⟨0x7C, 1, 0, 0x0, [⟨31, 16, .ro, .any⟩, ⟨15, 0, .ro, .any⟩]⟩ /- PIO_CNT -/,
  ⟨0x80, 1, 0, 0x0, [⟨15, 0, .rw, .any⟩]⟩ /- PIO_LC -/]

def rowsPIOG : List RRow := [
  ⟨0x40, 1, 0, 0x0, [⟨7, 0, .w1s, .any⟩]⟩ /- PIOG_START -/,
  ⟨0x44, 1, 0, 0x0, [⟨7, 0, .w1s, .any⟩]⟩ /- PIOG_HALT -/,
  ⟨0x48, 1, 0, 0x0, [⟨7, 0, .w1s, .any⟩]⟩ /- PIOG_RESUME -/,
  ⟨0x4C, 1, 0, 0x0, [⟨7, 0, .w1s, .any⟩]⟩ /- PIOG_DSYNC -/,
  ⟨0x50, 1, 0, 0x0, [⟨31, 28, .ro, .any⟩, ⟨23, 16, .ro, .any⟩, ⟨7, 0, .ro, .any⟩]⟩ /- PIOG_STAT -/]

def rowsCORE : List RRow := [
  ⟨0x40, 1, 0, 0x0, [⟨31, 1, .rw, .any⟩]⟩ /- CORE_BOOT -/,
  ⟨0x44, 1, 0, 0xC, [⟨15, 12, .ro, .any⟩, ⟨11, 8, .ro, .any⟩, ⟨3, 2, .ro, .any⟩, ⟨1, 1, .ro, .any⟩, ⟨0, 0, .ro, .any⟩]⟩ /- CORE_STAT -/,
  ⟨0x48, 1, 0, 0x0, [⟨3, 0, .rw, .any⟩]⟩ /- CORE_THRESH -/,
  ⟨0x4C, 1, 0, 0x0, [⟨31, 16, .ro, .any⟩, ⟨15, 0, .ro, .any⟩]⟩ /- CORE_ECC -/,
  ⟨0x50, 1, 0, 0x0, [⟨31, 0, .ro, .any⟩]⟩ /- CORE_ECCADDR -/,
  ⟨0x54, 1, 0, 0x3E80001, [⟨31, 16, .rw, .clamp 100 60000⟩, ⟨1, 1, .w1s, .any⟩, ⟨0, 0, .rw, .any⟩]⟩ /- CORE_SCRUB -/]

def rowsRING : List RRow := [
  ⟨0x40, 8, 8, 0x0, [⟨31, 31, .rw, .any⟩, ⟨2, 0, .rw, .any⟩]⟩ /- RING_RQ_SEL -/,
  ⟨0x44, 8, 8, 0x0, [⟨31, 0, .rw, .any⟩]⟩ /- RING_RQ_ADDR -/,
  ⟨0x80, 32, 16, 0x0, [⟨31, 0, .rw, .any⟩]⟩ /- RING_BASE -/,
  ⟨0x84, 32, 16, 0x2, [⟨31, 31, .rw, .any⟩, ⟨30, 30, .ro, .any⟩, ⟨29, 29, .ro, .any⟩, ⟨15, 4, .rw, .any⟩, ⟨3, 0, .rw, .any⟩]⟩ /- RING_CFG -/,
  ⟨0x88, 32, 16, 0x0, [⟨15, 0, .rw, .any⟩]⟩ /- RING_HEAD -/,
  ⟨0x8C, 32, 16, 0x0, [⟨15, 0, .rw, .any⟩]⟩ /- RING_TAIL -/,
  ⟨0x280, 1, 0, 0x0, [⟨31, 16, .ro, .any⟩, ⟨15, 0, .ro, .any⟩]⟩ /- RING_ECC -/,
  ⟨0x284, 1, 0, 0x0, [⟨31, 0, .ro, .any⟩]⟩ /- RING_ECCADDR -/,
  ⟨0x288, 1, 0, 0x3E80001, [⟨31, 16, .rw, .clamp 100 60000⟩, ⟨1, 1, .w1s, .any⟩, ⟨0, 0, .rw, .any⟩]⟩ /- RING_SCRUB -/]

def rowsINTC : List RRow := [
  ⟨0x40, 1, 0, 0x0, [⟨15, 0, .w1s, .any⟩]⟩ /- INTC_SWI -/,
  ⟨0x50, 4, 4, 0x0, [⟨3, 0, .rw, .any⟩]⟩ /- INTC_HTHR -/,
  ⟨0x60, 4, 8, 0x1FF, [⟨19, 16, .ro, .any⟩, ⟨8, 0, .ro, .any⟩]⟩ /- INTC_CLAIM -/,
  ⟨0x64, 4, 8, 0x0, [⟨8, 0, .wo, .any⟩]⟩ /- INTC_COMPLETE -/,
  ⟨0x80, 1, 0, 0x0, [⟨3, 0, .ro, .any⟩]⟩ /- INTC_HSTAT -/,
  ⟨0x84, 1, 0, 0x1FF, [⟨31, 16, .ro, .any⟩, ⟨8, 0, .ro, .any⟩]⟩ /- INTC_FABSTAT -/,
  ⟨0x88, 1, 0, 0x0, [⟨13, 8, .ro, .any⟩, ⟨5, 0, .ro, .any⟩]⟩ /- INTC_FABIN -/,
  ⟨0x8C, 1, 0, 0x0, [⟨31, 16, .ro, .any⟩, ⟨15, 0, .ro, .any⟩]⟩ /- INTC_CNT -/]

def rowsINTCS : List RRow := [
  ⟨0x40, 4, 4, 0x0, [⟨31, 0, .w1c, .any⟩]⟩ /- INTC_PEND -/,
  ⟨0x50, 4, 4, 0x0, [⟨31, 0, .ro, .any⟩]⟩ /- INTC_ACT -/,
  ⟨0x400, 128, 8, 0x0, [⟨31, 31, .rw, .any⟩, ⟨7, 7, .ro, .any⟩, ⟨6, 4, .rw, .any⟩, ⟨3, 0, .rw, .clamp 1 15⟩]⟩ /- INTC_SRC_CFG -/,
  ⟨0x404, 128, 8, 0x0, [⟨31, 0, .rw, .any⟩]⟩ /- INTC_SRC_VEC -/]

def rowsNL : List RRow := [
  ⟨0x40, 1, 0, 0x30A0A11, [⟨27, 24, .rws, .any⟩, ⟨23, 16, .rws, .clamp 1 255⟩, ⟨15, 8, .rws, .clamp 1 255⟩, ⟨7, 4, .ro, .any⟩, ⟨3, 0, .rw, .any⟩]⟩ /- NL_CFG -/,
  ⟨0x44, 1, 0, 0x50, [⟨22, 16, .ro, .any⟩, ⟨6, 0, .rws, .clamp 5 80⟩]⟩ /- NL_RATE -/,
  ⟨0x48, 1, 0, 0x0, [⟨10, 8, .ro, .any⟩, ⟨6, 6, .ro, .any⟩, ⟨5, 4, .ro, .any⟩, ⟨2, 0, .ro, .any⟩]⟩ /- NL_STAT -/,
  ⟨0x4C, 4, 4, 0x0, [⟨31, 0, .ro, .any⟩]⟩ /- NL_PEER -/,
  ⟨0x5C, 1, 0, 0x0, [⟨19, 0, .ro, .any⟩]⟩ /- NL_LAT -/,
  ⟨0x60, 1, 0, 0x0, [⟨15, 0, .ro, .any⟩]⟩ /- NL_LATSPR -/,
  ⟨0x64, 1, 0, 0x0, [⟨31, 16, .ro, .any⟩, ⟨15, 0, .ro, .any⟩]⟩ /- NL_CNT_A -/,
  ⟨0x68, 1, 0, 0x0, [⟨31, 16, .ro, .any⟩, ⟨15, 0, .ro, .any⟩]⟩ /- NL_CNT_B -/,
  ⟨0x6C, 1, 0, 0x0, [⟨31, 16, .ro, .any⟩, ⟨15, 0, .ro, .any⟩]⟩ /- NL_CNT_C -/,
  ⟨0x70, 1, 0, 0x0, [⟨31, 0, .ro, .any⟩]⟩ /- NL_CNT_TX -/,
  ⟨0x74, 1, 0, 0x0, [⟨31, 0, .ro, .any⟩]⟩ /- NL_CNT_RX -/,
  ⟨0x78, 1, 0, 0x0, [⟨1, 1, .w1s, .any⟩, ⟨0, 0, .w1s, .any⟩]⟩ /- NL_CTL -/]

def rowsFAB : List RRow := [
  ⟨0x40, 1, 0, 0x2, [⟨16, 16, .rw, .any⟩, ⟨13, 8, .rw, .clamp 1 63⟩, ⟨7, 0, .rw, .clamp 1 255⟩]⟩ /- FAB_CFG -/,
  ⟨0x44, 1, 0, 0x0, [⟨31, 24, .ro, .any⟩, ⟨21, 16, .ro, .any⟩, ⟨10, 10, .w1c, .any⟩, ⟨9, 9, .ro, .any⟩, ⟨8, 8, .ro, .any⟩, ⟨5, 0, .ro, .any⟩]⟩ /- FAB_STAT -/,
  ⟨0x48, 4, 4, 0x0, [⟨31, 0, .ro, .any⟩]⟩ /- FAB_UID -/,
  ⟨0x58, 4, 4, 0x0, [⟨31, 0, .ro, .any⟩]⟩ /- FAB_ROOTUID -/,
  ⟨0x68, 1, 0, 0x3E800C8, [⟨31, 16, .rw, .clamp 10 65535⟩, ⟨15, 0, .rw, .clamp 10 65535⟩]⟩ /- FAB_TO -/,
  ⟨0x6C, 1, 0, 0x3E801F4, [⟨31, 16, .rw, .any⟩, ⟨15, 0, .rw, .clamp 10 65535⟩]⟩ /- FAB_TO2 -/,
  ⟨0x70, 1, 0, 0x10, [⟨7, 0, .rw, .clamp 1 63⟩]⟩ /- FAB_TTL -/,
  ⟨0x74, 1, 0, 0x0, [⟨31, 16, .ro, .any⟩, ⟨15, 0, .ro, .any⟩]⟩ /- FAB_CNT_A -/,
  ⟨0x78, 1, 0, 0x0, [⟨31, 16, .ro, .any⟩, ⟨15, 0, .ro, .any⟩]⟩ /- FAB_CNT_B -/,
  ⟨0x7C, 1, 0, 0x0, [⟨31, 16, .ro, .any⟩, ⟨15, 0, .ro, .any⟩]⟩ /- FAB_CNT_C -/,
  ⟨0x80, 1, 0, 0x0, [⟨1, 1, .w1s, .any⟩, ⟨0, 0, .w1s, .any⟩]⟩ /- FAB_CTL -/,
  ⟨0x100, 64, 4, 0x0, [⟨5, 0, .ro, .any⟩]⟩ /- FAB_RTE -/]

def rowsBEAC : List RRow := [
  ⟨0x40, 4, 4, 0x0, [⟨31, 31, .rw, .any⟩, ⟨11, 8, .rw, .any⟩, ⟨0, 0, .rw, .any⟩]⟩ /- BEAC_TX -/,
  ⟨0x50, 4, 4, 0x0, [⟨31, 31, .rw, .any⟩, ⟨11, 8, .rw, .any⟩]⟩ /- BEAC_FWD -/,
  ⟨0x60, 2, 4, 0xA00028, [⟨31, 31, .rw, .any⟩, ⟨30, 30, .rw, .any⟩, ⟨29, 28, .rw, .any⟩, ⟨24, 16, .rw, .clamp 105 400⟩, ⟨6, 0, .rw, .clamp 5 95⟩]⟩ /- BEAC_RX -/,
  ⟨0x68, 1, 0, 0x14000064, [⟨31, 24, .rw, .clamp 1 255⟩, ⟨15, 0, .rw, .clamp 10 10000⟩]⟩ /- BEAC_VER -/,
  ⟨0x70, 4, 8, 0x0, [⟨31, 24, .ro, .any⟩, ⟨23, 21, .ro, .any⟩, ⟨17, 16, .ro, .any⟩]⟩ /- BEAC_STAT -/,
  ⟨0x74, 4, 8, 0x0, [⟨22, 0, .ro, .any⟩]⟩ /- BEAC_AGE -/,
  ⟨0x90, 1, 0, 0x0, [⟨31, 16, .ro, .any⟩, ⟨15, 0, .ro, .any⟩]⟩ /- BEAC_CNT_A -/,
  ⟨0x94, 1, 0, 0x0, [⟨31, 16, .ro, .any⟩, ⟨15, 0, .ro, .any⟩]⟩ /- BEAC_CNT_B -/,
  ⟨0x98, 1, 0, 0x0, [⟨31, 16, .ro, .any⟩, ⟨15, 0, .ro, .any⟩]⟩ /- BEAC_CNT_C -/,
  ⟨0x9C, 1, 0, 0x0, [⟨0, 0, .w1s, .any⟩]⟩ /- BEAC_CTL -/]

def rowsFCOL : List RRow := [
  ⟨0x40, 1, 0, 0x6, [⟨2, 2, .rwl, .any⟩, ⟨1, 1, .rwl, .any⟩, ⟨0, 0, .rwl, .any⟩]⟩ /- FCOL_CFG -/,
  ⟨0x44, 1, 0, 0x640014, [⟨31, 16, .rwl, .clamp 10 10000⟩, ⟨15, 0, .rwl, .clamp 1 1000⟩]⟩ /- FCOL_REACT -/,
  ⟨0x48, 1, 0, 0x640100, [⟨31, 16, .rwl, .clamp 1 10000⟩, ⟨9, 8, .rwl, .codes 2⟩, ⟨2, 2, .w1c, .any⟩, ⟨1, 1, .ro, .any⟩, ⟨0, 0, .rw, .any⟩]⟩ /- FCOL_ERRPIN -/,
  ⟨0x4C, 1, 0, 0x0, [⟨31, 31, .wo, .any⟩, ⟨8, 0, .wo, .any⟩]⟩ /- FCOL_ACK -/,
  ⟨0x50, 1, 0, 0x0, [⟨31, 0, .ro, .any⟩]⟩ /- FCOL_FIRST_W0 -/,
  ⟨0x54, 1, 0, 0x0, [⟨31, 0, .ro, .any⟩]⟩ /- FCOL_FIRST_W1 -/,
  ⟨0x58, 1, 0, 0x0, [⟨31, 0, .ro, .any⟩]⟩ /- FCOL_FIRST_TS_LO -/,
  ⟨0x5C, 1, 0, 0x0, [⟨31, 0, .ro, .any⟩]⟩ /- FCOL_FIRST_TS_HI -/,
  ⟨0x60, 1, 0, 0x0, [⟨31, 31, .ro, .any⟩, ⟨30, 30, .ro, .any⟩, ⟨15, 0, .ro, .any⟩]⟩ /- FCOL_FIRST_STAT -/,
  ⟨0x64, 1, 0, 0x0, [⟨1, 0, .w1c, .any⟩]⟩ /- FCOL_DHOLD -/,
  ⟨0x68, 1, 0, 0x0, [⟨31, 31, .rw, .any⟩, ⟨30, 30, .rw, .any⟩, ⟨29, 28, .rw, .any⟩, ⟨25, 24, .rw, .any⟩, ⟨20, 20, .rw, .any⟩]⟩ /- FCOL_LOG -/,
  ⟨0x6C, 1, 0, 0x0, [⟨31, 20, .rw, .any⟩, ⟨17, 16, .rw, .codes 2⟩, ⟨15, 9, .rw, .any⟩]⟩ /- FCOL_FINJ -/,
  ⟨0x70, 1, 0, 0x0, [⟨31, 20, .wo, .any⟩, ⟨17, 16, .wo, .any⟩, ⟨2, 0, .wo, .any⟩]⟩ /- FCOL_SWF -/,
  ⟨0x74, 1, 0, 0x0, [⟨31, 0, .rw, .any⟩]⟩ /- FCOL_SWARG -/,
  ⟨0x78, 1, 0, 0x1FF, [⟨25, 16, .ro, .any⟩, ⟨8, 0, .ro, .any⟩]⟩ /- FCOL_SUM -/,
  ⟨0x7C, 1, 0, 0x0, [⟨31, 0, .ro, .any⟩]⟩ /- FCOL_SEQ -/,
  ⟨0x80, 1, 0, 0x0, [⟨31, 16, .ro, .any⟩, ⟨15, 0, .ro, .any⟩]⟩ /- FCOL_CNT_A -/,
  ⟨0x84, 1, 0, 0x0, [⟨31, 16, .ro, .any⟩, ⟨15, 0, .ro, .any⟩]⟩ /- FCOL_CNT_B -/,
  ⟨0x88, 1, 0, 0x0, [⟨31, 16, .ro, .any⟩, ⟨15, 0, .ro, .any⟩]⟩ /- FCOL_CNT_C -/,
  ⟨0x8C, 1, 0, 0x0, [⟨1, 1, .w1s, .any⟩, ⟨0, 0, .w1s, .any⟩]⟩ /- FCOL_CTL -/,
  ⟨0x800, 512, 4, 0x30, [⟨9, 9, .rwl, .any⟩, ⟨5, 4, .rwl, .any⟩, ⟨2, 0, .rwl, .any⟩]⟩ /- FCOL_SCFG -/]

def rowsFFRC : List RRow := [
  ⟨0x40, 8, 4, 0x0, [⟨31, 0, .w1s, .any⟩]⟩ /- FFRC_FRC -/,
  ⟨0x80, 8, 4, 0x0, [⟨31, 0, .ro, .any⟩]⟩ /- FFRC_UNACK -/,
  ⟨0x400, 256, 4, 0x0, [⟨31, 16, .ro, .any⟩, ⟨15, 9, .ro, .any⟩, ⟨8, 8, .ro, .any⟩, ⟨5, 4, .ro, .any⟩, ⟨3, 2, .ro, .any⟩, ⟨1, 1, .ro, .any⟩, ⟨0, 0, .ro, .any⟩]⟩ /- FFRC_STAT -/]

def rowsMON : List RRow := [
  ⟨0x100, 2, 256, 0x0, [⟨31, 31, .rw, .any⟩, ⟨30, 30, .ro, .any⟩, ⟨20, 16, .rw, .any⟩, ⟨15, 8, .rw, .any⟩, ⟨7, 0, .rw, .any⟩]⟩ /- MON_CFG -/,
  ⟨0x104, 2, 256, 0x0, [⟨31, 0, .rw, .any⟩]⟩ /- MON_HBASE -/,
  ⟨0x108, 2, 256, 0x0, [⟨31, 0, .rw, .any⟩]⟩ /- MON_LIMIT -/,
  ⟨0x10C, 2, 256, 0x1, [⟨31, 31, .rw, .any⟩, ⟨30, 30, .rw, .any⟩, ⟨29, 29, .rw, .any⟩, ⟨15, 0, .rw, .clamp 1 65535⟩]⟩ /- MON_LCFG -/,
  ⟨0x110, 2, 256, 0x0, [⟨2, 2, .w1s, .any⟩, ⟨1, 1, .w1s, .any⟩, ⟨0, 0, .w1s, .any⟩]⟩ /- MON_CTL -/,
  ⟨0x114, 2, 256, 0x0, [⟨31, 31, .ro, .any⟩, ⟨30, 30, .ro, .any⟩, ⟨15, 0, .ro, .any⟩]⟩ /- MON_STAT -/,
  ⟨0x118, 2, 256, 0x0, [⟨15, 0, .ro, .any⟩]⟩ /- MON_BEYOND -/,
  ⟨0x120, 2, 256, 0x0, [⟨31, 0, .ro, .any⟩]⟩ /- MON_SNAP_CNT -/,
  ⟨0x128, 2, 256, 0x0, [⟨31, 0, .ro, .any⟩]⟩ /- MON_SNAP_SUM_LO -/,
  ⟨0x12C, 2, 256, 0x0, [⟨31, 0, .ro, .any⟩]⟩ /- MON_SNAP_SUM_HI -/,
  ⟨0x130, 2, 256, 0x0, [⟨31, 0, .ro, .any⟩]⟩ /- MON_SNAP_MIN -/,
  ⟨0x134, 2, 256, 0x0, [⟨31, 0, .ro, .any⟩]⟩ /- MON_SNAP_MAX -/,
  ⟨0x138, 2, 256, 0x0, [⟨31, 0, .ro, .any⟩]⟩ /- MON_SNAP_TS_LO -/,
  ⟨0x13C, 2, 256, 0x0, [⟨31, 0, .ro, .any⟩]⟩ /- MON_SNAP_TS_HI -/,
  ⟨0x180, 32, 4, 0x0, [⟨31, 0, .ro, .any⟩]⟩ /- MON_SNAP_BIN -/,
  ⟨0x280, 32, 4, 0x0, [⟨31, 0, .ro, .any⟩]⟩ /- MON_SNAP_BIN -/]

def rowsSEC : List RRow := [
  ⟨0x40, 1, 0, 0x0, [⟨9, 9, .ro, .any⟩, ⟨8, 8, .ro, .any⟩, ⟨2, 0, .ro, .any⟩]⟩ /- SEC_LC -/,
  ⟨0x44, 1, 0, 0x0, [⟨31, 24, .wo, .any⟩, ⟨7, 0, .wo, .any⟩]⟩ /- SEC_CMD -/,
  ⟨0x48, 1, 0, 0x0, [⟨31, 0, .rw, .any⟩]⟩ /- SEC_ARG -/,
  ⟨0x4C, 1, 0, 0x70000000, [⟨31, 31, .ro, .any⟩, ⟨30, 28, .ro, .any⟩, ⟨27, 24, .ro, .any⟩, ⟨23, 16, .ro, .any⟩, ⟨15, 0, .ro, .any⟩]⟩ /- SEC_STAT -/,
  ⟨0x50, 4, 4, 0x0, [⟨31, 0, .ro, .any⟩]⟩ /- SEC_CHAL -/,
  ⟨0x60, 1, 0, 0x0, [⟨15, 0, .ro, .any⟩]⟩ /- SEC_CERTLEN -/,
  ⟨0x64, 1, 0, 0x0, [⟨31, 16, .ro, .any⟩, ⟨15, 0, .ro, .any⟩]⟩ /- SEC_CNT -/]

def rowsUPD : List RRow := [
  ⟨0x40, 1, 0, 0xC8, [⟨12, 12, .rw, .any⟩, ⟨11, 0, .rw, .clamp 60 360⟩]⟩ /- UPD_CFG -/,
  ⟨0x44, 1, 0, 0x0, [⟨31, 24, .wo, .any⟩, ⟨9, 8, .wo, .any⟩, ⟨1, 0, .wo, .any⟩]⟩ /- UPD_STAGE -/,
  ⟨0x48, 1, 0, 0x0, [⟨31, 0, .rw, .any⟩]⟩ /- UPD_SRC -/,
  ⟨0x4C, 1, 0, 0x0, [⟨31, 0, .rw, .any⟩]⟩ /- UPD_OFS -/,
  ⟨0x50, 1, 0, 0x4, [⟨16, 0, .rw, .clamp 4 65536⟩]⟩ /- UPD_LEN -/,
  ⟨0x54, 1, 0, 0x0, [⟨31, 31, .ro, .any⟩, ⟨27, 24, .ro, .any⟩, ⟨17, 16, .ro, .any⟩, ⟨3, 0, .ro, .any⟩]⟩ /- UPD_SSTAT -/,
  ⟨0x58, 1, 0, 0x0, [⟨31, 24, .wo, .any⟩, ⟨3, 0, .wo, .any⟩]⟩ /- UPD_ACT -/,
  ⟨0x5C, 1, 0, 0x0, [⟨31, 31, .ro, .any⟩, ⟨30, 30, .ro, .any⟩, ⟨27, 24, .ro, .any⟩, ⟨19, 16, .ro, .any⟩, ⟨15, 0, .ro, .any⟩]⟩ /- UPD_ASTAT -/,
  ⟨0x60, 1, 0, 0x0, [⟨15, 12, .ro, .any⟩, ⟨11, 8, .ro, .any⟩, ⟨7, 4, .ro, .any⟩, ⟨3, 0, .ro, .any⟩]⟩ /- UPD_SLOT -/,
  ⟨0x64, 4, 4, 0x0, [⟨31, 0, .ro, .any⟩]⟩ /- UPD_RBC -/,
  ⟨0x74, 1, 0, 0x0, [⟨31, 0, .ro, .any⟩]⟩ /- UPD_MOVE -/,
  ⟨0x78, 1, 0, 0x0, [⟨31, 16, .ro, .any⟩]⟩ /- UPD_CFGSTAT -/,
  ⟨0x7C, 1, 0, 0x0, [⟨31, 0, .ro, .any⟩]⟩ /- UPD_CFGADDR -/,
  ⟨0x80, 1, 0, 0x0, [⟨11, 8, .w1s, .any⟩, ⟨3, 0, .w1s, .any⟩]⟩ /- UPD_CTL -/]

def rowsMRAMC : List RRow := [
  ⟨0x40, 1, 0, 0x0, [⟨22, 0, .rw, .any⟩]⟩ /- MRAMC_WADDR -/,
  ⟨0x44, 1, 0, 0x0, [⟨31, 0, .rw, .any⟩]⟩ /- MRAMC_WDLO -/,
  ⟨0x48, 1, 0, 0x0, [⟨31, 0, .rw, .any⟩]⟩ /- MRAMC_WDHI -/,
  ⟨0x4C, 1, 0, 0x0, [⟨31, 31, .ro, .any⟩, ⟨27, 24, .ro, .any⟩, ⟨1, 0, .ro, .any⟩]⟩ /- MRAMC_WSTAT -/,
  ⟨0x50, 1, 0, 0x0, [⟨31, 0, .wo, .any⟩]⟩ /- MRAMC_LAPP -/,
  ⟨0x54, 1, 0, 0x0, [⟨31, 31, .ro, .any⟩, ⟨27, 24, .ro, .any⟩]⟩ /- MRAMC_LSTAT -/,
  ⟨0x58, 1, 0, 0x0, [⟨31, 0, .ro, .any⟩]⟩ /- MRAMC_LHEAD -/,
  ⟨0x5C, 1, 0, 0x0, [⟨31, 0, .ro, .any⟩]⟩ /- MRAMC_WMAX -/,
  ⟨0x60, 1, 0, 0x0, [⟨8, 0, .ro, .any⟩]⟩ /- MRAMC_WBLK -/,
  ⟨0x64, 1, 0, 0x0, [⟨31, 16, .ro, .any⟩, ⟨15, 0, .ro, .any⟩]⟩ /- MRAMC_CNT -/,
  ⟨0x68, 1, 0, 0x0, [⟨0, 0, .w1s, .any⟩]⟩ /- MRAMC_CTL -/]

def rowsRTC : List RRow := [
  ⟨0x40, 1, 0, 0x0, [⟨14, 0, .ro, .any⟩]⟩ /- RTC_SUB -/,
  ⟨0x44, 1, 0, 0x0, [⟨31, 0, .ro, .any⟩]⟩ /- RTC_SEC -/,
  ⟨0x48, 1, 0, 0x0, [⟨31, 0, .wo, .any⟩]⟩ /- RTC_SET -/,
  ⟨0x4C, 1, 0, 0x0, [⟨11, 0, .rw, .any⟩]⟩ /- RTC_TRIM -/,
  ⟨0x50, 1, 0, 0x0, [⟨31, 0, .rw, .any⟩]⟩ /- RTC_ALARM -/,
  ⟨0x54, 1, 0, 0x1C, [⟨5, 2, .rw, .any⟩, ⟨1, 1, .rw, .any⟩, ⟨0, 0, .rw, .any⟩]⟩ /- RTC_CTL -/,
  ⟨0x58, 1, 0, 0x0, [⟨3, 3, .w1c, .any⟩, ⟨2, 2, .w1c, .any⟩, ⟨1, 1, .ro, .any⟩, ⟨0, 0, .ro, .any⟩]⟩ /- RTC_STAT -/,
  ⟨0x5C, 1, 0, 0x0, [⟨31, 0, .ro, .any⟩]⟩ /- RTC_TB_LO -/,
  ⟨0x60, 1, 0, 0x0, [⟨31, 0, .ro, .any⟩]⟩ /- RTC_TB_HI -/,
  ⟨0x64, 1, 0, 0x0, [⟨31, 0, .ro, .any⟩]⟩ /- RTC_TB_SEC -/]

def rowsSENT : List RRow := [
  ⟨0x40, 1, 0, 0x10400, [⟨16, 16, .rw, .any⟩, ⟨15, 0, .rw, .clamp 1 65535⟩]⟩ /- SENT_CFG -/,
  ⟨0x44, 1, 0, 0x80500, [⟨23, 16, .rw, .clamp 1 255⟩, ⟨11, 8, .rw, .clamp 1 15⟩, ⟨2, 2, .rw, .any⟩, ⟨1, 1, .rw, .any⟩, ⟨0, 0, .rw, .any⟩]⟩ /- SENT_SSC -/,
  ⟨0x48, 1, 0, 0x0, [⟨15, 0, .ro, .any⟩]⟩ /- SENT_TCNT -/,
  ⟨0x50, 8, 8, 0x10100, [⟨23, 16, .rw, .clamp 1 255⟩, ⟨11, 8, .rw, .clamp 1 15⟩, ⟨4, 4, .rw, .any⟩, ⟨3, 3, .rw, .any⟩, ⟨2, 2, .rw, .any⟩, ⟨1, 1, .rw, .any⟩, ⟨0, 0, .rw, .any⟩]⟩ /- SENT_IN_CFG -/,
  ⟨0x54, 8, 8, 0xFF00, [⟨23, 16, .ro, .any⟩, ⟨15, 8, .rw, .any⟩, ⟨7, 0, .rw, .any⟩]⟩ /- SENT_IN_THR -/,
  ⟨0xA0, 1, 0, 0x0, [⟨8, 0, .w1c, .any⟩]⟩ /- SENT_EVT -/,
  ⟨0xA4, 1, 0, 0x0, [⟨3, 0, .ro, .any⟩]⟩ /- SENT_LAST -/,
  ⟨0xA8, 1, 0, 0x0, [⟨31, 0, .ro, .any⟩]⟩ /- SENT_LASTSEC -/,
  ⟨0xAC, 1, 0, 0x0, [⟨31, 16, .ro, .any⟩, ⟨15, 0, .ro, .any⟩]⟩ /- SENT_CNT -/]

def rowsOPWR : List RRow := [
  ⟨0x40, 1, 0, 0x2, [⟨4, 4, .w1c, .any⟩, ⟨3, 3, .w1c, .any⟩, ⟨2, 2, .ro, .any⟩, ⟨1, 1, .w1c, .any⟩, ⟨0, 0, .ro, .any⟩]⟩ /- OPWR_STAT -/,
  ⟨0x44, 1, 0, 0x0, [⟨12, 0, .ro, .any⟩]⟩ /- OPWR_VBAT -/,
  ⟨0x48, 1, 0, 0x104, [⟨9, 0, .rw, .clamp 200 550⟩]⟩ /- OPWR_CFG -/,
  ⟨0x4C, 1, 0, 0x0, [⟨4, 4, .w1c, .any⟩, ⟨3, 3, .w1c, .any⟩, ⟨2, 2, .w1c, .any⟩, ⟨1, 1, .w1c, .any⟩, ⟨0, 0, .w1c, .any⟩]⟩ /- OPWR_WCAUSE -/,
  ⟨0x50, 1, 0, 0x0, [⟨3, 3, .ro, .any⟩, ⟨2, 2, .w1c, .any⟩, ⟨1, 1, .ro, .any⟩, ⟨0, 0, .rw, .any⟩]⟩ /- OPWR_WAKE -/,
  ⟨0x100, 64, 4, 0x0, [⟨31, 0, .rw, .any⟩]⟩ /- OPWR_RAM -/]

end Sys2Proof.Machine
end

