-- ==== Sys2Proof/Machine/Pages.lean ====
section
/-!
DEFINITION. Machine/Pages.lean: the page allocation (R40, R41), the type codes (R47), capability words, the pages that are always
enabled (R48), and the reset word of every register address (R9).
-/

namespace Sys2Proof.Machine

/-- The block types of R41 and R47. -/
inductive Blk where
  | sys | tbase | hostp | mramc | sec | upd | whl | ang | pred | carv | ring | drv | bank | bst | prof | ign | tapc | trig
  | adc | smpl | knk | cmb | trim | tmr | pio | piog | intc | core | nl | fab | beac | fcol | ffrc | mon | rtc | sent | opwr
  deriving DecidableEq, Repr

/-- R41: first page, number of pages and block type. -/
def pageMap : List (Nat × Nat × Blk) :=
  [(0x000, 1, .sys), (0x001, 1, .tbase), (0x002, 1, .hostp), (0x003, 1, .mramc), (0x004, 1, .sec), (0x005, 1, .upd),
   (0x008, 8, .whl), (0x010, 2, .ang), (0x012, 2, .pred), (0x018, 1, .carv), (0x019, 1, .ring), (0x020, 48, .drv),
   (0x050, 12, .bank), (0x05C, 2, .bst), (0x05E, 1, .prof), (0x060, 24, .ign), (0x078, 1, .tapc), (0x079, 1, .trig),
   (0x080, 8, .adc), (0x088, 1, .smpl), (0x089, 1, .knk), (0x08A, 1, .cmb), (0x08B, 1, .trim), (0x090, 16, .tmr),
   (0x0A0, 8, .pio), (0x0A8, 1, .piog), (0x0B0, 5, .intc), (0x0B8, 3, .core), (0x0C0, 4, .nl), (0x0C4, 1, .fab),
   (0x0C5, 1, .beac), (0x0D0, 1, .fcol), (0x0D1, 2, .ffrc), (0x0D8, 8, .mon), (0x0E0, 1, .rtc), (0x0E1, 1, .sent),
   (0x0E2, 1, .opwr)]

/-- The block type of page `pg` and the page's number within the type; none for a page that is not allocated. -/
def pageInfoIn : List (Nat × Nat × Blk) → Nat → Option (Blk × Nat)
  | [], _ => none
  | (b, n, k) :: r, pg => if b ≤ pg ∧ pg < b + n then some (k, pg - b) else pageInfoIn r pg

def pageInfo (pg : Nat) : Option (Blk × Nat) := pageInfoIn pageMap pg

/-- The page of an internal byte address (R40): the address lies in the register space when this is below 0x100 pages of
allocation, see `isPageAddr`. -/
def pageOf (a : Nat) : Nat := a / 0x1000 % 0x40000

def isPageAddr (a : Nat) : Bool := decide (0x40000000 ≤ a) && decide (a < 0x40100000) && (pageInfo (pageOf a)).isSome

/-- Type codes (R47). -/
def Blk.code : Blk → Nat
  | .sys => 0x001 | .tbase => 0x002 | .hostp => 0x003 | .mramc => 0x004 | .sec => 0x005 | .upd => 0x006 | .whl => 0x010
  | .ang => 0x011 | .pred => 0x012 | .carv => 0x018 | .ring => 0x019 | .drv => 0x020 | .bank => 0x021 | .bst => 0x022
  | .prof => 0x023 | .ign => 0x028 | .tapc => 0x029 | .trig => 0x02A | .adc => 0x030 | .smpl => 0x031 | .knk => 0x032
  | .cmb => 0x033 | .trim => 0x034 | .tmr => 0x038 | .pio => 0x03C | .piog => 0x03D | .intc => 0x040 | .core => 0x044
  | .nl => 0x048 | .fab => 0x049 | .beac => 0x04A | .fcol => 0x050 | .ffrc => 0x051 | .mon => 0x052 | .rtc => 0x058
  | .sent => 0x059 | .opwr => 0x05A

/-- Capability words, each from the register section of the block's chapter; TBASE, HOSTP, RTC aside, a chapter that gives none
leaves the word open. -/
def Blk.pcap (b : Blk) (p : Nat) : Nat :=
  match b with
  | .sys => 0x148DB222 | .whl => if p = 0 then 0x4F else 0x47 | .ang => 0x895 | .pred => 0x938 | .carv => 0x51100
  | .trig => 0x7738 | .ign => if p = 0 then 3 else 1 | .tapc => 0x20 | .drv => 7 | .bank => 0x14 | .bst => 6 | .prof => 0x110
  | .adc => 0x460 | .smpl => 0x650 | .knk => 0x1048 | .cmb => 0x1F918 | .trim => 0x40
  | .tmr => if p = 0 then 0x46 else 2 | .pio => 0x220 | .piog => 8 | .intc => 0x42200
  | .core => if p = 0 then 0x1000 else 0x2087 | .nl => 0x190 | .fab => 0x113F | .beac => 0xB4 | .fcol => 0x9200
  | .ffrc => 0x100 | .mon => 0x1682 | .sec => 7 | .upd => 0x24 | .mramc => 0x410 | .rtc => 7 | .sent => 0x18 | .opwr => 0x100
  | .ring => 0x3220 | .tbase => Config.openPcap 1 | .hostp => Config.openPcap 2

/-- Pages whose `PCTL.ENABLE` reads 1 and ignores a write of 0 (R48); core control page 0 is SUPC (R371). -/
def Blk.alwaysOn (b : Blk) (p : Nat) : Bool :=
  match b with
  | .sys | .tbase | .hostp | .mramc | .sec | .upd | .ring | .prof | .tapc | .trig | .piog | .intc | .fcol | .ffrc | .mon
  | .rtc | .opwr => true
  | .core => p == 0
  | _ => false

/-- The block-specific register rows of a page: page `p` within its type. -/
def Blk.rows (b : Blk) (p : Nat) : List RRow :=
  match b with
  | .sys => rowsSYS | .tbase => rowsTBASE | .hostp => rowsHOSTP | .mramc => rowsMRAMC | .sec => rowsSEC | .upd => rowsUPD
  | .whl => rowsWHL | .ang => rowsANG | .pred => rowsPRED | .carv => rowsCARV | .ring => rowsRING | .drv => rowsDRV
  | .bank => rowsBANK | .bst => rowsBST | .prof => rowsPROF | .ign => rowsIGN | .tapc => rowsTAPC | .trig => rowsTRIG
  | .adc => rowsADC | .smpl => rowsSMPL | .knk => rowsKNK | .cmb => rowsCMB | .trim => rowsTRIM
  | .tmr => if p = 0 then rowsTMR ++ rowsTMRG else rowsTMR
  | .pio => rowsPIO | .piog => rowsPIOG | .intc => if p = 0 then rowsINTC else rowsINTCS | .core => rowsCORE | .nl => rowsNL
  | .fab => rowsFAB | .beac => rowsBEAC | .fcol => rowsFCOL | .ffrc => rowsFFRC | .mon => rowsMON | .rtc => rowsRTC
  | .sent => rowsSENT | .opwr => rowsOPWR

/-- The row of a register table that holds offset `o`, and the index within its array. -/
def findRow : List RRow → Nat → Option (RRow × Nat)
  | [], _ => none
  | r :: rs, o =>
    if r.stride = 0 then (if o = r.off then some (r, 0) else findRow rs o)
    else if r.off ≤ o ∧ (o - r.off) % r.stride = 0 ∧ (o - r.off) / r.stride < r.count then some (r, (o - r.off) / r.stride)
    else findRow rs o

/-- The common registers of a page (R46) that hold stored state: PCTL, PIRQ, PIEN, PFLT, PLOCK, PACC, PGEN. The fields of
`PCTL`, `PLOCK` and `PACC` have meanings of their own and are written by the operations of Machine/Bus.lean. -/
def rowsCommon : List RRow := [
  ⟨0x000, 1, 0, 0, [⟨31, 0, .ro, .any⟩]⟩,
  ⟨0x004, 1, 0, 0, [⟨31, 0, .ro, .any⟩]⟩,
  ⟨0x008, 1, 0, 0, [⟨4, 4, .rw, .any⟩, ⟨3, 3, .w1s, .any⟩, ⟨2, 2, .w1s, .any⟩, ⟨1, 1, .rw, .any⟩, ⟨0, 0, .rw, .any⟩]⟩,
  ⟨0x00C, 1, 0, 0, [⟨4, 0, .ro, .any⟩]⟩,
  ⟨0x010, 1, 0, 0, [⟨31, 0, .w1c, .any⟩]⟩,
  ⟨0x014, 1, 0, 0, [⟨31, 0, .rw, .any⟩]⟩,
  ⟨0x018, 1, 0, 0, [⟨31, 0, .w1s, .any⟩]⟩,
  ⟨0x01C, 1, 0, 0, [⟨31, 0, .ro, .any⟩]⟩,
  ⟨0x020, 1, 0, 0, [⟨31, 0, .w1s, .any⟩]⟩,
  ⟨0x024, 1, 0, 0xE0, [⟨31, 0, .wo, .any⟩]⟩,
  ⟨0x028, 1, 0, 7, [⟨3, 0, .rw, .any⟩]⟩,
  ⟨0x02C, 1, 0, 0, [⟨31, 0, .ro, .any⟩]⟩]

/-- Offsets below 0x040 are the common page layout; the block's own registers begin there. -/
def rowAt (b : Blk) (p o : Nat) : Option (RRow × Nat) :=
  if o < 0x40 then findRow rowsCommon o else findRow (b.rows p) o

/-- Reset value of the fields a table marks "per R...": FCOL actions (R444), interrupt kinds (R379), ring directions (R373). -/
def resetFix (b : Blk) (p o w : Nat) : Nat :=
  match b with
  | .fcol => if o = 0x804 ∨ o = 0x800 + 4 * 0xE3 then w + 3 else w
  | .intc =>
    if p = 0 ∨ o < 0x400 ∨ o % 8 ≠ 0 then w
    else
      let s := 128 * (p - 1) + (o - 0x400) / 8
      if (0x140 ≤ s ∧ s < 0x180) ∨ (0x1E0 ≤ s ∧ s < 0x1F0) then w + 0x80 else w
  | .ring =>
    if o < 0x80 ∨ 0x280 ≤ o ∨ o % 16 ≠ 4 then w
    else
      let r := (o - 0x80) / 16
      if (8 ≤ r ∧ r < 16) ∨ 20 ≤ r then w + 0x20000000 else w
  | .ign => if o = 0x50 ∧ p ≠ 0 then 0 else w
  | _ => w

/-- The value a register holds after power-on and after a block restart (R9, R46). -/
def resetWord (a : Nat) : Word :=
  match pageInfo (pageOf a) with
  | none => 0
  | some (b, p) =>
    let o := a % 0x1000
    if o = 0x00 then BitVec.ofNat 32 (b.code * 0x100000 + p * 0x1000 + Config.pidVersion (pageOf a) % 0x1000)
    else if o = 0x04 then BitVec.ofNat 32 (b.pcap p)
    else if o = 0x08 then (if b.alwaysOn p then 1 else 0)
    else match rowAt b p o with
      | none => 0
      | some (r, _) => BitVec.ofNat 32 (resetFix b p o r.reset)

end Sys2Proof.Machine
end

