-- ==== Sys2Proof/Machine/State.lean ====
section
/-!
DEFINITION. Machine/State.lean: the state of the device as plain data, the outcomes of a command, and the state after reset.
Every register with an address lives in the register file `Dev.regs` (a sparse list over the register map of Machine/Map.lean);
what the chapters name without giving it an address (queues, pending edges, latches, search and window state) has typed fields.
-/

namespace Sys2Proof.Machine

/-- A sparse map over addresses or numbers: keys strictly rising, no entry equal to the default of its key. -/
abbrev SMap (α : Type) := List (Nat × α)

/-- A fault message on its way to the collector (R435), with the FORCED mark of R454. -/
structure FMsg where
  src : Nat
  kind : Nat
  cls : Nat
  detail : Nat
  arg : Nat
  forced : Bool := false
  deriving DecidableEq, Repr, Inhabited

/-- What a fault source holds since its last acknowledgement (R439); `fixedAt` the handshake that fixed its deadline (R563);
`act` the L3 action taken and `doms` the domains it ended (R442). -/
structure FSrc where
  unack : Bool := false
  cls : Nat := 0
  level : Nat := 0
  count : Nat := 0
  deadline : Option Nat := none
  fixedAt : Nat := 0
  kind : Nat := 0
  forced : Bool := false
  w0 : Word := 0
  w1 : Word := 0
  act : Nat := 0
  doms : Nat := 0
  deriving DecidableEq, Repr, Inhabited

/-- The fault collector's state behind its registers: awaiting messages in order (R436), sources (R439), the end of the MINW
interval (R449), the log rings in the full state (R450). -/
structure Fcol where
  awaiting : List FMsg := []
  src : SMap FSrc := []
  minwEnd : Option Nat := none
  logFull : List Nat := []
  deriving DecidableEq, Repr, Inhabited

/-- One RISC-V core: what R360 to R371 and R382 to R384 name. CSRs are keyed by their number. `levels` holds the entered interrupt
levels, innermost first: source and priority. -/
structure Hart where
  running : Bool := false
  pc : Word := 0
  gpr : SMap Word := []
  fpr : SMap Word := []
  csr : SMap Word := []
  priv : Nat := 3
  wfi : Bool := false
  halted : Bool := false
  levels : List (Nat × Nat) := []
  pres : Option Nat := none
  resv : Option Nat := none
  timeLatch : Word := 0
  deriving DecidableEq, Repr, Inhabited

/-- The interrupt controller behind its registers: pending latched sources, sources with ACT set (R381, R384, R387, R389), and
sources waiting for their fabric message to be formed. -/
structure Intc where
  latched : List Nat := []
  act : List Nat := []
  send : List Nat := []
  deriving DecidableEq, Repr, Inhabited

/-- A health monitor's live values and what its snapshot needs beyond the registers (R457, R459, R461). -/
structure Mon where
  cnt : Nat := 0
  sum : Int := 0
  bins : SMap Nat := []
  min : Option Int := none
  max : Option Int := none
  reported : Bool := false
  busyUntil : Nat := 0
  deriving DecidableEq, Repr, Inhabited

/-- The time base and the supplies behind their registers (R21 to R31): whether the calibrator has locked since power-on, the
time by which a new source must relock, the core supply conditions and since when VDDC has been at 0.68 V or above, the analog die's hold
on the outputs, the stage times of the latest windows (newest first), when the present slew began. -/
structure Supply where
  started : Bool := false
  refselBy : Option Nat := none
  vddcGoodSince : Option Nat := none
  under : Bool := false
  brown : Bool := false
  vddaLow : Bool := false
  vbLow : Bool := false
  forcedOff : Bool := false
  stgHist : List Nat := []
  slewAt : Nat := 0
  deriving DecidableEq, Repr, Inhabited

/-- An edge handed to a channel (R176, R198): the slot and its occurrence, start or end, the action, the committed time, the
time it may be placed at (R178, R217) the order of R178, its event's TAG, and the time it has reached the placer (R169). -/
structure Edge where
  slot : Nat
  gen : Nat
  start : Bool
  act : Nat
  dom : Nat
  target : Nat
  place : Nat
  prio : Nat
  aseq : Nat
  decided : Nat
  tag : Nat := 0
  ready : Nat := 0
  deriving DecidableEq, Repr, Inhabited

/-- One output channel's placer (R32, R33, R198, R199): hand-over queue, pending edge with the time it was loaded, edges still at
the Caravan for a full queue, the last release and the event level. -/
structure Chan where
  q : List Edge := []
  pend : Option Edge := none
  loadAt : Nat := 0
  back : List Edge := []
  lastRel : Option Nat := none
  level : Bool := false
  deriving DecidableEq, Repr, Inhabited

/-- The trigger matrix: the origin time of the trigger pending at each consumer (R210). -/
structure TrigM where
  pend : SMap (Option Nat) := []
  deriving DecidableEq, Repr, Inhabited

/-- An ignition channel (R212 to R219): whether IGNn is high, when the charge began, the feedback input and its assertion, when
IGNn fell, whether the charge ended by soft-off before its spark, and the checks already made for this charge. -/
structure Ign where
  high : Bool := false
  since : Nat := 0
  fb : Bool := false
  fbAt : Option Nat := none
  fell : Option Nat := none
  gen : Option (Nat × Nat) := none
  ended : Bool := false
  nochg : Bool := false
  deriving DecidableEq, Repr, Inhabited

/-- One soft-off (R216, R217): when IGNSOFT rises, t_s, when IGNSOFT falls, the channels that fall at t_s, and what has happened of it. -/
structure SoftIv where
  rise : Nat := 0
  ts : Nat := 0
  fall : Nat := 0
  chans : List Nat := []
  risen : Bool := false
  fallen : Bool := false
  deriving DecidableEq, Repr, Inhabited

/-- The IGNSOFT pin (R216 to R218): whether the device holds it high (R218, R467), and the soft-offs in force. -/
structure Soft where
  hold : Bool := false
  ivs : List SoftIv := []
  deriving DecidableEq, Repr, Inhabited

/-- TAP pins: a pin forced to its safe-end state (0 low, 1 high, 2 high-impedance) until released by R206. -/
structure Taps where
  safe : SMap (Option Nat) := []
  inh : SMap (Option Nat) := []
  deriving DecidableEq, Repr, Inhabited

/-- A period of the angle source (R132): raw time, table spacing, corrected spacing, effective dune ratio (30 fractional bits). -/
structure Period where
  d : Nat
  s : Nat
  sc : Nat
  ratio : Nat
  deriving DecidableEq, Repr, Inhabited

/-- A predictor (R129 to R152): the period list, newest first, the model in the formats of R129, the reported angle, and what
R136, R148 and R149 need from one tooth to the next. -/
structure Pred where
  list : List Period := []
  valid : Bool := false
  tk : Nat := 0
  thk : Nat := 0
  omega : Nat := 0
  acc : Int := 0
  sNext : Nat := 0
  ps : Nat := 0
  dNext : Nat := 0x40000000
  pNext : Nat := 0
  thHold : Nat := 0
  clamped : Bool := false
  floored : Bool := false
  fitFull : Bool := false
  rep : Nat := 0
  held : Bool := false
  badSpeed : Bool := false
  deriving DecidableEq, Repr, Inhabited

/-- The content of an arm request a slot keeps (R159): angle, word 1, duration and tag. -/
structure Content where
  angle : Nat := 0
  w1 : Word := 0
  dur : Nat := 0
  tag : Nat := 0
  deriving DecidableEq, Repr, Inhabited

/-- A Caravan slot (R157). `st` is the state code; `due` the position of the effective angle of this occurrence counted along the
domain's travel (`Carv.trav`); `gen` names the occurrence; `t` and `beyond` are the last projection of the next edge; `late` is the mark
of R568. -/
structure Slot where
  st : Nat := 0
  c : Content := {}
  owner : Nat := 0
  aseq : Nat := 0
  gen : Nat := 0
  due : Int := 0
  ofsA : Int := 0
  ofsD : Int := 0
  maxD : Nat := 0xFFFFFFFF
  t : Option Nat := none
  beyond : Bool := true
  startC : Bool := false
  endC : Bool := false
  startRel : Option Nat := none
  endFixed : Option Nat := none
  minEnd : Bool := false
  lateAu : Option Nat := none
  lateTu : Nat := 0
  lateOut : Nat := 0
  lateEnd : Bool := false
  placeLate : Nat := 0
  mark : Nat := 0
  lastOcc : Bool := false
  next : Option Content := none
  endRel : Option Nat := none
  drvBusy : Bool := false
  late : Bool := false
  deriving DecidableEq, Repr, Inhabited

/-- The Caravan behind its registers: slots, the occurrence counter, per domain the angle and the travel of θ_front and the rings
stalled for want of a slot (R167). -/
structure Carv where
  slots : SMap Slot := []
  genCtr : Nat := 0
  front : Vector Nat 2 := Vector.replicate 2 0
  trav : Vector Int 2 := Vector.replicate 2 0
  stalled : List Nat := []
  deriving DecidableEq, Repr, Inhabited

/-- A request in an aperture queue (R275, R276): class, input, target, what it belongs to (TABLE: domain × 16 + run; EVENT: channel;
KNOCK: channel; TRIG: source code), index within the occurrence or grid, tag, origin time (R288) and the EXC mark of R283. -/
structure AdcReq where
  cls : Nat := 0
  inp : Nat := 0
  target : Nat := 0
  src : Nat := 0
  idx : Nat := 0
  tag : Nat := 0
  origin : Nat := 0
  exc : Bool := false
  deriving DecidableEq, Repr, Inhabited

/-- A converter behind its registers (R274, R276): the aperture queue in order of entry, the conversion under way with its aperture
time, the end of the busy interval. -/
structure Adc where
  q : List AdcReq := []
  conv : Option (AdcReq × Nat) := none
  busy : Bool := false
  busyEnd : Nat := 0
  deriving DecidableEq, Repr, Inhabited

/-- A sample of a run as it is passed on: its value (none: missed), its time and its EXC mark. -/
structure Sample where
  val : Option Nat := none
  ts : Nat := 0
  exc : Bool := false
  deriving DecidableEq, Repr, Inhabited

/-- A sample run behind its registers (R281 to R287): the position of sample 0 of the occurrence in hand and its next sample to commit.
Samples are numbered through all occurrences (`base`: sample 0 of the occurrence in hand; `emit`: the next one to pass on; `got`: those
that wait for an earlier one). Last, the open packet. -/
structure Run where
  pos0 : Option Int := none
  next : Nat := 0
  emit : Nat := 0
  base : Nat := 0
  got : SMap Sample := []
  pktIdx : Nat := 0
  pkt : List Sample := []
  deriving DecidableEq, Repr, Inhabited

/-- The settings a knock window runs with (R290, R297): those committed before it opened. -/
structure KnkSet where
  fen : Nat := 0
  pre : Nat := 0
  per : Nat := 0
  sqr : Bool := false
  shift : Nat := 0
  a1 : List Int := []
  a2 : List Int := []
  b0 : List Int := []
  deriving DecidableEq, Repr, Inhabited

/-- One filter of a knock channel (R292): y1, y2 with 16 fractional bits, and the accumulator. -/
structure KnkFilt where
  y1 : Int := 0
  y2 : Int := 0
  acc : Nat := 0
  deriving DecidableEq, Repr, Inhabited

/-- A knock channel's open window (R289 to R295), with its closing time once that is committed. -/
structure KnkChan where
  win : Option Nat := none
  dom : Nat := 0
  cyl : Nat := 0
  set : KnkSet := {}
  tO : Nat := 0
  closePos : Int := 0
  j : Nat := 0
  x1 : Int := 0
  x2 : Int := 0
  f : Vector KnkFilt 4 := Vector.replicate 4 {}
  nsmp : Nat := 0
  nint : Nat := 0
  lateOpen : Bool := false
  lostSmp : Bool := false
  closeAt : Option Nat := none
  deriving DecidableEq, Repr, Inhabited

/-- The knock block behind its registers: channels, each window's next opening position, and its committed opening time (R290). -/
structure Knk where
  ch : Vector KnkChan 8 := Vector.replicate 8 {}
  pos : Vector (Option Int) 32 := Vector.replicate 32 none
  openAt : Vector (Option Nat) 32 := Vector.replicate 32 none
  deriving DecidableEq, Repr, Inhabited

/-- A cylinder of the combustion analyser (R304 to R311): the trace of the occurrence in hand, oldest first; Δ as a quotient;
the metrics delivered, valid and their values; the records still to write. -/
structure Cyl where
  active : Bool := false
  dom : Nat := 0
  run : Nat := 0
  cyc : Nat := 0
  missMax : Nat := 0
  trace : List (Option Nat) := []
  delta : Option (Int × Nat) := none
  lastN : Int := 0
  lastD : Nat := 1
  pegFail : Bool := false
  done : List Nat := []
  valid : Nat := 0
  lastValid : Nat := 0
  vals : SMap Int := []
  misfire : Bool := false
  alloc : Nat := 0
  deriving DecidableEq, Repr, Inhabited

/-- The event behind a drive start: its slot and occurrence, the slot number its record shows (R262), tag, priority and late policy;
`has` is false for an edge-locked action. -/
structure DrvOcc where
  has : Bool := false
  slot : Nat := 0
  gen : Nat := 0
  recSlot : Nat := 0x1FF
  tag : Nat := 0
  prio : Nat := 0
  policy : Nat := 0
  deriving DecidableEq, Repr, Inhabited

/-- A start that waits on a drive channel (R243, R246, R251): `why` 1 channel busy, 2 bank, 3 boost; `late` the outcome its late
policy gave it; `ended` its end edge was released under FIRE; `pre` it waits for a profile it pre-empted. -/
structure DrvWait where
  occ : DrvOcc := {}
  gate : Bool := false
  rel : Nat := 0
  why : Nat := 1
  since : Nat := 0
  order : Nat := 0
  tol : Option Nat := none
  late : Nat := 0
  ended : Bool := false
  pre : Bool := false
  flags : BitVec 16 := 0
  deriving DecidableEq, Repr, Inhabited

/-- A drive channel behind its registers (R230 to R259): `st` 0 none, 2 RUN, 3 DECAY, 4 OFFTIME, 6 DIRECT; the profile copy and
phase, regulation, detection, the record's contents, waiting starts, consecutive trips and the duty buckets. `wheel`: the bank's high-sides are
off while two channels conduct (R248). `recAs`: the result ring, if any, for the record of a run that a block restart ended (R261). -/
structure Drv where
  st : Nat := 0
  occ : DrvOcc := {}
  prof : List Word := []
  profNo : Nat := 0
  phase : Nat := 0
  phaseAt : Nat := 0
  start : Nat := 0
  rel : Nat := 0
  chg : Bool := false
  cut : Bool := false
  wheel : Bool := false
  recAs : Option (Option Nat) := none
  offAt : Nat := 0
  cmdEnded : Bool := false
  endRun : Bool := false
  deferEnd : Bool := false
  batAll : Bool := false
  batPh : Bool := false
  flags : BitVec 16 := 0
  arm : Option Nat := none
  armI : Nat := 0
  ys : List Nat := []
  gmax : Int := 0
  dip : Bool := false
  gdip : Int := 0
  tdip : Nat := 0
  idip : Nat := 0
  peak : Nat := 0
  onAt : Option Nat := none
  onTime : Nat := 0
  isDirect : Bool := false
  directBat : Bool := false
  decayEnd : Nat := 0
  offEnd : Nat := 0
  waits : List DrvWait := []
  trips : Nat := 0
  tripped : Bool := false
  bktAt : Nat := 0
  bktOn : Nat := 0
  bktFrom : Option Nat := none
  bkts : List Nat := []
  duty : Bool := false
  deriving DecidableEq, Repr, Inhabited

/-- A bank behind its registers: the arrival counter of its waits and the time of the last change of its high-sides. -/
structure Bank where
  order : Nat := 0
  hsAt : Nat := 0
  deriving DecidableEq, Repr, Inhabited

/-- A boost converter behind its registers (R252, R253): BSTkG, the start of the present cycle, the end asked for at TARGET,
over-voltage stop, and since when READY has been 0 while switching. -/
structure Bst where
  gate : Bool := false
  cycAt : Nat := 0
  stop : Bool := false
  ovStop : Bool := false
  notReady : Option Nat := none
  toDone : Bool := false
  deriving DecidableEq, Repr, Inhabited

/-- The profile store: the active copies (R231) and the load in progress. -/
structure ProfStore where
  active : SMap (List Word) := []
  load : Option Nat := none
  deriving DecidableEq, Repr, Inhabited

/-- An accepted edge on its way to the tracker (R82): timestamp, ratio, late mark, direction, holdover mark, and the wheel's
previous accepted edge where that was valid. -/
structure WEdge where
  t : Nat := 0
  ratio : Nat := 0
  late : Bool := false
  dir : Bool := false
  hold : Bool := false
  prev : Option Nat := none
  deriving DecidableEq, Repr, Inhabited

/-- A wheel input behind its registers (R73 to R91): the level the glitch filter keeps, the candidate transition and those behind it, the VR peak
average and the present half-wave (both in 2^-16 mV), the open PWDIR pulse, t_last, the holding queue, the block of R87 and whether it has reported, the
commit time of R89. -/
structure Whl where
  kept : Bool := false
  cand : Option Nat := none
  more : List Nat := []
  peak : Nat := 0
  halfPeak : Nat := 0
  lead : Option Nat := none
  width : Option Nat := none
  given : Bool := false
  tLast : Option Nat := none
  q : List WEdge := []
  blkAcc : Nat := 0
  blkNoise : Nat := 0
  blkTold : Bool := false
  commitBy : Option Nat := none
  deriving DecidableEq, Repr, Inhabited

/-- A reverse in progress (R122): travelling backward or turned forward, the next source tooth passes the last one again, edges still
to confirm a provisional declaration, the last raw period with its spacing. -/
structure Rev where
  fwd : Bool := false
  again : Bool := false
  prov : Nat := 0
  per : Option (Nat × Nat) := none
  deriving DecidableEq, Repr, Inhabited

/-- The gap search (R107, R108): primary edges seen, the newest three timestamps, the candidate (edge number, gap tooth, tooth before
it), the last confirmed gap's edge number, the table positions that still match, gaps confirmed at a unique position. -/
structure GapS where
  n : Nat := 0
  ts : List Nat := []
  cand : Option (Nat × Nat × Nat) := none
  prev : Option Nat := none
  pos : List Nat := []
  uniq : Nat := 0
  told : Bool := false
  deriving DecidableEq, Repr, Inhabited

/-- A tracker behind its registers (R99 to R124): the copies of the tables, per role (0 primary, 1 redundant, 2 to 4 cams) the known
table index, the predicted period and the last accepted edge, the shadow tracker, source-tooth times, the gap search, phase, cam-loss
and redundant-check counts along the travelled angle, reverse, the stall's held state and resumption, the count of R121, an upset
the next tooth meets, and the dune entry a parity error is found in (R152). -/
structure Ang where
  tabs : Vector (List Nat) 5 := Vector.replicate 5 []
  cmdAct : Bool := false
  ratio1 : Option Nat := none
  ratio2 : Option Nat := none
  shTabs : Vector (List Nat) 5 := Vector.replicate 5 []
  shIdx : Nat := 0
  shTh : Nat := 0
  idx : Vector (Option Nat) 5 := Vector.replicate 5 none
  per : Vector (Option (Nat × Nat)) 5 := Vector.replicate 5 none
  last : Vector (Option (Nat × Bool)) 5 := Vector.replicate 5 none
  tAny : Nat := 0
  tSrc : Option Nat := none
  dSrc : Option Nat := none
  gs : GapS := {}
  run : Nat := 0
  phaseAt : Nat := 0
  phaseTold : Bool := false
  camAt : Vector Nat 3 := Vector.replicate 3 0
  camLost : Vector Bool 3 := Vector.replicate 3 false
  redSeen : Bool := false
  redCyc : Option Nat := none
  rev : Option Rev := none
  held : Nat := 0
  rsIdx : Nat := 0
  rsT : Option Nat := none
  rsD : Option Nat := none
  rsFit : Nat := 0
  fwdLeft : Nat := 0
  lrnMax : Nat := 0
  lrnAny : Bool := false
  upShadow : Bool := false
  upPar : Nat := 0
  parIdx : Option Nat := none
  deriving DecidableEq, Repr, Inhabited

/-- Boot, shutdown and the late exit from SERVICE (R472, R478 to R481): `shut` 0 no shutdown in progress, 1 draining, 2 dropped; an update
activation in progress; PORn; why the die was last returned to power-on (none: first supply); boot running; core
supply good holds. -/
structure Sys where
  shut : Nat := 0
  shutBy : Nat := 0
  svcExit : Bool := false
  act : Bool := false
  porn : Bool := true
  por : Option Nat := none
  booting : Bool := false
  good : Bool := false
  deriving DecidableEq, Repr, Inhabited

/-- A pin engine behind its registers (R340 to R355): output latches and, by TAP pin, the directions and levels in force; when the latches
or the pin mapping next take effect; the next step time and its step number; the latest capture; a halt asked for (step and cause) and the
DSYNC time to go on; the last sample of the input pin with its step time; the data registers. -/
structure Pio where
  lvl : BitVec 8 := 0
  dir : BitVec 8 := 0
  dirs : Word := 0
  lvls : Word := 0
  outAt : Option Nat := none
  next : Nat := 0
  sc : Nat := 0
  scap : Word := 0
  halt : Option (Nat × Nat) := none
  go : Option Nat := none
  smp : Option (Nat × Bool) := none
  tx : Word := 0
  rx : Word := 0
  deriving DecidableEq, Repr, Inhabited

/-- A timer channel behind its registers (R322 to R333): the start tick asked for, with the ticks from it to the first wrap of a
group member, and one asked for after that tick was decided; the next reference tick; a decision already taken (R324: the period buffer,
compare preload and forced wrap it saw); forced wrap and stop pending; an immediate compare that acts after the decided tick. Ticks stand as
the count their reference edge implies (R565). -/
structure Tmr where
  startAt : Option Nat := none
  ofs : Nat := 0
  after : Option Nat := none
  next : Option Nat := none
  dec : Option (Word × Word × Bool) := none
  fw : Bool := false
  stop : Bool := false
  imm : Option Word := none
  deriving DecidableEq, Repr, Inhabited

/-- A frame on its way out of a link (R400, R403, R404): LINK or TRANSPORT, its body words, and once in the replay buffer its number,
retries, the time it was sent, whether it was sent again, whether it waits for credit to be, and its symbols as first sent. -/
structure Frame where
  link : Bool := true
  body : List Word := []
  seq : Nat := 0
  retries : Nat := 0
  sent : Nat := 0
  again : Bool := false
  wait : Bool := false
  syms : List (BitVec 18) := []
  deriving DecidableEq, Repr, Inhabited

/-- A received beacon whose tag has not arrived (R429): the time of its B0, the followers it was delivered to, the ports it left by with
the time of B0 there; `dead` once it has failed by VTO, `orphan` when its link has gone down since. -/
structure BRx where
  at0 : Nat := 0
  doms : List Nat := []
  fwd : List (Nat × Nat) := []
  dead : Bool := false
  orphan : Bool := false
  deriving DecidableEq, Repr, Inhabited

/-- A beacon sent whose tag waits (R429): the time of its B0, its symbols, and the tag: 0 not to be sent yet, 1 correct, 2 inverted. -/
structure BTx where
  at0 : Nat := 0
  b0 : BitVec 16 := 0
  b1 : BitVec 16 := 0
  b2 : BitVec 16 := 0
  tag : Nat := 0
  deriving DecidableEq, Repr, Inhabited

/-- A sequence of symbols that a link inserts (R399): a beacon, the response to an echo request that came at `t2`, an echo request, an ACK, a
NACK, a CREDIT. -/
inductive Ins where
  | beacon (b0 b1 b2 : BitVec 16)
  | echoRsp (t2 : Nat)
  | echoReq (k : Nat)
  | ack (seq : Nat)
  | nack (seq : Nat)
  | credit (k : Nat)
  deriving DecidableEq, Repr, Inhabited

/-- The transmitter of a link at the symbols (R398, R399): the sequences that wait, oldest first; the rest of the one under way; the frames to
go out, the first perhaps begun; the symbol on the wire; the time up to which its boundaries have passed. -/
structure Tx where
  wait : List Ins := []
  line : List (BitVec 18) := []
  frames : List (List (BitVec 18)) := []
  sym : BitVec 18 := 0x1005A
  upTo : Nat := 0
  deriving DecidableEq, Repr, Inhabited

/-- A link behind its registers (R397 to R407, R425, R429): the peer's rate and the rate agreed; the end of BACKOFF; credits, numbers,
frames waiting and unacknowledged; the expected number and whether a NACK stands; frame and beacon counters; beacons whose tag waits to
be sent; received beacons without their tag; echoes: the request out, how many were
sent since UP, when the next is due, the latest samples (twice the latency); the transmitter; how often it has begun to be UP. -/
structure Nl where
  peerRate : Option Nat := none
  rate : Nat := 0
  switched : Bool := false
  bad : Nat := 0
  backEnd : Nat := 0
  credits : Nat := 16
  txSeq : Nat := 0
  q : List Frame := []
  replay : List Frame := []
  rxExp : Nat := 0
  nacked : Bool := false
  fcntTx : Nat := 0
  fcntRx : Nat := 0
  bcntTx : Nat := 0
  bcntRx : Nat := 0
  tags : List BTx := []
  rxTags : List BRx := []
  echoOut : Option Nat := none
  echoN : Nat := 0
  echoNext : Nat := 0
  smp : List Nat := []
  tx : Tx := {}
  sess : Nat := 0
  deriving DecidableEq, Repr, Inhabited

/-- What a neighbour advertises (R409, R410). -/
structure Nbr where
  uid : Nat := 0
  root : Nat := 0
  dist : Nat := 0
  epoch : Nat := 0
  addr : Nat := 0
  deriving DecidableEq, Repr, Inhabited

/-- A message in flight (R415, R418, R419, R421): its FTX ring, or 4 and the interrupt source of an INTR; destination, class, number;
when it was taken; its deadline, an open pause and the pauses so far. -/
structure FabMsg where
  ring : Nat := 0
  src : Nat := 0
  dst : Nat := 0
  cls : Nat := 0
  seq : Nat := 0
  at0 : Nat := 0
  deadline : Nat := 0
  hold : Option Nat := none
  paused : Nat := 0
  nent : Nat := 1
  cnt : Nat := 0
  deriving DecidableEq, Repr, Inhabited

/-- A receive window of R416: the highest SEQ accepted and the distances below it already marked, 0 for itself. -/
structure RxWin where
  hi : Nat := 0
  marks : List Nat := []
  deriving DecidableEq, Repr, Inhabited

/-- The fabric node behind its registers (R408 to R421): neighbours by port, adopted root, distance, parent port, highest epoch heard,
when the advertisement last changed, the epoch of the last ASSIGN; at a root the TOPOs held and when the last came; the port of each UID's
TOPO; messages in flight, numbers by destination, windows by source (256 added for broadcast), responses kept for duplicates. -/
structure Fab where
  nbr : Vector (Option Nbr) 4 := Vector.replicate 4 none
  root : Option Nat := none
  dist : Nat := 0
  parent : Option Nat := none
  maxEpoch : Nat := 0
  advAt : Nat := 0
  gotEpoch : Option Nat := none
  topo : List (Nat × List Word) := []
  topoAt : Nat := 0
  collecting : Bool := false
  via : List (Nat × Nat) := []
  msgs : List FabMsg := []
  seqTx : SMap Nat := []
  rxWin : SMap RxWin := []
  resp : List (Nat × Frame) := []
  deriving DecidableEq, Repr, Inhabited

/-- The beacon block behind its registers (R422, R426, R427): the latest 32 SEQ accepted of each fabric domain, the origin's counts, the
last accepted beacon edge of each follower role. -/
structure Beac where
  seen : Vector (List Nat) 4 := Vector.replicate 4 []
  txSeq : Vector Nat 4 := Vector.replicate 4 0
  last : SMap (Option Nat) := []
  deriving DecidableEq, Repr, Inhabited

/-- SEC behind its registers (R490, R513): a challenge is valid; the random generator fails its health test. -/
structure Sec where
  chal : Bool := false
  rngBad : Bool := false
  deriving DecidableEq, Repr, Inhabited

/-- UPD behind its registers: the time `UPD_MOVE` counts from; slots A and B of each kind (0 EMPTY, 1 written and not known invalid, 2 invalid);
the activation in progress: a REVERT, and TRIAL at its acceptance (R499, R500, R502, R507). -/
structure Upd where
  moveAt : Nat := 0
  slots : Vector (Nat × Nat) 4 := #v[(1, 0), (0, 0), (0, 0), (0, 0)]
  rev : Bool := false
  trial : Bool := false
  deriving DecidableEq, Repr, Inhabited

/-- MRAMC behind its registers: the word write and the append in progress, the block write counts, wear reported (R509, R511, R512). -/
structure Mramc where
  wr : Option (Nat × Word × Word) := none
  app : Option (List Word) := none
  wear : SMap Nat := []
  told : Bool := false
  deriving DecidableEq, Repr, Inhabited

/-- The Oasis domain behind its registers: writes that wait for their transfer (W1C bits, and the value of `RTC_SET`), the accumulator of R521
and what the next cycle counts, tick count, consecutive samples and reported conditions of the inputs, TCNT at the last tick, sampling stopped
for VBAT, VBAT below 2.40 V, the lowest VBAT, whether the last Oasis start has been reported, reports held while VDDC is off, the standstill comparator's
output (R94) (R517 to R536). -/
structure Oasis where
  buf : SMap Word := []
  acc : Int := 0
  corr : Nat := 1
  tick : Nat := 0
  cons : Vector Nat 8 := Vector.replicate 8 0
  seen : Vector Bool 8 := Vector.replicate 8 false
  prevT : Nat := 0
  halted : Bool := false
  low240 : Bool := false
  lowest : Option Nat := none
  lostTold : Bool := false
  rep : List (Nat × Nat) := []
  sscLvl : Bool := false
  deriving DecidableEq, Repr, Inhabited

/-- The JTAG port (R555 to R557): the instruction, the one in control of the pins (0 none, 1 EXTEST, 2 CLAMP, 3 HIGHZ), the boundary register as captured and as updated (cell i as listed from TDI is bit i),
the word the selected data register shifts out. -/
structure Jtag where
  ir : Nat := 1
  ctl : Nat := 0
  cap : BitVec 218 := 0
  upd : BitVec 218 := 0
  out : Word := 0x148961E3
  deriving DecidableEq, Repr, Inhabited

/-- The debug module (R393): its registers as External Debug Support 0.13.2 names them. -/
structure Dm where
  active : Bool := false
  hartsel : Nat := 0
  resumeack : Vector Bool 3 := Vector.replicate 3 false
  data0 : Word := 0
  progbuf : Vector Word 8 := Vector.replicate 8 0
  cmderr : Nat := 0
  sbaddr : Word := 0
  sbdata : Word := 0
  sbreadonaddr : Bool := false
  sbautoinc : Bool := false
  sbreadondata : Bool := false
  sberror : Nat := 0
  deriving DecidableEq, Repr, Inhabited

/-- What the device answers: the word last read by a command that reads a register and how the last access ended (0 done, 1 denied, 2 no such
address, 3 restarting), and the last response of the host port: status word, data words and their CRC (R63, R69). -/
structure Port where
  rdata : Word := 0
  res : Nat := 0
  status : Word := 0
  data : List Word := []
  crc : BitVec 16 := 0
  deriving DecidableEq, Repr, Inhabited

/-- The device: the register file and the chapters' own state. -/
structure Dev where
  regs : SMap Word := []
  shadow : SMap Word := []
  latches : SMap Word := []
  mem : SMap Byte := []
  freeCtr : Nat := 0
  port : Port := {}
  supply : Supply := {}
  fcol : Fcol := {}
  harts : Vector Hart 3 := Vector.replicate 3 {}
  intc : Intc := {}
  mons : Vector Mon 16 := Vector.replicate 16 {}
  trig : TrigM := {}
  chans : Vector Chan 104 := Vector.replicate 104 {}
  taps : Taps := {}
  igns : Vector Ign 24 := Vector.replicate 24 {}
  soft : Soft := {}
  whls : Vector Whl 8 := Vector.replicate 8 {}
  sys : Sys := {}
  angs : Vector Ang 2 := Vector.replicate 2 {}
  preds : Vector Pred 2 := Vector.replicate 2 {}
  carv : Carv := {}
  drvs : Vector Drv 48 := Vector.replicate 48 {}
  banks : Vector Bank 12 := Vector.replicate 12 {}
  bsts : Vector Bst 2 := Vector.replicate 2 {}
  prof : ProfStore := {}
  trimQ : List (Nat × Int) := []
  cyls : Vector Cyl 24 := Vector.replicate 24 {}
  adcs : Vector Adc 8 := Vector.replicate 8 {}
  runs : Vector Run 32 := Vector.replicate 32 {}
  knk : Knk := {}
  nls : Vector Nl 4 := Vector.replicate 4 {}
  fab : Fab := {}
  beac : Beac := {}
  sec : Sec := {}
  upd : Upd := {}
  mramc : Mramc := {}
  oasis : Oasis := {}
  jtag : Jtag := {}
  dm : Dm := {}
  tmrs : Vector Tmr 32 := Vector.replicate 32 {}
  pio : Vector Pio 8 := Vector.replicate 8 {}
  deriving DecidableEq, Repr, Inhabited

/-- What stops the block, with the state before. No command ends in a fault: the manual gives every one an effect, so nothing raises `never`
(safe: nothing is stopped that the device would do). -/
inductive Fault where
  | never
  deriving DecidableEq, Repr

/-- What the model turns away. `notModelled` stands for a command without a meaning; the dispatch raises it, in the arm of such a command only
(safe: the device would go on). -/
inductive Refusal where
  | notModelled (mnemonic : String)
  deriving DecidableEq, Repr

/-- The block: the commands that wait, first in first out, the timebase count of the present handshake, and the device. -/
structure State where
  pending : List Instr := []
  now : Nat := 0
  dev : Dev := {}
  deriving DecidableEq, Repr

/-- The device at power-on, before core supply good (R477, R478): every register at its reset value (the register file lists what differs),
IGNSOFT high (R477), the lifecycle state a shipped device has (R483), no command waiting, and the count at 0 (R27). -/
def Dev.reset : Dev := { regs := [(0x40004040, 1)], soft := { hold := true } }
def State.reset : State := { dev := Dev.reset }

end Sys2Proof.Machine
end

