-- ==== Sys2Proof/Machine/Ops.lean ====
section
/-!
DEFINITION. Machine/Ops.lean: the named operations over the register file, the memory windows, interrupt requests, fault reports,
rings, monitors and cores that every block shares.
-/

namespace Sys2Proof.Machine

/-! ## Sparse maps in canonical form -/

def smGet {α : Type} : SMap α → Nat → Option α
  | [], _ => none
  | (a, x) :: r, k => if k = a then some x else smGet r k

def smIns {α : Type} : SMap α → Nat → α → SMap α
  | [], k, v => [(k, v)]
  | (a, x) :: r, k, v => if k < a then (k, v) :: (a, x) :: r else if k = a then (k, v) :: r else (a, x) :: smIns r k v

def smDel {α : Type} : SMap α → Nat → SMap α
  | [], _ => []
  | (a, x) :: r, k => if k = a then smDel r k else (a, x) :: smDel r k

/-- Write `v` under `k`, where an unlisted `k` stands for `dflt`. -/
def smPut {α : Type} [DecidableEq α] (m : SMap α) (k : Nat) (v dflt : α) : SMap α :=
  if v = dflt then smDel m k else smIns m k v

/-- Keys strictly rising. -/
def smSorted {α : Type} : SMap α → Bool
  | [] => true
  | [_] => true
  | (a, _) :: (b, y) :: r => decide (a < b) && smSorted ((b, y) :: r)

/-- The canonical form: keys strictly rising and no entry equal to what its key reads as when unlisted. -/
def smWf {α : Type} [DecidableEq α] (m : SMap α) (dflt : Nat → α) : Bool :=
  smSorted m && m.all (fun e => !decide (e.2 = dflt e.1))

/-- Read of a numbered unit whose unlisted value is `dflt`. -/
def smGetD {α : Type} (m : SMap α) (k : Nat) (dflt : α) : α := (smGet m k).getD dflt

/-! ## Vectors of like units -/

/-- The unit `i`; a number past the end reads as the default. -/
def vGet {α : Type} [Inhabited α] {n : Nat} (v : Vector α n) (i : Nat) : α := v[i]?.getD default
def vSet {α : Type} {n : Nat} (v : Vector α n) (i : Nat) (x : α) : Vector α n := v.setIfInBounds i x

/-! ## Words and fields -/

/-- Bits [hi:lo] of a word. -/
def wordGet (w : Word) (hi lo : Nat) : Nat := (w >>> lo).toNat % 2 ^ (hi + 1 - lo)

/-- Bits [hi:lo] of a word replaced by the low bits of `v`. -/
def wordSet (w : Word) (hi lo v : Nat) : Word :=
  (w &&& ~~~(BitVec.ofNat 32 (2 ^ (hi + 1 - lo) - 1) <<< lo)) ||| (BitVec.ofNat 32 (v % 2 ^ (hi + 1 - lo)) <<< lo)

/-- Two's complement reading of the low `n` bits. -/
def signedOf (v n : Nat) : Int := if v % 2 ^ n < 2 ^ (n - 1) then (v % 2 ^ n : Nat) else (v % 2 ^ n : Nat) - (2 ^ n : Nat)

/-- The low `n` bits of an integer in two's complement. -/
def bitsOf (i : Int) (n : Nat) : Nat := (i % (2 ^ n : Nat)).toNat

def w32 (n : Nat) : Word := BitVec.ofNat 32 n
def lo32 (n : Nat) : Word := BitVec.ofNat 32 n
def hi32 (n : Nat) : Word := BitVec.ofNat 32 (n / 2 ^ 32)

/-- Clamp to a range. -/
def clampN (v a b : Nat) : Nat := if v < a then a else if b < v then b else v
def clampI (v a b : Int) : Int := if v < a then a else if b < v then b else v

/-- Floor of a quotient of integers, 0 for a divisor 0. -/
def floorDiv (a b : Int) : Int := Int.fdiv a b

/-- Round half up: floor((2a + b) / 2b). -/
def roundDiv (a b : Int) : Int := Int.fdiv (2 * a + b) (2 * b)

/-! ## The register file (R40, R46) -/

def Dev.reg (d : Dev) (a : Nat) : Word := (smGet d.regs a).getD (resetWord a)
def Dev.setReg (d : Dev) (a : Nat) (w : Word) : Dev := { d with regs := smPut d.regs a w (resetWord a) }
def Dev.get (d : Dev) (f : Fld) : Nat := wordGet (d.reg f.addr) f.hi f.lo
def Dev.set (d : Dev) (f : Fld) (v : Nat) : Dev := d.setReg f.addr (wordSet (d.reg f.addr) f.hi f.lo v)
def Dev.flag (d : Dev) (f : Fld) : Bool := d.get f != 0
def Dev.put (d : Dev) (f : Fld) (b : Bool) : Dev := d.set f b.toNat
def Dev.gets (d : Dev) (f : Fld) : Int := signedOf (d.get f) (f.hi + 1 - f.lo)
def Dev.setI (d : Dev) (f : Fld) (i : Int) : Dev := d.set f (bitsOf i (f.hi + 1 - f.lo))
/-- A counter that wraps. -/
def Dev.inc (d : Dev) (f : Fld) : Dev := d.set f (d.get f + 1)
/-- A counter that saturates at its all-ones value. -/
def Dev.incSat (d : Dev) (f : Fld) : Dev := if d.get f + 1 < 2 ^ (f.hi + 1 - f.lo) then d.set f (d.get f + 1) else d
def Dev.addSat (d : Dev) (f : Fld) (n : Nat) : Dev := d.set f (min (d.get f + n) (2 ^ (f.hi + 1 - f.lo) - 1))
/-- A 64-bit value in a LO and a HI register. -/
def Dev.setLH (d : Dev) (lo hi v : Nat) : Dev := (d.setReg lo (lo32 v)).setReg hi (hi32 v)
def Dev.getLH (d : Dev) (lo hi : Nat) : Nat := (d.reg lo).toNat + 2 ^ 32 * (d.reg hi).toNat

/-- The word a shadowed register acts with: the word as it stood at the last commit point while a write is pending (R59). -/
def Dev.committed (d : Dev) (a : Nat) : Word := (smGet d.shadow a).getD (d.reg a)
def Dev.eff (d : Dev) (f : Fld) : Nat := wordGet (d.committed f.addr) f.hi f.lo
def Dev.effB (d : Dev) (f : Fld) : Bool := d.eff f != 0

def Dev.bumpGen (d : Dev) (pg : Nat) : Dev := d.setReg (R.PGEN pg) (d.reg (R.PGEN pg) + 1)

/-- The bits of the RWS fields of a row. -/
def rwsMaskOf : List FRow → Word
  | [] => 0
  | f :: r => (if f.acc = .rws then BitVec.ofNat 32 (2 ^ (f.hi + 1 - f.lo) - 1) <<< f.lo else 0) ||| rwsMaskOf r

def rwsMask (a : Nat) : Word :=
  match pageInfo (pageOf a) with
  | none => 0
  | some (b, p) => match rowAt b p (a % 0x1000) with
    | none => 0
    | some (r, _) => rwsMaskOf r.fields

/-- A commit point of the shadow entries `sel` picks (R59, R60): they take effect together; the page's generation counts the commit
when a field takes a new value (R58). -/
def Dev.commitSel (d : Dev) (pg : Nat) (sel : Nat → Bool) : Dev :=
  if d.flag (F.PCTL_SHDW_HOLD pg) then d
  else
    let mine : Nat × Word → Bool := fun e => pageOf e.1 == pg && sel e.1
    let changed := d.shadow.any (fun e => mine e && decide ((e.2 ^^^ d.reg e.1) &&& rwsMask e.1 ≠ 0))
    let d' : Dev := { d with shadow := d.shadow.filter (fun e => !mine e) }
    if changed then d'.bumpGen pg else d'

def Dev.commit (d : Dev) (pg : Nat) : Dev := d.commitSel pg (fun _ => true)

/-- A free value: the manual leaves a result open; the model says nothing of it (notes/assumptions/2.md). -/
def Dev.fresh (d : Dev) : Nat := Config.freeValue d.freeCtr
def Dev.tickFree (d : Dev) : Dev := { d with freeCtr := d.freeCtr + 1 }

/-- A free value below `n`; while VDDC is below 0.72 V the manual's figures in nanoseconds do not hold (R21), and nothing bounds it. -/
def Dev.freeBelow (d : Dev) (n : Nat) : Nat := if d.supply.under then d.fresh else d.fresh % n
/-- A time three stages after `t`: a stage is of a length the manual bounds by 0.45 ns and 1.62 ns (17.28 and 62.2 tu for three); a free
value picks it inside that. -/
def Dev.threeStages (d : Dev) (t : Nat) : Nat := t + 17 + d.freeBelow 47
/-- The instant P_SETUP after `t` (R32): between 8 ns and 30 ns, by a free value. -/
def Dev.afterSetup (d : Dev) (t : Nat) : Nat := t + 102 + d.freeBelow 283

/-! ## Reference edges (R26, R565)

Edges stand at the multiples of 512 of the count, in holdover too. While the count slews they stand 480 counted tu apart from the edge of the
relock, until what they imply has caught up. -/

/-- The count at the relock that began the present slew, and the count its edge implies. -/
def Dev.slewFrom (d : Dev) : Nat × Nat :=
  if d.flag F.TB_STAT_SLEW then (d.supply.slewAt, d.supply.slewAt - (d.reg R.TB_SLEW).toNat) else (0, 0)
/-- The count at edge k. -/
def Dev.edgeCount (d : Dev) (k : Nat) : Nat := max (d.slewFrom.1 + 480 * k) (d.slewFrom.2 + 512 * k)
/-- The first edge at or after the count t. -/
def Dev.edgeNo (d : Dev) (t : Nat) : Nat := min ((t - d.slewFrom.1 + 479) / 480) ((t - d.slewFrom.2 + 511) / 512)
/-- The count at the first reference edge at or after t. -/
def Dev.edgeFrom (d : Dev) (t : Nat) : Nat := d.edgeCount (d.edgeNo t)
/-- What the nth reference edge after t implies, a multiple of 512, for what goes on counting edges from there. -/
def Dev.gridAfter (d : Dev) (t n : Nat) : Nat := d.slewFrom.2 + 512 * (d.edgeNo (t + 1) + (n - 1))
/-- The count at the nth reference edge after t. -/
def Dev.edgeAfter (d : Dev) (t n : Nat) : Nat := d.edgeCount (d.edgeNo (t + 1) + (n - 1))

/-! ## Latches that belong to the reading initiator (R29 and the rules like it) -/

def Initiator.code : Initiator → Nat
  | .sup => 0 | .app0 => 1 | .app1 => 2 | .host => 3 | .fab => 4

def latchKey (who : Initiator) (a : Nat) : Nat := who.code * 0x100000000 + a
def Dev.latch (d : Dev) (who : Initiator) (a : Nat) : Word := (smGet d.latches (latchKey who a)).getD (resetWord a)
def Dev.setLatch (d : Dev) (who : Initiator) (a : Nat) (w : Word) : Dev :=
  { d with latches := smPut d.latches (latchKey who a) w (resetWord a) }
def Dev.setLatches (d : Dev) (who : Initiator) (l : List (Nat × Word)) : Dev :=
  l.foldl (fun d e => d.setLatch who e.1 e.2) d

/-! ## Memory windows (R43, R44): bytes, little-endian words -/

/-- What a byte of memory that nothing has written reads as: 0, except that a dune entry (R145) reads as ratio 1.0 with valid
parity, in step with the reset value of `PRED_NORM`. -/
def memReset (a : Nat) : Byte := if 0x41008000 ≤ a ∧ a < 0x4100A000 ∧ a % 4 = 3 then 0x80 else 0

/-- The canonical form of the memory: addresses strictly rising, no entry equal to what its address reads as when unlisted. -/
def Memory.wf (m : SMap Byte) : Bool := smWf m memReset

def Dev.byte (d : Dev) (a : Nat) : Byte := (smGet d.mem a).getD (memReset a)
def Dev.setByte (d : Dev) (a : Nat) (b : Byte) : Dev := { d with mem := smPut d.mem a b (memReset a) }
def Dev.word (d : Dev) (a : Nat) : Word := d.byte (a + 3) ++ d.byte (a + 2) ++ d.byte (a + 1) ++ d.byte a
def Dev.setWord (d : Dev) (a : Nat) (w : Word) : Dev :=
  (((d.setByte a (w.extractLsb' 0 8)).setByte (a + 1) (w.extractLsb' 8 8)).setByte (a + 2) (w.extractLsb' 16 8)).setByte
    (a + 3) (w.extractLsb' 24 8)
def Dev.setWords (d : Dev) (a : Nat) : List Word → Dev
  | [] => d
  | w :: r => (d.setWord a w).setWords (a + 4) r
def Dev.words (d : Dev) (a : Nat) : Nat → List Word
  | 0 => []
  | n + 1 => d.word a :: d.words (a + 4) n
def Dev.bytes (d : Dev) (a : Nat) : Nat → List Byte
  | 0 => []
  | n + 1 => d.byte a :: d.bytes (a + 1) n
def Dev.setBytes (d : Dev) (a : Nat) : List Byte → Dev
  | [] => d
  | b :: r => (d.setByte a b).setBytes (a + 1) r

/-! ## Cores -/

def Dev.hart (d : Dev) (h : Nat) : Hart := vGet d.harts h
def Dev.setHart (d : Dev) (h : Nat) (x : Hart) : Dev := { d with harts := vSet d.harts h x }

def Hart.csrGet (h : Hart) (n : Nat) : Word := smGetD h.csr n 0
def Hart.csrSet (h : Hart) (n : Nat) (v : Word) : Hart := { h with csr := smPut h.csr n v 0 }
/-- `mstatus.MIE`. -/
def Hart.mie (h : Hart) : Bool := wordGet (h.csrGet 0x300) 3 3 != 0
/-- The `mstatus` part of a trap entry: MPIE := MIE, MIE := 0, MPP := the previous privilege. -/
def Hart.trapStatus (h : Hart) : Hart :=
  let m := h.csrGet 0x300
  let m1 := wordSet m 7 7 (wordGet m 3 3)
  let m2 := wordSet m1 3 3 0
  { h.csrSet 0x300 (wordSet m2 12 11 h.priv) with priv := 3, resv := none, wfi := false }

/-- A core's access fault (R42, R43, R56): the trap the privileged specification gives, with cause 5 for a load and 7 for a
store; `mtvec` governs it (R383). -/
def Hart.accessFault (h : Hart) (store : Bool) (a : Nat) : Hart :=
  let h1 := ((h.csrSet 0x341 h.pc).csrSet 0x342 (if store then 7 else 5)).csrSet 0x343 (w32 a)
  { h1.trapStatus with pc := h.csrGet 0x305 &&& ~~~3#32 }

def Dev.coreFault (d : Dev) (who : Initiator) (store : Bool) (a : Nat) : Dev :=
  match who with
  | .sup => d.setHart 0 ((d.hart 0).accessFault store a)
  | .app0 => d.setHart 1 ((d.hart 1).accessFault store a)
  | .app1 => d.setHart 2 ((d.hart 2).accessFault store a)
  | _ => d

/-- The hart leaves debug mode: it goes on at `dpc` with the privilege of `dcsr`. -/
def Hart.resumed (x : Hart) : Hart :=
  { x with halted := false, pc := x.csrGet 0x7B1, priv := if wordGet (x.csrGet 0x7B0) 1 0 = 0 then 0 else 3 }

/-- A write by `who` to the aligned 32-byte block of `a` takes every other core's reservation on it (R364). -/
def Dev.breakResv (d : Dev) (a : Nat) : Dev :=
  { d with harts := d.harts.map (fun h => if h.resv = some (a / 32) then { h with resv := none } else h) }

/-! ## Interrupt requests (R53, R376, R379 to R389) -/

def Dev.ringEn (d : Dev) (r : Nat) : Bool := d.flag (F.RING_CFG_EN r)
def Dev.ringN (d : Dev) (r : Nat) : Nat := 2 ^ d.get (F.RING_CFG_SIZE_LOG2 r)
/-- Fill (R373): HEAD − TAIL modulo 2^16. -/
def Dev.ringFill (d : Dev) (r : Nat) : Nat := (d.get (F.RING_HEAD_HEAD r) + 65536 - d.get (F.RING_TAIL_TAIL r)) % 65536
/-- R373: a device-produced ring. -/
def ringDevice (r : Nat) : Bool := (decide (8 ≤ r) && decide (r < 16)) || decide (20 ≤ r)
/-- R373: entry size in bytes. -/
def ringEntry (r : Nat) : Nat := if r < 8 then 16 else if r < 16 then 32 else if r < 24 then 64 else if r < 28 then 32 else 16
/-- R376: the watermark source of ring r. -/
def Dev.ringWm (d : Dev) (r : Nat) : Bool :=
  let wm := d.get (F.RING_CFG_WM r)
  d.ringEn r && wm != 0 && (if ringDevice r then decide (wm ≤ d.ringFill r) else decide (wm + d.ringFill r ≤ d.ringN r))

/-- R379, R380: is source `s` pending? -/
def Dev.srcPending (d : Dev) (s : Nat) : Bool :=
  if s < 0xE3 then (pageInfo s).isSome && decide (d.reg (R.PIRQ s) &&& d.reg (R.PIEN s) ≠ 0)
  else if 0x100 ≤ s ∧ s < 0x120 then d.ringWm (s - 0x100)
  else d.intc.latched.contains s

/-- R381. -/
def Dev.srcEligible (d : Dev) (s : Nat) : Bool :=
  d.flag (F.INTC_SRC_CFG_ENABLE s) && d.get (F.INTC_SRC_CFG_PRIO s) != 0 && !d.intc.act.contains s && d.srcPending s

/-- The sources with ENABLE at 1 are among the configuration words that differ from reset. -/
def Dev.enabledSrcs (d : Dev) : List Nat :=
  d.regs.filterMap (fun e =>
    if 0x400B1000 ≤ e.1 ∧ e.1 < 0x400B5000 ∧ 0x400 ≤ e.1 % 0x1000 ∧ e.1 % 8 = 0 ∧ wordGet e.2 31 31 = 1
    then some (128 * (e.1 / 0x1000 % 16 - 1) + (e.1 % 0x1000 - 0x400) / 8) else none)

/-- Of the listed sources, the highest priority, the lowest number among equals (R382, R387). -/
def bestOf (prio : Nat → Nat) : List Nat → Option Nat
  | [] => none
  | s :: r => match bestOf prio r with
    | none => some s
    | some b => if prio b < prio s ∨ (prio b = prio s ∧ s < b) then some s else some b

def Dev.prio (d : Dev) (s : Nat) : Nat := d.get (F.INTC_SRC_CFG_PRIO s)
def Dev.target (d : Dev) (s : Nat) : Nat := d.get (F.INTC_SRC_CFG_TARGET s)

/-- R382: the effective threshold of core h. -/
def Dev.effThr (d : Dev) (h : Nat) : Nat :=
  match (d.hart h).levels with
  | [] => d.get (F.CORE_THRESH_BASE h)
  | (_, p) :: _ => max (d.get (F.CORE_THRESH_BASE h)) p

/-- R382: the source the controller would present to core h, the threshold and the core's own enable apart. -/
def Dev.offered (d : Dev) (h : Nat) : Option Nat :=
  bestOf d.prio (d.enabledSrcs.filter (fun s => d.target s == h && decide (d.effThr h < d.prio s) && d.srcEligible s))

def Dev.hartRuns (d : Dev) (h : Nat) : Bool := (d.hart h).running && !(d.hart h).halted

/-- R382: the source presented to core h. -/
def Dev.presentable (d : Dev) (h : Nat) : Option Nat :=
  if d.hartRuns h && ((d.hart h).priv == 0 || (d.hart h).mie) then d.offered h else none

/-- R382, R385: present to core h; a presentation replaced by a higher one while it stands is counted, and a core in WFI resumes. -/
def Dev.present (d : Dev) (h : Nat) : Dev :=
  let new := d.presentable h
  let x := d.hart h
  let replaced := match x.pres, new with
    | some a, some b => decide (a ≠ b) && d.srcEligible a
    | _, _ => false
  let wake := d.hartRuns h && (d.offered h).isSome
  let d1 := d.setHart h { x with pres := new, wfi := x.wfi && !wake }
  if replaced then d1.incSat F.INTC_CNT_REPLACED else d1

/-- R389: sources with target FAB that have become eligible set ACT and wait for their message. -/
def Dev.fabSend (d : Dev) : Dev :=
  let l := d.enabledSrcs.filter (fun s => d.target s == 7 && d.srcEligible s)
  { d with intc := { d.intc with act := d.intc.act ++ l, send := d.intc.send ++ l } }

/-- The controller after any change of a request (R382, R389). -/
def Dev.intcRefresh (d : Dev) : Dev := (((d.present 0).present 1).present 2).fabSend

/-- A hardware setting of interrupt bits of a page (R53). -/
def Dev.irqBits (d : Dev) (pg : Nat) (bits : Word) : Dev :=
  (d.setReg (R.PIRQ pg) (d.reg (R.PIRQ pg) ||| bits)).intcRefresh
def Dev.irq (d : Dev) (pg bit : Nat) : Dev := d.irqBits pg (1#32 <<< bit)

/-! ## Fault reports (R435, R436) -/

def faultWord (src kind cls level detail : Nat) : Word :=
  w32 (detail % 4096 * 0x100000 + level % 4 * 0x40000 + cls % 4 * 0x10000 + kind % 128 * 512 + src % 512)

/-- The page of a source, where it has one (R437). -/
def srcPage (s : Nat) : Option Nat := if s < 0xE3 ∧ (pageInfo s).isSome then some s else none

def Dev.held (d : Dev) (src : Nat) : Nat := (d.fcol.awaiting.filter (fun m => m.src == src)).length

def Dev.sendMsg (d : Dev) (m : FMsg) : Dev :=
  let d1 : Dev := { d with fcol := { d.fcol with awaiting := d.fcol.awaiting ++ [m] } }
  match srcPage m.src with
  | some pg => d1.setReg (R.PFLT pg) (faultWord m.src m.kind m.cls 0 m.detail)
  | none => d1

/-- Send one message; a third at a source whose two places are held is dropped, counted, and described by an FCOL_QDROP message
of source 0x0D0 unless it is that source's own (R436). -/
def Dev.report (d : Dev) (m : FMsg) : Dev :=
  if d.held m.src < 2 then d.sendMsg m
  else
    let d1 := (d.incSat F.FCOL_CNT_C_QDROP).irq P.FCOL 5
    if m.src = 0xD0 then d1
    else if d1.held 0xD0 < 2 then d1.sendMsg { src := 0xD0, kind := 0x63, cls := 1, detail := 0, arg := m.src }
    else (d1.incSat F.FCOL_CNT_C_QDROP).irq P.FCOL 5

/-- A report of the block of page `pg`. -/
def Dev.rep (d : Dev) (pg kind cls : Nat) (detail : Nat := 0) (arg : Nat := 0) : Dev :=
  d.report { src := pg, kind := kind, cls := cls, detail := detail, arg := arg }

/-! ## Monitors (R456 to R461) -/

/-- R462: signed probes. -/
def probeSigned (p : Nat) : Bool := p == 0x02 || p == 0x05

def Dev.mon (d : Dev) (m : Nat) : Mon := vGet d.mons m
def Dev.setMon (d : Dev) (m : Nat) (x : Mon) : Dev := { d with mons := vSet d.mons m x }

/-- R456: saturation of a probe value. -/
def probeSat (p : Nat) (v : Int) : Int :=
  if probeSigned p then clampI v (-0x7FFFFFFF) 0x7FFFFFFF else clampI v 0 0xFFFFFFFF

/-- R457 signed reading of a monitor's word. -/
def monWord (p : Nat) (w : Word) : Int := if probeSigned p then w.toInt else w.toNat

/-- R458. -/
def monBin (v hbase : Int) (shift : Nat) : Nat := (clampI (floorDiv (v - hbase) (2 ^ shift : Nat)) 0 31).toNat

/-- R457, R458: the sample enters the count, the sum, the extremes and its bin. -/
def Dev.monStore (d : Dev) (now m p : Nat) (v : Int) : Dev :=
  let x := d.mon m
  let b := monBin v (monWord p (d.reg (R.MON_HBASE m))) (d.get (F.MON_CFG_SHIFT m))
  d.setMon m { x with cnt := x.cnt + 1, sum := x.sum + v, busyUntil := now,
                      bins := smPut x.bins b (min (smGetD x.bins b 0 + 1) 0xFFFFFFFF) 0,
                      min := some (match x.min with | none => v | some a => if v < a then v else a),
                      max := some (match x.max with | none => v | some a => if a < v then v else a) }

/-- R457: at the last count the monitor is full. -/
def Dev.monFull (d : Dev) (m : Nat) : Dev :=
  if (d.mon m).cnt = 0xFFFFFFFF then (d.put (F.MON_STAT_FULL m) true).irq (P.MON (m / 2)) (2 + m % 2) else d

/-- R461: the limit of monitor m reports once, when LCNT samples lay beyond it. -/
def Dev.monReport (d : Dev) (m : Nat) (v : Int) : Dev :=
  if !(d.mon m).reported && decide (d.get (F.MON_BEYOND_BEYOND m) ≥ d.get (F.MON_LCFG_LCNT m)) then
    ((d.setMon m { d.mon m with reported := true }).irq (P.MON (m / 2)) (m % 2)).rep (P.MON (m / 2)) 0x65
      (d.get (F.MON_LCFG_CLASS m)) (m % 2) (bitsOf v 32)
  else d
def Dev.monLimit (d : Dev) (m p : Nat) (v : Int) : Dev :=
  let lim := monWord p (d.reg (R.MON_LIMIT m))
  if d.flag (F.MON_LCFG_LEN m) && (if d.flag (F.MON_LCFG_DIR m) then decide (v < lim) else decide (lim < v)) then
    (d.incSat (F.MON_BEYOND_BEYOND m)).monReport m v
  else d

/-- R457, R461: one accepted sample at monitor m. -/
def Dev.monTake (d : Dev) (now m p : Nat) (v : Int) : Dev := ((d.monStore now m p v).monFull m).monLimit m p v

/-- R456: a probe value offered to monitor m. A sample within 3 stages of the previous one is missed; how long 3 stages are is
open between 17 and 63 tu, and without bound below the specified supply (R21), so a sample that close is taken or missed by a free value. -/
def Dev.monOne (d : Dev) (now m p sel : Nat) (v : Int) : Dev :=
  if d.flag (F.MON_CFG_EN m) && d.get (F.MON_CFG_PROBE m) == p && d.get (F.MON_CFG_SEL m) == sel
      && !d.flag (F.MON_STAT_FULL m) then
    if (d.mon m).cnt = 0 ∨ ((d.mon m).busyUntil + 63 ≤ now ∧ !d.flag F.SYS_VMON_UNDERSPEC) then d.monTake now m p (probeSat p v)
    else if d.fresh % 2 = 0 then d.tickFree.monTake now m p (probeSat p v)
    else d.tickFree.incSat (F.MON_STAT_MISS m)
  else d

/-- A value at probe `p` for unit `sel` (R462), offered to all sixteen monitors. -/
def Dev.probe (d : Dev) (now p sel : Nat) (v : Int) : Dev :=
  (List.range 16).foldl (fun d m => d.monOne now m p sel v) d

/-! ## Rings in shared SRAM (R373 to R376) -/

/-- R373: the address of the entry with index i. -/
def Dev.ringAddr (d : Dev) (r i : Nat) : Nat := (d.reg (R.RING_BASE r)).toNat + i % d.ringN r * ringEntry r

/-- The device writes one record in full and then advances HEAD (R375); a disabled or full ring takes none (R374). -/
def Dev.ringPush (d : Dev) (now r : Nat) (ws : List Word) : Option Dev :=
  if d.ringEn r && decide (d.ringFill r < d.ringN r) then
    let h := d.get (F.RING_HEAD_HEAD r)
    let d1 := (d.setWords (d.ringAddr r h) ws).inc (F.RING_HEAD_HEAD r)
    some ((d1.intcRefresh).probe now 0x14 r (d1.ringFill r))
  else none

/-- The device advances TAIL of a software-produced ring. -/
def Dev.ringAdvance (d : Dev) (now r : Nat) : Dev :=
  let d1 := d.inc (F.RING_TAIL_TAIL r)
  (d1.intcRefresh).probe now 0x14 r (d1.ringFill r)

/-! ## Pages -/

def Dev.enabled (d : Dev) (pg : Nat) : Bool := d.flag (F.PCTL_ENABLE pg)
def Dev.frozen (d : Dev) (pg : Nat) : Bool := d.flag (F.PCTL_FREEZE pg)
def Dev.restarting (d : Dev) (pg : Nat) : Bool := d.flag (F.PSTAT_RESTARTING pg)
/-- R46 RUNNING: enabled, not frozen and not restarting. -/
def Dev.running (d : Dev) (pg : Nat) : Bool := d.enabled pg && !d.frozen pg && !d.restarting pg

/-- Common fault kinds (R438). -/
def Dev.modeRefused (d : Dev) (pg : Nat) : Dev := d.rep pg 0x01 0
def Dev.cfgRange (d : Dev) (pg : Nat) : Dev := d.rep pg 0x03 0
def Dev.cfgBusy (d : Dev) (pg : Nat) : Dev := d.rep pg 0x04 0

/-- The device mode codes live in `SYS_MODE.MODE`. -/
def Dev.mode (d : Dev) : Nat := d.get F.SYS_MODE_MODE

/-- Outputs inhibited: BOOT, CONFIG, SERVICE (R467), SAFE (R474), SHUTDOWN from its drop on (R481), and the wait of R472. -/
def Dev.inhibited (d : Dev) : Bool :=
  d.mode == 3 || d.mode == 4 || d.mode == 9 || d.mode == 11 || (d.mode == 10 && d.sys.shut != 1)
/-- R481 step 1: no further start edge commits while a shutdown drains. -/
def Dev.startsHeld (d : Dev) : Bool := d.mode == 10 && d.sys.shut == 1

/-- Cycle length L in au by `ANG_CFG.STROKE`. -/
def Dev.cycleLen (d : Dev) (k : Nat) : Nat := if d.get (F.ANG_CFG_STROKE k) = 0 then 754974720 else 377487360
/-- The range the reported angle lies in: the cycle, in PRESYNC one revolution (R131). -/
def Dev.angRange (d : Dev) (k : Nat) : Nat := if d.get (F.ANG_STATE_STATE k) = 2 then 377487360 else d.cycleLen k

/-- Forward distance modulo L. -/
def angDiff (L a b : Nat) : Nat := (a + L - b % L) % L


end Sys2Proof.Machine
end

