-- ==== Sys2Proof/Machine/Trim.lean ====
section
/-!
DEFINITION. Machine/Trim.lean: trim links (R312 to R316, R320): the offset formed from a delivered metric and the updates that wait
for the Caravan's port.
-/

namespace Sys2Proof.Machine

def Dev.sreg (d : Dev) (a : Nat) : Int := (d.reg a).toInt

/-- An update of link n enters the queue to the Caravan's port (R316). -/
def Dev.trimSend (d : Dev) (n : Nat) (ofs : Int) : Dev := ({ d with trimQ := d.trimQ ++ [(n, ofs)] }).irq P.TRIM 0

/-- R312: metric `v` (none: invalid) is delivered to link n. -/
def Dev.linkDeliver (d : Dev) (n : Nat) (v : Option Int) : Dev :=
  let mn := d.sreg (R.TRIM_L_MIN n)
  let mx0 := d.sreg (R.TRIM_L_MAX n)
  let mx := if mx0 < mn then mn else mx0
  match v with
  | some m =>
    let ofs := Rt.round ⟨d.sreg (R.TRIM_L_GAIN n) * (m - d.sreg (R.TRIM_L_TARGET n)), 65536⟩
    let clamped := decide (ofs < mn) || decide (mx < ofs)
    let o := clampI ofs mn mx
    let d1 := (((d.setReg (R.TRIM_L_MVAL n) (w32 (bitsOf m 32))).setReg (R.TRIM_L_OFS n) (w32 (bitsOf o 32))).put
      (F.TRIM_L_STAT_CLAMPED n) clamped).put (F.TRIM_L_STAT_INVAL n) false
    (if clamped then d1.irq P.TRIM 2 else d1).trimSend n o
  | none =>
    let d1 := (d.put (F.TRIM_L_STAT_INVAL n) true).irq P.TRIM 3
    if d.flag (F.TRIM_L_SRC_INVAL n) then ((d1.setReg (R.TRIM_L_OFS n) 0).put (F.TRIM_L_STAT_CLAMPED n) false).trimSend n 0 else d1

/-- R310: metric `met` of cylinder c reaches every enabled link that listens to it; nothing is delivered while TRIM is disabled (R318). -/
def Dev.metricToLinks (d : Dev) (c met : Nat) (v : Option Int) : Dev :=
  if !d.running P.TRIM then d
  else ((List.range 64).filter (fun n => d.flag (F.TRIM_L_SRC_EN n) && d.get (F.TRIM_L_SRC_CYL n) == c
      && d.get (F.TRIM_L_SRC_MET n) == met)).foldl (fun d n => d.linkDeliver n v) d

/-- The present offsets of link n (R313): of the angle and of the duration; 0 when the link is not enabled. -/
def Dev.linkOfs (d : Dev) (n : Nat) : Int × Int :=
  if d.flag (F.TRIM_L_SRC_EN n) then
    let o := d.sreg (R.TRIM_L_OFS n)
    if d.flag (F.TRIM_L_SRC_TGT n) then (0, o) else (o, 0)
  else (0, 0)

/-- TRIM_ZERO (R320): the selected links' offsets become 0 and are sent as updates. -/
def Dev.trimZero (d : Dev) (first : Nat) (mask : Word) : Dev :=
  ((List.range 32).filter (fun i => mask.getLsbD i)).foldl (fun d i =>
    (d.setReg (R.TRIM_L_OFS (first + i)) 0).trimSend (first + i) 0) d

/-- TRIM_CTL.CLR (R320). -/
def Dev.trimClr (d : Dev) : Dev := (List.range 64).foldl (fun d n => d.set (F.TRIM_L_STAT_LATE n) 0) d

/-- TRIM restart (R318): every link disabled with offset 0, sent as an update. -/
def Dev.trimRestart (d : Dev) : Dev :=
  (List.range 64).foldl (fun d n => ((d.put (F.TRIM_L_SRC_EN n) false).setReg (R.TRIM_L_OFS n) 0).trimSend n 0) d

end Sys2Proof.Machine
end

