-- ==== Sys2Proof/Machine/Cmb.lean ====
section
/-!
DEFINITION. Machine/Cmb.lean: combustion analysis (R301 to R311, R318, R319): cylinder descriptors and their validation, pegging,
metrics by exact rational arithmetic over the occurrence's trace, and the combustion records.
-/

namespace Sys2Proof.Machine

/-! ## Descriptors (R279, R301, R302) -/

def runAddr (dom r : Nat) : Nat := 0x41200000 + dom * 0x100 + r * 0x10
def Dev.runW (d : Dev) (dom r i hi lo : Nat) : Nat := wordGet (d.word (runAddr dom r + 4 * i)) hi lo
def Dev.runStart (d : Dev) (dom r : Nat) : Nat := d.runW dom r 0 29 0
def Dev.runStep (d : Dev) (dom r : Nat) : Nat := d.runW dom r 1 22 0
def Dev.runCyl (d : Dev) (dom r : Nat) : Nat := d.runW dom r 2 24 20
def Dev.runCnt (d : Dev) (dom r : Nat) : Nat := d.runW dom r 2 11 0
def Dev.runEn (d : Dev) (dom r : Nat) : Bool := (d.reg (R.SMPL_DOM_RUN dom)).getLsbD r

def cylAddr (c : Nat) : Nat := 0x41201000 + c * 0x20
def Dev.cylW (d : Dev) (c i hi lo : Nat) : Nat := wordGet (d.word (cylAddr c + 4 * i)) hi lo
/-- A signed half word in 1/16°CA, in au. -/
def Dev.cylRel (d : Dev) (c i lo : Nat) : Int := signedOf (d.cylW c i (lo + 15) lo) 16 * 65536
def Dev.cylPeg (d : Dev) (c : Nat) : Nat := d.cylW c 1 5 4
def Dev.cylVtab (d : Dev) (c : Nat) : Nat := d.cylW c 1 2 0
def Dev.cylMfb (d : Dev) (c : Nat) : Bool := d.cylW c 1 6 6 != 0
def Dev.cwA (d : Dev) (c : Nat) : Int := d.cylRel c 6 0
def Dev.cwB (d : Dev) (c : Nat) : Int := d.cylRel c 6 16
def Dev.chk (d : Dev) (c : Nat) : Int := d.cylRel c 7 0
def Dev.pegA (d : Dev) (c : Nat) : Int := d.cylRel c 4 0
def Dev.pegB (d : Dev) (c : Nat) : Int := d.cylRel c 4 16
def Dev.pegLen (d : Dev) (c : Nat) : Int := (d.cylW c 5 11 0 * 65536 : Nat)

/-- R302: the volume at relative angle φ, in mm³. -/
def Dev.volume (d : Dev) (v L : Nat) (phi : Int) : Rt :=
  let x := (phi % (L : Int)).toNat * 2048
  let i := x / L
  let vt := fun j => ((d.word (0x41204000 + v * 0x2000 + 4 * (j % 2048))).toNat : Int)
  (Rt.ofInt (vt i)).add ⟨((x - i * L : Nat) : Int) * (vt (i + 1) - vt i), L⟩

/-- R304: the lowest-numbered enabled run with CYL = c, domain 0 before domain 1. -/
def Dev.cylRun (d : Dev) (c : Nat) : Option (Nat × Nat) :=
  (((List.range 2).flatMap (fun k => (List.range 16).map (fun r => (k, r)))).find? (fun e => d.runEn e.1 e.2 && d.runCyl e.1 e.2 == c))

/-- R303: the first failing condition of cylinder c, 0 when it passes. -/
def Dev.cylCheck (d : Dev) (c : Nat) : Nat :=
  if d.cylW c 0 31 30 ≠ 0 ∨ d.cylW c 1 7 7 ≠ 0 ∨ d.cylW c 1 3 3 ≠ 0 ∨ d.cylW c 5 15 12 ≠ 0 ∨ d.cylPeg c = 3 then 1
  else match d.cylRun c with
  | none => 2
  | some (k, r) =>
    let L := d.cycleLen k
    let half : Int := (L : Int) / 2
    let v := d.cylVtab c
    let pegged := d.cylPeg c != 0
    let poly := d.cylPeg c == 2
    let badExp := fun x => decide (x < 16385) || decide (32767 < x)
    let out := fun x => decide (x < -half) || decide (half ≤ x)
    let outPeg := fun x => decide (x < -half) || decide (half < x + d.pegLen c)
    let a := d.pegA c
    let b := d.pegB c
    let n := d.pegLen c
    if L ≤ d.cylW c 0 29 0 then 3
    else if (d.reg (R.CMB_VD v)) = 0 then 4
    else if badExp (d.cylW c 5 31 16) || (poly && badExp (d.cylW c 1 31 16)) then 5
    else if d.cwB c ≤ d.cwA c ∨ d.chk c < d.cwA c ∨ d.cwB c < d.chk c ∨ out (d.cwA c) ∨ out (d.cwB c) ∨ (pegged ∧ outPeg a)
      ∨ (poly ∧ outPeg b) then 6
    else if (pegged ∧ d.cwA c < a + n) ∨ (poly ∧ d.cwA c < b + n) ∨ (poly ∧ b < a + n)
      ∨ (poly ∧ !(d.volume v L (b + n / 2)).lt (d.volume v L (a + n / 2))) then 7
    else if d.cylMfb c ∧ 32768 < d.get F.CMB_BUF_USED + (((d.cwB c - d.cwA c) / (max (d.runStep k r) 1 : Nat)).toNat + 2) then 8
    else 0

/-! ## The occurrence's geometry and pressures (R304, R305) -/

/-- φ[k] of run (dom, r) for cylinder c. -/
def Dev.phi (d : Dev) (c dom r k : Nat) : Int :=
  let L : Int := d.cycleLen dom
  (((d.runStart dom r : Int) - (d.cylW c 0 29 0 : Int) + L / 2) % L) - L / 2 + (k * d.runStep dom r : Nat)

/-- The nearest sample not missed before k, and from k on. -/
def prevGood (l : List (Option Nat)) : Nat → Option (Nat × Nat)
  | 0 => none
  | k + 1 => match l.getD k none with
    | some v => some (k, v)
    | none => prevGood l k
def nextGood (l : List (Option Nat)) : Nat → Nat → Option (Nat × Nat)
  | 0, _ => none
  | f + 1, k => match l.getD k none with
    | some v => some (k, v)
    | none => nextGood l f (k + 1)

/-- VALUE of sample k, a missed one interpolated (R304). -/
def valueAt (l : List (Option Nat)) (k : Nat) : Rt :=
  match l.getD k none with
  | some v => Rt.ofInt v
  | none => match prevGood l k, nextGood l l.length k with
    | some (a, x), some (b, y) => (Rt.ofInt x).add ⟨((y : Int) - x) * ((k : Int) - a), b - a⟩
    | some (_, x), none => Rt.ofInt x
    | none, some (_, y) => Rt.ofInt y
    | none, none => Rt.ofInt 0

/-- p_raw[k] in Pa. -/
def Dev.pRaw (d : Dev) (c : Nat) (l : List (Option Nat)) (k : Nat) : Rt :=
  ((valueAt l k).mul ⟨(d.word (cylAddr c + 8)).toNat, 65536⟩).add (Rt.ofInt (d.word (cylAddr c + 12)).toInt)

/-- The sample numbers of an occurrence with lo ≤ φ ≤ hi. -/
def Dev.ksIn (d : Dev) (c dom r : Nat) (lo hi : Int) : List Nat :=
  (List.range (d.runCnt dom r + 1)).filter (fun k => decide (lo ≤ d.phi c dom r k) && decide (d.phi c dom r k ≤ hi))

def missedIn (l : List (Option Nat)) (ks : List Nat) : Nat := (ks.filter (fun k => (l.getD k none).isNone)).length

/-- A peg window fails (R305). -/
def pegFails (l : List (Option Nat)) (ks : List Nat) : Bool := ks.isEmpty || decide (ks.length < 2 * missedIn l ks)

def Dev.meanRaw (d : Dev) (c : Nat) (l : List (Option Nat)) (ks : List Nat) : Rt :=
  (Rt.sum (ks.map (d.pRaw c l))).div (Rt.ofInt ks.length)

/-- (m_B V_B^n − m_A V_A^n) / (V_A^n − V_B^n) in fixed point: with u = (V_B / V_A)^n it is (m_B u − m_A) / (1 − u). -/
def polyDelta (mA mB : Rt) (vA vB : Rt) (npeg : Nat) : Int :=
  let lnr := fxLn (vA.n.toNat * vB.d) (vB.n.toNat * vA.d)
  let u := fxExpNeg (Int.fdiv (lnr * npeg) 16384)
  let fa := Int.fdiv (mA.n * fxOne) mA.d
  let fb := Int.fdiv (mB.n * fxOne) mB.d
  let den := fxOne - u
  if den ≤ 0 then 0 else fxDiv (fxMul fb u - fa) den

/-- Δ of the occurrence (R305), its failure, and whether a free value was used: POLY leaves Δ open to within ±1 Pa. -/
def Dev.pegDelta (d : Dev) (c : Nat) (x : Cyl) : (Int × Nat) × Bool × Bool :=
  let a := d.pegA c
  let n := d.pegLen c
  let ka := d.ksIn c x.dom x.run a (a + n - 1)
  let last : (Int × Nat) := (x.lastN, x.lastD)
  match d.cylPeg c with
  | 0 => ((0, 1), false, false)
  | 1 =>
    if pegFails x.trace ka then (last, true, false)
    else
      let m := d.meanRaw c x.trace ka
      let r := (Rt.ofInt (d.reg (if x.dom = 0 then R.CMB_PREF0 else R.CMB_PREF1)).toNat).sub m
      ((r.n, r.d), false, false)
  | _ =>
    let b := d.pegB c
    let kb := d.ksIn c x.dom x.run b (b + n - 1)
    if pegFails x.trace ka || pegFails x.trace kb then (last, true, false)
    else
      let L := d.cycleLen x.dom
      let v := d.cylVtab c
      let e := polyDelta (d.meanRaw c x.trace ka) (d.meanRaw c x.trace kb) (d.volume v L (a + n / 2)) (d.volume v L (b + n / 2))
        (d.cylW c 1 31 16)
      let base := fxRound e 0
      let cand := base + (d.fresh % 3 : Nat) - 1
      let near := decide ((cand * fxOne - e).natAbs ≤ fxOne.natAbs)
      ((if near then cand else base, 1), false, true)

/-! ## Metrics (R307 to R309) -/

/-- What the metric formulas read: pressures and volumes by sample number. -/
structure Trace where
  p : Nat → Rt
  v : Nat → Rt
  phi : Nat → Int

def Dev.traceOf (d : Dev) (c : Nat) (x : Cyl) : Trace :=
  let dl : Rt := match x.delta with
    | some (n, k) => ⟨n, k⟩
    | none => ⟨0, 1⟩
  { p := fun k => (d.pRaw c x.trace k).add dl
    v := fun k => d.volume (d.cylVtab c) (d.cycleLen x.dom) (d.phi c x.dom x.run k)
    phi := d.phi c x.dom x.run }

/-- The first largest of the listed samples by a measure. -/
def argMax (f : Nat → Rt) : List Nat → Option (Nat × Rt)
  | [] => none
  | k :: r => match argMax f r with
    | none => some (k, f k)
    | some (j, y) => if (f k).lt y then some (j, y) else some (k, f k)

/-- (p[i] + p[j]) / 2 × (V[j] − V[i]). -/
def pairWork (t : Trace) (i j : Nat) : Rt := (((t.p i).add (t.p j)).mul ((t.v j).sub (t.v i))).div (Rt.ofInt 2)

/-- The pairs (k − 1, k) of an occurrence of n samples with both samples among `ks`. -/
def pairsIn (ks : List Nat) : List Nat := ks.filter (fun k => decide (0 < k) && ks.contains (k - 1))

/-- Q along the combustion window (R307), in Pa mm³: the listed samples with their cumulated heat. -/
def heatGo (t : Trace) (g : Rt) (prev : Nat) (q : Rt) : List Nat → List (Nat × Rt)
  | [] => []
  | k :: r =>
    let gm := g.sub (Rt.ofInt 1)
    let dq := ((g.div gm).mul (pairWork t prev k)).add
      (((Rt.ofInt 1).div gm).mul ((((t.v prev).add (t.v k)).mul ((t.p k).sub (t.p prev))).div (Rt.ofInt 2)))
    let q' := q.add dq
    (k, q') :: heatGo t g k q' r
def heat (t : Trace) (g : Rt) : List Nat → List (Nat × Rt)
  | [] => []
  | k :: r => (k, Rt.ofInt 0) :: heatGo t g k (Rt.ofInt 0) r

/-- Saturation of a result to its 32-bit signed field (R311). -/
def sat32 (i : Int) : Int := clampI i (-0x80000000) 0x7FFFFFFF

/-- MFBx: the angle at which Q first reaches x% of QTOT. -/
def mfbAngle (t : Trace) (step : Nat) (qs : List (Nat × Rt)) (qtot : Rt) (x : Nat) : Option Int :=
  let lim := qtot.mul ⟨x, 100⟩
  match qs with
  | [] => none
  | (k0, q0) :: _ =>
    if lim.le q0 then some (t.phi k0)
    else match (qs.zip (qs.drop 1)).find? (fun e => lim.le e.2.2) with
      | some ((a, qa), (_, qb)) =>
        some (((Rt.ofInt (t.phi a)).add ((Rt.ofInt step).mul ((lim.sub qa).div (qb.sub qa)))).round)
      | none => none

/-- Whether the occurrence holds a sample within one STEP after a window's start and one within one STEP before its end, and the
window at most MISS_MAX missed samples (R308). -/
def Dev.windowOk (d : Dev) (c : Nat) (x : Cyl) (lo hi : Int) : Bool :=
  let s : Int := d.runStep x.dom x.run
  let ks := d.ksIn c x.dom x.run lo hi
  ks.any (fun k => decide (d.phi c x.dom x.run k ≤ lo + s)) && ks.any (fun k => decide (hi - s ≤ d.phi c x.dom x.run k))
    && decide (missedIn x.trace ks ≤ x.missMax)

def Dev.spansCycle (d : Dev) (dom r : Nat) : Bool := (d.runCnt dom r + 1) * d.runStep dom r == d.cycleLen dom
def Dev.twoStroke (d : Dev) (dom : Nat) : Bool := d.get (F.ANG_CFG_STROKE dom) != 0

/-- R307 IMEPG and IMEPN as exact quotients. -/
def Dev.imep (d : Dev) (c : Nat) (x : Cyl) (gross : Bool) : Rt :=
  let t := d.traceOf c x
  let all := List.range (d.runCnt x.dom x.run + 1)
  let half : Int := 188743680
  let ks := if gross ∧ !d.twoStroke x.dom then d.ksIn c x.dom x.run (-half) half else all
  let sum := Rt.sum ((pairsIn ks).map (fun k => pairWork t (k - 1) k))
  let close := if (d.twoStroke x.dom || !gross) && d.spansCycle x.dom x.run then pairWork t (d.runCnt x.dom x.run) 0 else Rt.ofInt 0
  (sum.add close).div (Rt.ofInt (d.reg (R.CMB_VD (d.cylVtab c))).toNat)

/-- The heat list of the occurrence. -/
def Dev.cylHeat (d : Dev) (c : Nat) (x : Cyl) : List (Nat × Rt) :=
  heat (d.traceOf c x) ⟨d.cylW c 5 31 16, 16384⟩ (d.ksIn c x.dom x.run (d.cwA c) (d.cwB c))

def maxRt : List Rt → Option Rt
  | [] => none
  | a :: r => match maxRt r with
    | none => some a
    | some b => if a.lt b then some b else some a

def mJ (q : Rt) : Int := (q.div (Rt.ofInt 1000000)).round

/-- QTOT of the combustion window, whether it is valid or not; none where the occurrence has no value or the window no sample. -/
def Dev.qtot (d : Dev) (c : Nat) (x : Cyl) : Option Int :=
  if x.trace.all (·.isNone) then none else (maxRt ((d.cylHeat c x).map (·.2))).map (fun q => sat32 (mJ q))

/-- The value of metric m of an occurrence, none when it is invalid (R307, R308). -/
def Dev.metric (d : Dev) (c : Nat) (x : Cyl) (m : Nat) : Option Int :=
  let t := d.traceOf c x
  let cw := d.ksIn c x.dom x.run (d.cwA c) (d.cwB c)
  let cwOk := d.windowOk c x (d.cwA c) (d.cwB c)
  let L := d.cycleLen x.dom
  let all := List.range (d.runCnt x.dom x.run + 1)
  let half : Int := 188743680
  let nOk := decide (missedIn x.trace all ≤ x.missMax)
  -- on a two-stroke domain the window is a whole cycle from sample 0 on
  let gOk := if d.twoStroke x.dom then nOk && decide (L ≤ (d.runCnt x.dom x.run + 1) * d.runStep x.dom x.run)
    else d.windowOk c x (-half) half
  let step := d.runStep x.dom x.run
  let rs := d.cylW c 1 15 8
  if x.trace.all (·.isNone) then none
  else match m with
  | 0 => if cwOk then (argMax t.p cw).map (fun e => sat32 e.2.round) else none
  | 1 => if cwOk then (argMax t.p cw).map (fun e => t.phi e.1) else none
  | 2 =>
    let ks := cw.filter (fun k => decide (rs ≤ k) && cw.contains (k - rs))
    if cwOk && rs != 0 then
      (maxRt (ks.map (fun k => ((t.p k).sub (t.p (k - rs))).mul ⟨1048576, rs * max step 1⟩))).map (fun r => sat32 r.round)
    else none
  | 3 => if gOk then some (sat32 (d.imep c x true).round) else none
  | 4 => if nOk then some (sat32 (d.imep c x false).round) else none
  | 5 =>
    if !(gOk && nOk) then none
    else if d.twoStroke x.dom then some 0 else some (sat32 ((d.imep c x false).sub (d.imep c x true)).round)
  | 6 => if cwOk then d.qtot c x else none
  | 7 =>
    if d.windowOk c x (d.cwA c) (d.chk c) then
      ((d.cylHeat c x).filter (fun e => decide (t.phi e.1 ≤ d.chk c))).getLast?.map (fun e => sat32 (mJ e.2))
    else none
  | _ =>
    let pct := if m = 8 then 5 else if m = 9 then 10 else if m = 10 then 50 else 90
    match maxRt ((d.cylHeat c x).map (·.2)) with
    | some q =>
      if d.cylMfb c && cwOk && (Rt.ofInt 0).lt q && decide (cw.length ≤ x.alloc) && decide (0 < L) then
        mfbAngle t step (d.cylHeat c x) q pct
      else none
    | none => none

/-! ## Delivery and records (R309 to R311) -/

def Dev.cyl (d : Dev) (c : Nat) : Cyl := vGet d.cyls c
def Dev.setCyl (d : Dev) (c : Nat) (x : Cyl) : Dev := { d with cyls := vSet d.cyls c x }

/-- One metric becomes available: it is noted, an invalid one counted, and delivered to the trim links. -/
def Dev.deliver (d : Dev) (c m : Nat) (v : Option Int) : Dev :=
  let x := d.cyl c
  let d1 := match v with
    | some i => d.setCyl c { x with done := x.done ++ [m], valid := x.valid + 2 ^ m, vals := smPut x.vals m i 0 }
    | none => (d.setCyl c { x with done := x.done ++ [m] }).incSat F.CMB_CNT_B_INVALID |>.irq P.CMB 1
  d1.metricToLinks c m v

/-- One combustion record (R311). -/
def Dev.cmbRecord (d : Dev) (now c kind : Nat) : Dev :=
  let x := d.cyl c
  if d.flag F.CMB_CFG_REC_EN then
    let val := fun m => w32 (bitsOf (smGetD x.vals m 0) 32)
    let nm := min ((x.trace.filter (·.isNone)).length) 15
    let w0 := kind * 0x1000000 + x.dom * 0x800000 + c * 0x40000 + x.misfire.toNat * 0x20000 + x.pegFail.toNat * 0x10000 + nm * 4096 + x.valid
    let body := if kind = 0x30 then [val 0, val 1, val 2, val 3, val 4, val 5] else [val 6, val 7, val 8, val 9, val 10, val 11]
    match d.ringPush now (8 + d.get F.CMB_CFG_REC_RES) (w32 w0 :: w32 x.cyc :: body) with
    | some d' => d'.irq P.CMB 0
    | none => (d.incSat F.CMB_CNT_B_REC_LOST).irq P.CMB 5
  else d

/-- The metrics of group g of R310: 0 QCHK; 1 those of the combustion window; 2 MFB; 3 IMEPG; 4 IMEPN and PMEP. -/
def groupMetrics : Nat → List Nat
  | 0 => [7] | 1 => [0, 1, 2, 6] | 2 => [8, 9, 10, 11] | 3 => [3] | _ => [4, 5]

/-- A group's metrics are delivered; QTOT decides MISFIRE (R309); the records follow their last metric (R311). -/
def Dev.deliverGroup (d : Dev) (now c g : Nat) (abort : Bool) : Dev :=
  let x := d.cyl c
  let todo := (groupMetrics g).filter (fun m => !x.done.contains m)
  if todo = [] then d
  else
    let d1 := todo.foldl (fun d m => d.deliver c m (if abort then none else d.metric c (d.cyl c) m)) d
    let y := d1.cyl c
    let mis := g == 1 && !abort && (match d.qtot c x with
      | some q => (y.valid.testBit 6 && decide (q < (d.cylW c 7 31 16 * 1000 : Nat))) || decide (q ≤ 0)
      | none => false)
    let d2 := if mis then ((d1.setCyl c { y with misfire := true }).incSat F.CMB_CNT_A_MISFIRE).irq P.CMB 4 else d1
    let na := g == 2 && !abort && d.cylMfb c && decide (x.alloc < (d.ksIn c x.dom x.run (d.cwA c) (d.cwB c)).length)
    let d3 := if na then d2.incSat F.CMB_CNT_C_MFB_NA else d2
    if g = 4 then d3.cmbRecord now c 0x30 else if g = 2 then d3.cmbRecord now c 0x31 else d3

/-- The last sample number each group waits for: the last sample at or before its window's end, 0 when there is none. -/
def Dev.groupLast (d : Dev) (c : Nat) (x : Cyl) (g : Nat) : Nat :=
  let n := d.runCnt x.dom x.run
  let lastLe := fun (hi : Int) => (((List.range (n + 1)).filter (fun k => decide (d.phi c x.dom x.run k ≤ hi))).getLast?).getD 0
  match g with
  | 0 => lastLe (d.chk c)
  | 1 => lastLe (d.cwB c)
  | 2 => lastLe (d.cwB c)
  | 3 => if d.twoStroke x.dom then n else lastLe 188743680
  | _ => n

/-- How many samples of the trace are settled: a trailing missed one waits for the next that is not missed (R304). -/
def settled (l : List (Option Nat)) (whole : Bool) : Nat :=
  if whole then l.length
  else match prevGood l l.length with
    | some (k, _) => k + 1
    | none => 0

/-- The peg window's last sample. -/
def Dev.pegLast (d : Dev) (c : Nat) (x : Cyl) : Nat :=
  let hi := (if d.cylPeg c = 2 then d.pegB c else d.pegA c) + d.pegLen c - 1
  if d.cylPeg c = 0 then 0
  else (((List.range (d.runCnt x.dom x.run + 1)).filter (fun k => decide (d.phi c x.dom x.run k ≤ hi))).getLast?).getD 0

/-- Δ is decided once its window is settled (R305). -/
def Dev.cmbPeg (d : Dev) (c : Nat) : Dev :=
  let x := d.cyl c
  let whole := decide (d.runCnt x.dom x.run < x.trace.length)
  if x.delta.isNone && decide (d.pegLast c x < settled x.trace whole) then
    if x.trace.all (·.isNone) then
      let d1 := d.setCyl c { x with delta := some (x.lastN, x.lastD), pegFail := true }
      if d.cylPeg c = 0 then d1 else ((d1.incSat F.CMB_CNT_A_PEGFAIL).irq P.CMB 2).rep P.CMB 0x47 0
    else
      let (dl, fail, free) := d.pegDelta c x
      let d0 := if free then d.tickFree else d
      let d1 := d0.setCyl c { x with
        delta := some dl, pegFail := fail,
        lastN := if fail then x.lastN else dl.1, lastD := if fail then x.lastD else dl.2 }
      if fail then ((d1.incSat F.CMB_CNT_A_PEGFAIL).irq P.CMB 2).rep P.CMB 0x47 0 else d1
  else d

/-- The groups whose last sample is settled are delivered, in the order their windows end. -/
def Dev.cmbAdvance (d : Dev) (now c : Nat) : Dev :=
  let d1 := d.cmbPeg c
  let x := d1.cyl c
  let whole := decide (d1.runCnt x.dom x.run < x.trace.length)
  let n := settled x.trace whole
  let d2 := [0, 1, 2, 3, 4].foldl (fun d g =>
    if x.delta.isSome && decide (d.groupLast c x g < n) then d.deliverGroup now c g false else d) d1
  if whole then d2.setCyl c { d2.cyl c with active := false, lastValid := (d2.cyl c).valid } else d2

/-- A sample of run (dom, r), number k of its occurrence, reaches cylinder c (R286, R304). -/
def Dev.cmbSample (d : Dev) (now c dom r k : Nat) (v : Option Nat) : Dev :=
  if !d.running P.CMB || !(d.reg R.CMB_CYLEN).getLsbD c || decide (24 ≤ c) then d
  else if d.cylRun c ≠ some (dom, r) then (if k = 0 then d.incSat F.CMB_CNT_C_DUPRUN else d)
  else
    let d0 := if k = 0 then
        let d1 := d.commit P.CMB
        let x := d1.cyl c
        d1.setCyl c { x with
          active := true, dom := dom, run := r, cyc := (d1.reg (R.ANG_CYC dom)).toNat,
          missMax := d1.eff F.CMB_CFG_MISS_MAX, trace := [], delta := none, pegFail := false, done := [], valid := 0, vals := [],
          misfire := false }
      else d
    let x := d0.cyl c
    if x.active && x.trace.length == k then (d0.setCyl c { x with trace := x.trace ++ [v] }).cmbAdvance now c else d0

/-- R310: the occurrence aborts; every metric not yet delivered is delivered invalid. -/
def Dev.cmbAbort (d : Dev) (now dom r : Nat) : Dev :=
  let c := d.runCyl dom r
  let x := d.cyl c
  if c < 24 ∧ x.active ∧ x.dom = dom ∧ x.run = r then
    let d1 := [0, 1, 2, 3, 4].foldl (fun d g => d.deliverGroup now c g true) d
    d1.setCyl c { d1.cyl c with active := false, lastValid := (d1.cyl c).valid }
  else d

/-! ## Enabling cylinders (R303, R308), registers (R319) -/

/-- Buffer entries in use. -/
def Dev.bufSum (d : Dev) : Nat := ((List.range 24).map (fun c => (d.cyl c).alloc)).foldl (· + ·) 0

/-- What a cylinder keeps when its bit changes: its last Δ that did not fail (R305), and what CMB_INSP reads of the past. -/
def Cyl.ended (x : Cyl) : Cyl := { lastN := x.lastN, lastD := x.lastD, lastValid := x.lastValid }

/-- One bit of `CMB_CYLEN` (R303). -/
def Dev.cylSet (d : Dev) (c : Nat) (on : Bool) : Dev :=
  let en := (d.reg R.CMB_CYLEN).getLsbD c
  if on && !en then
    let code := d.cylCheck c
    if code = 0 then
      let alloc := match d.cylRun c with
        | some (k, r) => if d.cylMfb c then ((d.cwB c - d.cwA c) / (max (d.runStep k r) 1 : Nat)).toNat + 2 else 0
        | none => 0
      let d1 := d.setCyl c { (d.cyl c).ended with alloc := alloc }
      (d1.setReg R.CMB_CYLEN (d1.reg R.CMB_CYLEN ||| (1#32 <<< c))).set F.CMB_BUF_USED d1.bufSum
    else ((d.setReg R.CMB_ERR (w32 (code * 65536 + c))).irq P.CMB 3).rep P.CMB 0x46 0
  else if !on && en then
    let d1 := d.setCyl c (d.cyl c).ended
    (d1.setReg R.CMB_CYLEN (d1.reg R.CMB_CYLEN &&& ~~~(1#32 <<< c))).set F.CMB_BUF_USED d1.bufSum
  else d

/-- CYLINDER_ENABLE_WRITE (R303). -/
def Dev.cylenWrite (d : Dev) (w : Word) : Dev := (List.range 24).foldl (fun d c => d.cylSet c (w.getLsbD c)) d

/-- R302: does an enabled cylinder name volume table v? -/
def Dev.vtabBusy (d : Dev) (v : Nat) : Bool := (List.range 24).any (fun c => (d.reg R.CMB_CYLEN).getLsbD c && d.cylVtab c == v)

/-- CMB_INSP_SEL (R319). -/
def Dev.cmbInspect (d : Dev) (who : Initiator) (w : Word) : Dev :=
  let c := wordGet w 4 0
  let x := d.cyl c
  let dl : Int := match x.delta with
    | some (n, k) => Rt.round ⟨n, k⟩
    | none => Rt.round ⟨x.lastN, x.lastD⟩
  d.setLatches who [(R.CMB_INSP_SEL, w32 c), (R.CMB_INSP_DELTA, w32 (bitsOf dl 32)),
    (R.CMB_INSP_STAT, w32 (x.alloc * 65536 + x.lastValid))]

def Dev.cmbClr (d : Dev) : Dev := ((d.setReg R.CMB_CNT_A 0).setReg R.CMB_CNT_B 0).setReg R.CMB_CNT_C 0

/-- CMB restart (R318). -/
def Dev.cmbRestart (d : Dev) : Dev := { d with cyls := Vector.replicate 24 {} }

end Sys2Proof.Machine
end

