-- ==== Sys2Proof/Machine/Adc.lean ====
section
/-!
DEFINITION. Machine/Adc.lean: converters and their aperture queues (R272 to R278), sample and single-sample records (R287, R288), the
knock filters (R291 to R293, R295).
-/

namespace Sys2Proof.Machine

/-! ## Samples of a run are passed on in order (R286, R287) -/

def runIx (dom r : Nat) : Nat := 16 * dom + r
def Dev.run (d : Dev) (dom r : Nat) : Run := vGet d.runs (runIx dom r)
def Dev.setRun (d : Dev) (dom r : Nat) (x : Run) : Dev := { d with runs := vSet d.runs (runIx dom r) x }

def sVal (s : Sample) : Nat := s.val.getD 0
/-- Word 4, 6 or 7 of a packet: the time of sample j after sample 0. -/
def pktDt (l : List Sample) (j : Nat) : Word :=
  match l[0]?, l[j]? with
  | some a, some b => w32 ((if b.val.isNone then 0x80000000 else 0) + (b.ts - a.ts) % 0x80000000)
  | _, _ => 0

/-- R287: write the open packet of a run. -/
def Dev.pktWrite (d : Dev) (now dom r : Nat) : Dev :=
  let x := d.run dom r
  let d1 := d.setRun dom r { x with pkt := [] }
  match x.pkt with
  | [] => d
  | a :: _ =>
    let ex := ((List.range 4).map (fun j => match x.pkt[j]? with | some s => if s.exc then 2 ^ j else 0 | none => 0)).foldl (· + ·) 0
    let w0 := 0x20000000 + dom * 0x800000 + r * 0x80000 + (x.pkt.length - 1) * 0x20000 + a.val.isNone.toNat * 0x10000 + ex * 4096
      + x.pktIdx % 4096
    let v := fun j => match x.pkt[j]? with | some s => sVal s | none => 0
    match d1.ringPush now (8 + d.get (F.SMPL_DOM_REC_RES dom))
        [w32 w0, lo32 a.ts, hi32 a.ts, w32 (v 0 * 65536 + v 1), pktDt x.pkt 1, w32 (v 2 * 65536 + v 3), pktDt x.pkt 2, pktDt x.pkt 3] with
    | some d2 => d2
    | none => ((d1.incSat F.SMPL_CNT_B_REC_LOST).irq P.SMPL 4).rep P.SMPL 0x05 0

/-- Put sample k of an occurrence in the open packet; a packet is written when full, at the occurrence's last sample, and before a
sample whose time offset does not fit in 31 bits. -/
def Dev.pktAdd (d : Dev) (now dom r k : Nat) (last : Bool) (s : Sample) : Dev :=
  if d.flag (F.SMPL_DOM_REC_EN dom) && d.runW dom r 2 26 26 != 0 then
    let far := match (d.run dom r).pkt with
      | a :: _ => decide (a.ts + 0x80000000 ≤ s.ts)
      | [] => false
    let d1 := if far then d.pktWrite now dom r else d
    let x := d1.run dom r
    let d2 := d1.setRun dom r { x with pkt := x.pkt ++ [s], pktIdx := if x.pkt = [] then k else x.pktIdx }
    if last || decide (4 ≤ (d2.run dom r).pkt.length) then d2.pktWrite now dom r else d2
  else d

/-- Pass on the samples that are next in order. -/
def Dev.emitLoop (now dom r : Nat) : Nat → Dev → Dev
  | 0, d => d
  | f + 1, d =>
    let x := d.run dom r
    match smGet x.got x.emit with
    | none => d
    | some s =>
      let n := d.runCnt dom r + 1
      let k := (((x.emit : Int) - (x.base : Int)) % (n : Int)).toNat
      let d1 := d.setRun dom r { x with emit := x.emit + 1, got := smDel x.got x.emit }
      let d2 := d1.pktAdd now dom r k (k + 1 == n) s
      let c := d.runCyl dom r
      let d3 := if c < 24 then d2.cmbSample now c dom r k s.val else d2
      let d4 := if k + 1 = n then d3.irq P.SMPL 0 else d3
      Dev.emitLoop now dom r f d4

/-- Sample number g of a run is converted or missed; one of an aborted occurrence is no longer passed on. -/
def Dev.sampleIn (d : Dev) (now dom r g : Nat) (s : Sample) : Dev :=
  let x := d.run dom r
  if g < x.emit then d
  else
    let d1 := d.setRun dom r { x with got := smIns x.got g s }
    Dev.emitLoop now dom r ((d1.run dom r).got.length) d1

/-- A missed sample (R278, R283). -/
def Dev.sampleMissed (d : Dev) (now dom r g : Nat) : Dev :=
  ((d.incSat F.SMPL_CNT_A_MISSED).irq P.SMPL 1).sampleIn now dom r g { val := none, ts := now }

/-! ## Knock filters (R291 to R293) -/

def Dev.knkCh (d : Dev) (c : Nat) : KnkChan := vGet d.knk.ch c
def Dev.setKnkCh (d : Dev) (c : Nat) (x : KnkChan) : Dev := { d with knk := { d.knk with ch := vSet d.knk.ch c x } }

/-- R291: the coefficients of a filter with centre f0 and bandwidth bw in Hz, at a sample period of `per` du: a1, a2, b0 with 24
fractional bits. -/
def knkCoef (f0 bw per : Nat) : Int × Int × Int :=
  -- bw / fs and f0 / fs, F0 held to 0.45 fs
  let rr := fxExpNeg (Int.fdiv (fxPi * (bw * per : Nat)) 800000000)
  let num := min (f0 * per * 100) (45 * 800000000)
  let c := fxCos (Int.fdiv (2 * fxPi * (num : Nat)) 80000000000)
  let r2 := fxMul rr rr
  (fxRound (-2 * fxMul rr c) 24, fxRound r2 24, fxRound (Int.fdiv (fxOne - r2) 2) 24)

/-- The commit point of the KNK page (R297): the settings take effect and the coefficient registers are computed. -/
def Dev.knkCommit (d : Dev) : Dev :=
  let d1 := d.commit P.KNK
  (List.range 4).foldl (fun d f =>
    let (a1, a2, b0) := knkCoef (d.eff (F.KNK_BPF_F0 f)) (d.eff (F.KNK_BPF_BW f)) (d.eff F.KNK_RATE_PER)
    ((d.setI (F.KNK_COEF_A1_A1 f) a1).setI (F.KNK_COEF_A2_A2 f) a2).setI (F.KNK_COEF_B0_B0 f) b0) d1

/-- The committed settings. -/
def Dev.knkSet (d : Dev) : KnkSet :=
  { fen := d.eff F.KNK_CFG_FEN, pre := d.eff F.KNK_RATE_PRE, per := d.eff F.KNK_RATE_PER, sqr := d.effB F.KNK_INT_SQR,
    shift := d.eff F.KNK_INT_SHIFT,
    a1 := (List.range 4).map (fun f => d.gets (F.KNK_COEF_A1_A1 f)),
    a2 := (List.range 4).map (fun f => (d.get (F.KNK_COEF_A2_A2 f) : Int)),
    b0 := (List.range 4).map (fun f => (d.get (F.KNK_COEF_B0_B0 f) : Int)) }

/-- R292: one step of filter f on x[j] − x[j−2]: y with 16 fractional bits and 48 bits, saturating; the accumulator takes y's magnitude
in that representation, or the square of y rounded to an integer. -/
def knkStep (s : KnkSet) (f : Nat) (dx : Int) (integrate : Bool) (x : KnkFilt) : KnkFilt :=
  let y := clampI (Rt.round ⟨s.b0.getD f 0 * dx * 65536 - s.a1.getD f 0 * x.y1 - s.a2.getD f 0 * x.y2, 2 ^ 24⟩) (-(2 ^ 47)) (2 ^ 47 - 1)
  let r := (Rt.round ⟨y, 65536⟩).natAbs
  let add := if s.sqr then r * r else y.natAbs
  { y1 := y, y2 := x.y1, acc := if integrate then min (x.acc + add) (2 ^ 64 - 1) else x.acc }

/-- A knock sample of channel c (R292, R293). -/
def Dev.knkSample (d : Dev) (c : Nat) (v : Option Int) : Dev :=
  let x := d.knkCh c
  match x.win with
  | none => d
  | some _ =>
    let xj := match v with | some i => i | none => x.x1
    let go := decide (x.set.pre ≤ x.j)
    let f := ((List.range 4).foldl (fun (fs : Vector KnkFilt 4) i =>
      if x.set.fen.testBit i then vSet fs i (knkStep x.set i (xj - x.x2) go (vGet fs i)) else fs) x.f)
    let d1 := d.setKnkCh c { x with
      x1 := xj, x2 := x.x1, f := f, j := x.j + 1, nsmp := x.nsmp + 1,
      nint := x.nint + go.toNat, lostSmp := x.lostSmp || v.isNone }
    if v.isNone then d1.incSat F.KNK_CNT_A_LOST_SMP else d1

/-! ## Aperture queues (R274 to R278) -/

def Dev.adc (d : Dev) (k : Nat) : Adc := vGet d.adcs k
def Dev.setAdc (d : Dev) (k : Nat) (x : Adc) : Dev := { d with adcs := vSet d.adcs k x }
def Dev.tBusy (d : Dev) (k : Nat) : Nat := 800 + d.eff (F.ADC_TRACK_TRACK k)

/-- R288: a single-sample record. -/
def Dev.singleRec (d : Dev) (now k : Nat) (q : AdcReq) (ts : Nat) (v : Option Nat) : Dev :=
  if d.flag (F.ADC_CFG_REC_EN k) && (q.cls == 1 || q.cls == 3) then
    let delayed := v.isSome && decide (q.target < ts)
    let w0 := 0x21000000 + k * 0x200000 + q.inp * 0x8000 + q.cls * 0x1000 + delayed.toNat * 0x800 + v.isNone.toNat * 0x400
    match d.ringPush now (8 + d.get (F.ADC_CFG_REC_RES k))
        [w32 w0, w32 (q.tag * 65536 + q.src), lo32 ts, hi32 ts, lo32 q.origin, hi32 q.origin, w32 (v.getD 0), 0] with
    | some d' => d'
    | none => (d.incSat (F.ADC_CNT_B_REC_LOST k)).irq (P.ADC k) 3
  else d

/-- The next grid request of an open knock window (R289), before the committed closing time (R290). -/
def Dev.knkNext (d : Dev) (c : Nat) : Option AdcReq :=
  let x := d.knkCh c
  let t := x.tO + x.j * 16 * x.set.per
  match x.win, x.closeAt with
  | some _, none => some { cls := 2, inp := 32, target := t, src := c, idx := x.j }
  | some _, some e => if t < e then some { cls := 2, inp := 32, target := t, src := c, idx := x.j } else none
  | none, _ => none

/-- R281: after the last sample of an occurrence, sample number g, ACT returns to 0. -/
def Dev.actEnd (d : Dev) (dom r g : Nat) : Dev :=
  let x := d.run dom r
  if g + 1 = x.base ∧ x.next = 0 then
    d.set (F.SMPL_DOM_RUN_ACT dom) (d.get (F.SMPL_DOM_RUN_ACT dom) &&& (0xFFFF - 2 ^ r))
  else d

/-- R278: the outcome of a lost request; `counted` is false while the converter is disabled or restarting: its counters do not count it. -/
def Dev.reqLost (d : Dev) (now k : Nat) (q : AdcReq) (counted : Bool) : Dev :=
  let d0 := if counted then d.incSat (F.ADC_CNT_A_LOST k) else d
  let d1 := (d0.irq (P.ADC k) 1).rep (P.ADC k) 0x40 0 q.cls
  match q.cls with
  | 0 => (d1.actEnd (q.src / 16) (q.src % 16) q.idx).sampleMissed now (q.src / 16) (q.src % 16) q.idx
  | 2 => d1.knkSample q.src none
  | 4 => ((d1.put (F.ADC_SWRES_LOST k) true).put (F.ADC_SWRES_DONE k) true)
  | _ => d1.singleRec now k q now none

/-- R277: is request a the one to lose against b: the higher class, among equals the later target? -/
def loses (a b : AdcReq) : Bool := decide (b.cls < a.cls) || (a.cls == b.cls && decide (b.target < a.target))
def worst : List AdcReq → Option AdcReq
  | [] => none
  | q :: r => match worst r with
    | none => some q
    | some w => if loses q w then some q else some w

def Dev.adcPut (d : Dev) (k : Nat) (q : AdcReq) : Dev := d.setAdc k { d.adc k with q := (d.adc k).q ++ [q] }

/-- Does the converter take requests (R278)? -/
def Dev.adcTakes (d : Dev) (k : Nat) : Bool := d.enabled (P.ADC k) && !d.restarting (P.ADC k)

/-- A request reaches converter k (R276, R277, R278). The target of a SAMPLE edge is settled when it is handed over (`Dev.setChanLoad`). -/
def Dev.adcEnter (d : Dev) (now k : Nat) (q : AdcReq) : Dev :=
  if !d.adcTakes k then d.reqLost now k q false
  else
    let early := q.cls == 0
    let q' := if early then { q with target := max q.target (d.afterSetup now) } else q
    let d0 := if early then d.tickFree else d
    let a := d0.adc k
    if a.q.length < 8 then d0.adcPut k q'
    else match worst a.q with
      | some w =>
        if loses q' w || (q'.cls == w.cls && q'.target == w.target) then d0.reqLost now k q' true
        else ((d0.setAdc k { a with q := a.q.erase w }).reqLost now k w true).adcPut k q'
      | none => d0

/-- The grid of an open knock window goes on: its next request enters converter c when the one before has left it and there is room; one
that is due enters in any case, and when it is lost the next follows. -/
def Dev.knkFeedLoop (now c : Nat) : Nat → Dev → Dev
  | 0, d => d
  | n + 1, d =>
    if (d.adc c).q.any (fun q => q.cls == 2) || (match (d.adc c).conv with | some (q, _) => q.cls == 2 | none => false) then d
    else match d.knkNext c with
      | some q =>
        if (d.adcTakes c && decide ((d.adc c).q.length < 8)) || decide (q.target ≤ now) then Dev.knkFeedLoop now c n (d.adcEnter now c q) else d
      | none => d
def Dev.knkFeed (d : Dev) (now c : Nat) : Dev :=
  let x := d.knkCh c
  Dev.knkFeedLoop now c ((now - x.tO) / (16 * (max x.set.per 1)) + 2) d

/-- R276: the best of the requests that are due: lowest class, then earliest target, then earliest entry. -/
def bestReq : List AdcReq → Option AdcReq
  | [] => none
  | q :: r => match bestReq r with
    | none => some q
    | some b => if b.cls < q.cls ∨ (b.cls = q.cls ∧ b.target < q.target) then some b else some q
/-- R276: the earliest target; among equal ones the lowest class (R275), then the earliest entry. -/
def earliest : List AdcReq → Option AdcReq
  | [] => none
  | q :: r => match earliest r with
    | none => some q
    | some b => if b.target < q.target ∨ (b.target = q.target ∧ b.cls < q.cls) then some b else some q

/-- Open the aperture for request q at time `t`. -/
def Dev.openFor (d : Dev) (now k : Nat) (q : AdcReq) (t : Nat) : Dev :=
  let a := d.adc k
  let d1 := d.setAdc k { a with q := a.q.erase q, conv := some (q, t), busy := true, busyEnd := t + d.tBusy k }
  let dly := if q.target < t then d1.incSat (F.ADC_CNT_A_DELAYED k) else d1
  let d2 := if q.cls ≤ 2 then dly.probe now 0x0D k (t - q.target : Nat) else dly
  if q.cls = 0 then d2.actEnd (q.src / 16) (q.src % 16) q.idx else d2

/-- APERTURE_OPEN (R276): a free converter selects a request; f is the time it became free. -/
def Dev.apertureOpen (d : Dev) (now k : Nat) : Dev :=
  let a := d.adc k
  if a.busy ∨ !d.running (P.ADC k) then d
  else
    let f := a.busyEnd
    let due := a.q.filter (fun q => decide (q.target ≤ f))
    let lost := due.filter (fun q => decide (d.tBusy k < f - q.target))
    let d1 := lost.foldl (fun d q => (d.setAdc k { d.adc k with q := (d.adc k).q.erase q }).reqLost now k q true) d
    let d2 := if lost.any (fun q => q.cls == 2) then d1.knkFeed now k else d1
    let d3 := match bestReq ((d2.adc k).q.filter (fun q => decide (q.target ≤ f))) with
      | some q => d2.openFor now k q f
      | none => match earliest (d2.adc k).q with
        | some q => if q.target ≤ now then d2.openFor now k q q.target else d2
        | none => d2
    d3.knkFeed now k

/-- R273: VALUE of an AIN input at `uv` microvolts, and of a knock input. -/
def ainValue (uv : Int) : Nat := (clampI (floorDiv (uv * 65536) 5000000) 0 65535).toNat
def knValue (uv : Int) : Int := clampI (floorDiv (uv * 32768) 2500000) (-32768) 32767

/-- CONVERSION_DONE (R274): the value of the input at its aperture, in µV, reaches its consumer. A SAR that needs longer than its
800 tu, which it may only while UNDERSPEC is 1, extends the busy interval. -/
def Dev.conversionDone (d : Dev) (now k : Nat) (uv : Int) : Dev :=
  let a := d.adc k
  match a.conv with
  | none => d
  | some (q, t) =>
    let slow := d.flag F.SYS_VMON_UNDERSPEC && decide (t + 800 < now)
    let d1 := (d.setAdc k { a with conv := none, busyEnd := if slow then max a.busyEnd now else a.busyEnd }).inc (F.ADC_CNT_CONV_CONV k)
    let d2 := if slow then (d1.incSat (F.ADC_CNT_B_SLOWCONV k)).irq (P.ADC k) 2 else d1
    let raw := if q.inp = 32 then bitsOf (knValue uv) 16 else ainValue uv
    match q.cls with
    | 0 => (d2.inc F.SMPL_CNT_TAKEN_TAKEN).sampleIn now (q.src / 16) (q.src % 16) q.idx
        { val := some raw, ts := t, exc := q.exc || decide (q.target < t) }
    | 2 => (d2.knkSample q.src (some (signedOf raw 16))).knkFeed now k
    | 4 =>
      let d3 := ((d2.set (F.ADC_SWRES_VALUE k) raw).put (F.ADC_SWRES_LOST k) false).put (F.ADC_SWRES_DONE k) true
      (d3.setLH (R.ADC_SWTS_LO k) (R.ADC_SWTS_HI k) t).irq (P.ADC k) 0
    | _ => d2.singleRec now k q t (some raw)

/-- BUSY_INTERVAL_END (R274, R297). -/
def Dev.busyEnds (d : Dev) (now k : Nat) : Dev :=
  let a := d.adc k
  if a.busy && a.conv.isNone && decide (a.busyEnd ≤ now) then
    let d1 := d.setAdc k { a with busy := false }
    if a.q = [] then d1.commit (P.ADC k) else d1
  else d

/-- ADC_SW.GO (R275, R298): discarded while a SW request is queued. -/
def Dev.adcSwGo (d : Dev) (now k : Nat) : Dev :=
  if (d.adc k).q.any (fun q => q.cls == 4) then d
  else (d.put (F.ADC_SWRES_DONE k) false).adcEnter now k { cls := 4, inp := d.get (F.ADC_SW_INP k), target := now }

/-- A trigger reaches converter k three stages after its origin and is accepted, or lost, there at once (R209, R275). -/
def Dev.adcTrig (d : Dev) (k src origin : Nat) : Dev :=
  let t := d.threeStages origin
  d.tickFree.adcEnter t k { cls := 3, inp := d.get (F.ADC_CFG_TRIG_INP k), target := t, src := src, origin := origin }

/-- A SAMPLE edge handed to the placer of TAPn enters its converter's queue (R275): `target` is the time it will be released at, `committed` its
committed time, which its record shows (R288). -/
def Dev.adcEvent (d : Dev) (now n target committed tag : Nat) : Dev :=
  d.adcEnter now (d.get (F.TAPC_CFG_ADC n))
    { cls := 1, inp := d.get (F.TAPC_CFG_INP n), target := target, src := 72 + n, tag := tag, origin := committed }
/-- A SAMPLE edge that is cancelled before its release takes its request with it: the two are one event (R275). -/
def Dev.adcWithdraw (d : Dev) (chan target : Nat) : Dev :=
  { d with adcs := d.adcs.map (fun a => { a with q := a.q.filter (fun q => !(q.cls == 1 && q.src == chan && q.target == target)) }) }

/-- A read of ADC_SWRES (R298). -/
def Dev.swresLatch (d : Dev) (who : Initiator) (k : Nat) : Dev :=
  d.setLatches who [(R.ADC_SWTS_LO k, d.reg (R.ADC_SWTS_LO k)), (R.ADC_SWTS_HI k, d.reg (R.ADC_SWTS_HI k))]

def Dev.adcClr (d : Dev) (k : Nat) : Dev := ((d.setReg (R.ADC_CNT_CONV k) 0).setReg (R.ADC_CNT_A k) 0).setReg (R.ADC_CNT_B k) 0

/-- R278: the converter is disabled or restarts; every queued request is lost, uncounted. It is then idle, where its page commits (R297). -/
def Dev.adcStop (d : Dev) (now k : Nat) : Dev :=
  let a := d.adc k
  let l := a.q ++ (match a.conv with | some (q, _) => [q] | none => [])
  ((l.foldl (fun d q => d.reqLost now k q false) (d.setAdc k {})).knkFeed now k).commit (P.ADC k)

/-- The live ADC_STAT (R298). -/
def Dev.adcStat (d : Dev) (k : Nat) : Word := w32 (min (d.adc k).q.length 8 * 256 + (d.adc k).busy.toNat)

end Sys2Proof.Machine
end

