-- ==== Sys2Proof/Machine/Trig.lean ====
section
/-!
DEFINITION. Machine/Trig.lean: the trigger matrix (R207 to R211) and the TAP pins (R204 to R206).
-/

namespace Sys2Proof.Machine

/-! ## The trigger matrix -/

def Dev.trigPend (d : Dev) (c : Nat) : Option Nat := smGetD d.trig.pend c none
def Dev.setTrigPend (d : Dev) (c : Nat) (v : Option Nat) : Dev :=
  { d with trig := { d.trig with pend := smPut d.trig.pend c v none } }

/-- R208, R209: consumers 0 to 7 are the converters, which take a trigger on arrival; all others hold it until they accept it.
R210: a trigger that finds one pending for its consumer is discarded and reported. -/
def Dev.trigArrive (d : Dev) (src origin c : Nat) : Dev :=
  if c < 8 then d.adcTrig c src origin
  else match d.trigPend c with
  | none => d.setTrigPend c (some origin)
  | some _ => (((d.incSat F.TRIG_OVF_CNT).set F.TRIG_OVF_LAST c).irq P.TRIG 0).rep P.TRIG 0x2B 0

/-- R207: is this code a level source? -/
def trigLevelSrc (src : Nat) : Bool := decide (0x21 ≤ src) && decide (src ≤ 0x40)

/-- Does consumer c select source `src`, for the edge direction `rising` of a level source? -/
def Dev.trigSelects (d : Dev) (c src : Nat) (rising : Bool) : Bool :=
  d.flag (F.TRIG_SEL_EN c) && d.get (F.TRIG_SEL_SRC c) == src
    && (!trigLevelSrc src || (match d.get (F.TRIG_SEL_EDGE c) with
        | 0 => rising | 1 => !rising | _ => true))

/-- R209: a pulse or an edge of source `src` with its origin time, to every consumer that selects it. -/
def Dev.trigger (d : Dev) (src origin : Nat) (rising : Bool := true) : Dev :=
  ((List.range 56).filter (fun c => d.trigSelects c src rising)).foldl (fun d c => d.trigArrive src origin c) d

/-- A consumer accepts its pending trigger: the origin time, and the place free again (R210). -/
def Dev.trigAccept (d : Dev) (c : Nat) : Option (Nat × Dev) :=
  match d.trigPend c with
  | none => none
  | some o => some (o, d.setTrigPend c none)

/-- TRIG_SW (R211): one pulse on each selected software source. -/
def Dev.trigSw (d : Dev) (now : Nat) (mask : Word) : Dev :=
  ((List.range 8).filter (fun k => mask.getLsbD k)).foldl (fun d k => d.trigger (0x70 + k) now) d

/-- TRIG_CTL.CLR (R211). -/
def Dev.trigClr (d : Dev) : Dev := d.setReg R.TRIG_OVF 0

/-! ## Channels: levels and TAP pins -/

def Dev.chan (d : Dev) (c : Nat) : Chan := vGet d.chans c
def Dev.setChan (d : Dev) (c : Nat) (x : Chan) : Dev := { d with chans := vSet d.chans c x }

/-- R196: the domain a channel belongs to. -/
def Dev.chanDom (d : Dev) (c : Nat) : Nat :=
  if c < 48 then d.get (F.DRV_CFG_DOM c)
  else if c < 72 then d.get (F.IGN_CFG_DOM (c - 48))
  else ((d.reg R.TAPC_DOM).getLsbD (c - 72)).toNat

/-- R199, R203, R209: the event level of TAP n changes; a change is an edge of trigger source 0x21 + n. -/
def Dev.tapLevel (d : Dev) (now n : Nat) (lvl : Bool) : Dev :=
  let c := d.chan (72 + n)
  if c.level = lvl then d
  else
    let w := d.reg R.TAPC_EVLVL
    let w' : Word := if lvl then w ||| (1#32 <<< n) else w &&& ~~~(1#32 <<< n)
    ((d.setChan (72 + n) { c with level := lvl }).setReg R.TAPC_EVLVL w').trigger (0x21 + n) now lvl

/-- What drives a pin: low, high or high-impedance. -/
inductive PinDrive where
  | low | high | hiZ
  deriving DecidableEq, Repr

def PinDrive.code : PinDrive → Nat
  | .low => 0 | .high => 1 | .hiZ => 2

def PinDrive.ofCode : Nat → PinDrive
  | 0 => .low | 1 => .high | _ => .hiZ

/-- A level after INV and OD (R204, R205). -/
def pinOf (lvl inv od : Bool) : PinDrive := if xor lvl inv then (if od then .hiZ else .high) else .low

/-- R204: what the selected source drives on TAPn. -/
def Dev.tapSource (d : Dev) (n : Nat) : PinDrive :=
  let inv := d.flag (F.TAPC_CFG_INV n)
  let od := d.flag (F.TAPC_CFG_OD n)
  let unit := d.get (F.TAPC_CFG_UNIT n)
  match d.get (F.TAPC_CFG_SEL n) with
  | 0 => pinOf (d.chan (72 + n)).level inv od
  | 1 => pinOf (d.flag (F.TMR_STAT_OUT unit)) inv od
  | 2 =>
    let e := vGet d.pio (min unit 7)
    if e.dirs.getLsbD n then pinOf (e.lvls.getLsbD n) inv od else .hiZ
  | 3 => pinOf ((d.reg R.TAPC_SWLVL).getLsbD n) inv od
  | _ => .hiZ

/-- The drive of pin TAPn under EXTEST and CLAMP, from its three boundary cells (R556, R557): enable, output, input. -/
def Dev.scanPin (d : Dev) (n : Nat) : PinDrive :=
  if d.jtag.ctl = 3 ∨ !d.jtag.upd.getLsbD (3 * n) then .hiZ else if d.jtag.upd.getLsbD (3 * n + 1) then .high else .low

/-- The drive of pin TAPn: the boundary register's where it is in control, its safe-end state while one holds (R206), else its source. -/
def Dev.tapPin (d : Dev) (n : Nat) : PinDrive :=
  if d.jtag.ctl ≠ 0 then d.scanPin n
  else match smGetD d.taps.safe n none with
  | some k => PinDrive.ofCode k
  | none =>
    if d.inhibited && d.get (F.TAPC_CFG_SEL n) == 0 then
      (match smGetD d.taps.inh n none with
        | some k => PinDrive.ofCode k
        | none => PinDrive.ofCode (d.get (F.TAPC_CFG_SAFE n)))
    else d.tapSource n

/-- R467: on entry to an inhibited mode each pin with SEL EVENT takes its SAFE state; hold keeps what it drives now. -/
def Dev.tapInhibit (d : Dev) : Dev :=
  (List.range 32).foldl (fun d n =>
    let k := match d.get (F.TAPC_CFG_SAFE n) with
      | 0 => 0 | 1 => 1 | 2 => 2 | _ => (match smGetD d.taps.safe n none with | some c => c | none => (d.tapSource n).code)
    { d with taps := { d.taps with inh := smPut d.taps.inh n (some k) none } }) d
/-- R467: inhibition ends. -/
def Dev.tapUninhibit (d : Dev) : Dev := { d with taps := { d.taps with inh := [] } }

/-- R206: pin n takes its SAFE state; hold keeps what it drives now. -/
def Dev.tapSafeEnd (d : Dev) (n : Nat) : Dev :=
  let k := match d.get (F.TAPC_CFG_SAFE n) with
    | 0 => 0 | 1 => 1 | 2 => 2 | _ => (d.tapPin n).code
  { d with taps := { d.taps with safe := smPut d.taps.safe n (some k) none } }

/-- R206: SEL or SAFE written, or device SAFE left. -/
def Dev.tapRelease (d : Dev) (n : Nat) : Dev :=
  { d with taps := { d.taps with safe := smPut d.taps.safe n none none } }

/-- R206: at a safe end of its domain a pin takes SAFE when SEL is EVENT or its DSAFE bit is 1. -/
def Dev.tapDomainEnd (d : Dev) (n : Nat) : Dev :=
  if d.get (F.TAPC_CFG_SEL n) == 0 || (d.reg R.TAPC_DSAFE).getLsbD n then d.tapSafeEnd n else d

/-- R205: a write of SEL; UNIT above 7 with SEL = PIO is clamped to 7 (R204) and codes 5 to 7 keep the previous value. -/
def Dev.tapCfgWrite (d : Dev) (n : Nat) (w : Word) : Dev :=
  let old := d.reg (R.TAPC_CFG n)
  let sel := wordGet w 2 0
  let bad := decide (5 ≤ sel)
  let w1 := (w &&& 0x0FF0F0FF#32)
  let w2 := if bad then wordSet w1 2 0 (wordGet old 2 0) else w1
  let w3 := if wordGet w2 2 0 = 2 ∧ 7 < wordGet w2 7 3 then wordSet w2 7 3 7 else w2
  let d1 := d.setReg (R.TAPC_CFG n) w3
  let d2 := if d.mode = 11 then d1 else d1.tapRelease n
  if bad then d2.cfgRange P.TAPC else d2

end Sys2Proof.Machine
end

