-- ==== Sys2Proof/Machine/Harts.lean ====
section
/-!
DEFINITION. Machine/Harts.lean: the cores' control pages, memory errors and scrubbing, the ring descriptors, and the interrupt
controller's commands (13_cores_interrupts.md). What a core's program does to its own pc, privilege and `mstatus` reaches the model as
operands of the commands that need it (notes/assumptions/60.md).
-/

namespace Sys2Proof.Machine

/-! ## Interrupt entry (R382 to R386) -/

/-- A core at an instruction boundary: the address of the next unexecuted instruction, user mode, `mstatus.MIE`. -/
def Hart.boundary (x : Hart) (pc : Word) (user mie : Bool) : Hart :=
  { x.csrSet 0x300 (wordSet (x.csrGet 0x300) 3 3 mie.toNat) with pc := pc, priv := if user then 0 else 3 }

/-- R383: the entry of source s, handler `vec`, priority p. -/
def Hart.takeInt (x : Hart) (s p : Nat) (vec : Word) : Hart :=
  let y := ((x.csrSet 0x341 x.pc).csrSet 0x342 0x8000000B).csrSet 0x7C0 (w32 s)
  { y.trapStatus with pc := vec, levels := (s, p) :: x.levels, pres := none }

def Intc.setAct (i : Intc) (s : Nat) : Intc := { i with act := s :: i.act.filter (· != s) }
def Intc.clrAct (i : Intc) (s : Nat) : Intc := { i with act := i.act.filter (· != s) }

/-- INTERRUPT_ENTRY: core h takes what is presented to it, at an instruction boundary as its program left it. -/
def Dev.interruptEntry (d : Dev) (now h : Nat) (pc : Word) (user mie : Bool) : Dev :=
  let d1 := (d.setHart h ((d.hart h).boundary pc user mie)).present h
  match (d1.hart h).pres with
  | none => d1
  | some s =>
    let d2 := d1.setHart h ((d1.hart h).takeInt s (d1.prio s) (d1.reg (R.INTC_SRC_VEC s)))
    let d3 : Dev := { d2 with intc := d2.intc.setAct s }
    -- the assertion time of the source is not kept: the entry's latency at probe 0x0E is open
    ((d3.intcRefresh).probe now 0x0E h (d3.fresh : Nat)).tickFree

/-- R362, the privileged specification: an illegal-instruction exception. -/
def Hart.illegal (x : Hart) : Hart :=
  let y := ((x.csrSet 0x341 x.pc).csrSet 0x342 2).csrSet 0x343 0
  { y.trapStatus with pc := x.csrGet 0x305 &&& ~~~3#32 }

/-- MXEOI_WRITE (R362, R384): from user mode it is an illegal instruction; with no level entered it is discarded. -/
def Dev.mxeoi (d : Dev) (h : Nat) (pc : Word) (user mie : Bool) : Dev :=
  let x := (d.hart h).boundary pc user mie
  if user then d.setHart h x.illegal
  else match x.levels with
  | [] => d.setHart h x
  | (s, _) :: r =>
    let d1 := d.setHart h { x with levels := r }
    ({ d1 with intc := d1.intc.clrAct s }).intcRefresh

/-- R386: after a write that may have removed the eligibility of what was presented (`old` the device before it): of ENABLE, PRIO, a threshold
or the core's ENABLE. A cleared pending bit and a restart withdraw without the count (the rule names those writes alone). -/
def Dev.maskOne (old d : Dev) (h : Nat) : Dev :=
  match (old.hart h).pres with
  | some s =>
    if d.hartRuns h && d.srcEligible s && d.target s == h && decide (d.effThr h < d.prio s) then d
    else d.incSat F.INTC_CNT_WITHDRAWN
  | none => d
def Dev.maskSettle (old d : Dev) : Dev := (((old.maskOne d 0 |> fun d => old.maskOne d 1) |> fun d => old.maskOne d 2)).intcRefresh

/-! ## The controller's registers (R380, R381, R387, R391) -/

/-- INTC_SWI. -/
def Dev.intcSwi (d : Dev) (w : Word) : Dev :=
  let l := ((List.range 16).filter (fun k => w.getLsbD k)).map (0x1E0 + ·)
  ({ d with intc := { d.intc with latched := d.intc.latched ++ l.filter (fun s => !d.intc.latched.contains s) } }).intcRefresh

def intcLatched (s : Nat) : Bool := (decide (0x140 ≤ s) && decide (s < 0x180)) || (decide (0x1E0 ≤ s) && decide (s < 0x1F0))

/-- A latched source becomes pending. -/
def Dev.latchSrc (d : Dev) (s : Nat) : Dev :=
  if d.intc.latched.contains s then d
  else ({ d with intc := { d.intc with latched := d.intc.latched ++ [s] } }).intcRefresh

/-- INTC_PEND_CLEAR: register w of source page j. -/
def Dev.pendClear (d : Dev) (j w : Nat) (v : Word) : Dev :=
  let base := 128 * j + 32 * w
  let hit := fun s => decide (base ≤ s) && decide (s < base + 32) && v.getLsbD (s - base)
  ({ d with intc := { d.intc with latched := d.intc.latched.filter (fun s => !hit s) } }).intcRefresh

/-- R381: is a write to source s one that only SUP may make? -/
def Dev.srcSupOnly (d : Dev) (s : Nat) (vec : Bool) (w : Word) : Bool :=
  d.target s == 0 || (!vec && wordGet w 6 4 == 0)

/-- What `INTC_SRCi_VEC` keeps of a written word (R392): bit 0 of a handler address is reserved; a fabric target (7) keeps a node and a
number. For the codes that name no core the word is kept whole (notes/assumptions/79.md). -/
def vecWord (tgt : Nat) (w : Word) : Word := if tgt < 3 then w &&& ~~~1#32 else w

/-- INTC_SOURCE_CFG_WRITE, permitted: TARGET and the vector are static while ENABLE is 1. -/
def Dev.srcCfgWrite (d : Dev) (s : Nat) (vec : Bool) (w : Word) : Dev :=
  let pg := P.INTC + 1 + s / 128
  let en := d.flag (F.INTC_SRC_CFG_ENABLE s)
  if vec then
    if en then d.cfgBusy pg else (d.setReg (R.INTC_SRC_VEC s) (vecWord (d.target s) w)).bumpGen pg
  else
    let d1 := ((d.set (F.INTC_SRC_CFG_PRIO s) (wordGet w 3 0)).put (F.INTC_SRC_CFG_ENABLE s) (w.getLsbD 31)).bumpGen pg
    let tgt := wordGet w 6 4
    let d2 := if tgt = d.target s then d1 else if en then d1.cfgBusy pg
      else (d1.set (F.INTC_SRC_CFG_TARGET s) tgt).setReg (R.INTC_SRC_VEC s) (vecWord tgt (d.reg (R.INTC_SRC_VEC s)))
    Dev.maskSettle d d2

/-- R387: the qualifying source of pin n that a claim returns. -/
def Dev.pinSource (d : Dev) (n : Nat) : Option Nat :=
  bestOf d.prio (d.enabledSrcs.filter (fun s => d.target s == 3 + n && decide (d.get (F.INTC_HTHR_THR n) < d.prio s) && d.srcEligible s))
/-- `INTC_HSTAT`. -/
def Dev.hstat (d : Dev) : Word :=
  (List.range 4).foldl (fun (w : Word) n => if (d.pinSource n).isSome then w ||| (1#32 <<< n) else w) 0

/-- INTC_CLAIM: the device after the read and its word. -/
def Dev.intcClaim (d : Dev) (n : Nat) : Dev × Word :=
  match d.pinSource n with
  | none => (d, 0x1FF)
  | some s => (({ d with intc := d.intc.setAct s }).intcRefresh, w32 (d.prio s * 0x10000 + s))
/-- INTC_COMPLETE. -/
def Dev.intcComplete (d : Dev) (n : Nat) (w : Word) : Dev :=
  let s := wordGet w 8 0
  if d.target s = 3 + n ∧ d.intc.act.contains s then ({ d with intc := d.intc.clrAct s }).intcRefresh else d

/-- R390: a block restart of the control page withdraws every presentation. -/
def Dev.intcRestart (d : Dev) : Dev :=
  let i := d.intc
  let host := fun s => decide (3 ≤ d.target s) && decide (d.target s ≤ 6)
  let d1 : Dev := { d with intc := { i with latched := i.latched.filter (· < 0x1E0), act := i.act.filter (fun s => !host s) } }
  let d2 : Dev := { d1 with harts := d1.harts.map (fun h => { h with pres := none }) }
  d2.intcRefresh

/-- A failed fabric interrupt (R389). -/
def Dev.fabIntFail (d : Dev) (s : Nat) : Dev :=
  let d1 : Dev := { d with intc := d.intc.clrAct s }
  let d2 := ((d1.incSat F.INTC_FABSTAT_FAIL).set F.INTC_FABSTAT_LAST s).irq P.INTC 0
  d2.rep P.INTC 0x54 0

/-! ## Memory errors and scrubbing (R368, R369) -/

/-- A single (`double` false) or double-bit error in memory `m`: 0 SUP RAM, 1 and 2 the application cores' memories, 3 shared SRAM. -/
def Dev.memErr (d : Dev) (m addr : Nat) (double : Bool) : Dev :=
  if m < 3 then
    let pg := P.CORE m
    let d1 := d.setReg (R.CORE_ECCADDR m) (w32 addr)
    if double then ((d1.incSat (F.CORE_ECC_UE m)).irq pg 1).rep pg 0x50 1 0 addr
    else ((d1.incSat (F.CORE_ECC_CE m)).irq pg 0).rep pg 0x4F 0 0 addr
  else
    let d1 := d.setReg R.RING_ECCADDR (w32 addr)
    if double then ((d1.incSat F.RING_ECC_UE).irq P.RING 2).rep P.RING 0x50 1 0 addr
    else ((d1.incSat F.RING_ECC_CE).irq P.RING 4).rep P.RING 0x4F 0 0 addr

/-- SCRUB_READ: the scrubber's next word, with the error it finds: 0 none, 1 single, 2 double. -/
def Dev.scrubRead (d : Dev) (m addr err : Nat) : Dev :=
  let en := if m < 3 then d.flag (F.CORE_SCRUB_EN m) else d.flag F.RING_SCRUB_EN
  if !en || err == 0 then d else d.memErr m addr (err != 1)

/-! ## Core control (R370, R371) -/

/-- The levels core h has entered end with their ACT bits. -/
def Dev.dropLevels (d : Dev) (h : Nat) : Dev :=
  let l := (d.hart h).levels
  { d with intc := { d.intc with act := d.intc.act.filter (fun s => !l.any (fun e => e.1 == s)) } }

/-- ENABLE 0 to 1: the core starts in machine mode at `CORE_BOOT`, no level entered, MIE 0. -/
def Dev.coreStart (d : Dev) (h : Nat) : Dev :=
  let x := d.hart h
  let y := { x.csrSet 0x300 (wordSet (x.csrGet 0x300) 3 3 0) with
    running := true, pc := d.reg (R.CORE_BOOT h), priv := 3, wfi := false, levels := [], pres := none, resv := none }
  ((d.dropLevels h).setHart h y).intcRefresh
/-- ENABLE written to 0: the core stops; a presentation is withdrawn. -/
def Dev.coreStop (d : Dev) (h : Nat) : Dev :=
  Dev.maskSettle d (d.setHart h { d.hart h with running := false, wfi := false, pres := none, resv := none })
/-- `PCTL.RESTART` (R371, R390): CSRs take reset values and the core starts again at `boot` when enabled; nesting is empty. -/
def Dev.coreRestart (d : Dev) (h : Nat) (boot : Word) (run : Bool) : Dev :=
  ((d.dropLevels h).setHart h { running := run, pc := boot, halted := false }).intcRefresh

/-! ## Ring descriptors (R373, R374) -/

/-- RING_INDEX_WRITE: the software index of ring r; a write that would make the fill exceed N is discarded. -/
def Dev.ringIndex (d : Dev) (now r : Nat) (w : Word) : Dev :=
  let v := w.toNat % 65536
  let fill := if ringDevice r then (d.get (F.RING_HEAD_HEAD r) + 65536 - v) % 65536 else (v + 65536 - d.get (F.RING_TAIL_TAIL r)) % 65536
  if d.ringN r < fill then (d.irq P.RING 1).rep P.RING 0x51 0
  else
    let d1 := (if ringDevice r then d.set (F.RING_TAIL_TAIL r) v else d.set (F.RING_HEAD_HEAD r) v).bumpGen P.RING
    d1.intcRefresh.probe now 0x14 r (d1.ringFill r)

/-- R374: may ring r be enabled? -/
def Dev.ringOk (d : Dev) (r sz : Nat) : Bool :=
  let b := (d.reg (R.RING_BASE r)).toNat
  decide (sz ≤ 12) && decide (b % ringEntry r = 0) && decide (0x20000000 ≤ b) && decide (b < 0x20100000)
    && decide (b + 2 ^ sz * ringEntry r ≤ 0x20100000)

/-- RING_ENABLE_WRITE: a write of `RING_CFGr`. -/
def Dev.ringCfg (d : Dev) (r : Nat) (w : Word) : Dev :=
  let en := d.ringEn r
  let sz := max (wordGet w 3 0) 2
  let d1 := (d.set (F.RING_CFG_WM r) (wordGet w 15 4)).bumpGen P.RING
  let d2 :=
    if en then
      let e := if sz = d.get (F.RING_CFG_SIZE_LOG2 r) then d1 else d1.cfgBusy P.RING
      if w.getLsbD 31 then e else e.put (F.RING_CFG_EN r) false
    else
      let e := d1.set (F.RING_CFG_SIZE_LOG2 r) sz
      if !w.getLsbD 31 then e
      else if e.ringOk r sz then (e.put (F.RING_CFG_ERR r) false).put (F.RING_CFG_EN r) true
      else ((e.put (F.RING_CFG_ERR r) true).irq P.RING 0).rep P.RING 0x52 0
  d2.intcRefresh

/-- A write of `RING_BASEr` (R374). -/
def Dev.ringBase (d : Dev) (r : Nat) (w : Word) : Dev :=
  if d.ringEn r then (if w = d.reg (R.RING_BASE r) then d else d.cfgBusy P.RING)
  else (d.setReg (R.RING_BASE r) w).bumpGen P.RING

/-- R375: a double-bit error in an entry of a software-produced ring stops it. -/
def Dev.ringUe (d : Dev) (r : Nat) : Dev := (((d.put (F.RING_CFG_EN r) false).irq P.RING 2).rep P.RING 0x53 1).intcRefresh

end Sys2Proof.Machine
end

