-- ==== Sys2Proof/Machine/Wire.lean ====
section
/-!
DEFINITION. Machine/Wire.lean: what a link sends, symbol by symbol (14_nynoral_fabric.md, R398 to R400): the symbols of frames and of the
sequences inserted between them, and which the transmitter takes at each symbol boundary.
-/

namespace Sys2Proof.Machine

/-! ## CRC-16/CCITT (R62) -/

def crcBit (c : BitVec 16) (b : Bool) : BitVec 16 := if c.getLsbD 15 != b then (c <<< 1) ^^^ 0x1021 else c <<< 1
/-- The low `n` bits of w, the most significant first. -/
def crcBits (w : Word) : Nat → BitVec 16 → BitVec 16
  | 0, c => c
  | n + 1, c => crcBits w n (crcBit c (w.getLsbD n))
def crcBytes (l : List Byte) (c : BitVec 16) : BitVec 16 := l.foldl (fun c b => crcBits (b.setWidth 32) 8 c) c
def crcFrom (c : BitVec 16) (l : List Word) : BitVec 16 := l.foldl (fun c w => crcBits w 32 c) c
/-- The CRC over words, most significant byte first. -/
def crc16 (l : List Word) : BitVec 16 := crcFrom 0xFFFF l

/-! ## Symbols (R398) -/

/-- A symbol: TYPE 0 DATA, 1 CTRL, 2 BEACON, 3 ECHO. -/
def symOf (type data : Nat) : BitVec 18 := BitVec.ofNat 18 (type * 0x10000 + data % 0x10000)
def ctrlSym (code arg : Nat) : BitVec 18 := symOf 1 (code * 256 + arg % 256)
def echoSym (kind val : Nat) : BitVec 18 := symOf 3 (kind * 16384 + val % 16384)

/-- A word as two DATA symbols. -/
def wordSyms (w : Word) : List (BitVec 18) := [symOf 0 (wordGet w 31 16), symOf 0 (wordGet w 15 0)]

/-- The symbols of a frame with number `seq` (R400): `words` from the link header through the beacon tags, then the frame tag. -/
def frameSyms (seq : Nat) (words : List Word) (tag : Word) : List (BitVec 18) :=
  let all := words ++ [tag]
  ctrlSym 1 seq :: (all.flatMap wordSyms ++ [symOf 0 (crc16 all).toNat, ctrlSym 2 0])

/-- The tag of a beacon as it leaves (R429): the first word of a digest nothing is known of, or its inverse. -/
def BTx.word (n sess cnt : Nat) (b : BTx) : Word :=
  let w := Config.linkTag n sess cnt [w32 b.b0.toNat, w32 b.b1.toNat, w32 b.b2.toNat]
  if b.tag = 2 then ~~~w else w

/-- The words of a frame from the link header through the beacon tags (R400). -/
def Frame.words (f : Frame) (tags : List Word) : List Word :=
  w32 (f.body.length % 128 * 0x2000000 + (!f.link).toNat * 0x1000000 + tags.length % 4 * 0x400000) :: (f.body ++ tags)

/-! ## Sequences inserted between two symbols (R399) -/

/-- The place of a sequence in the order of R399, the first first. -/
def Ins.rank : Ins → Nat
  | .beacon _ _ _ => 0
  | .echoRsp _ => 1
  | .echoReq _ => 2
  | .ack _ => 3
  | .nack _ => 3
  | .credit _ => 4

/-- Its symbols when the first of them begins at t. -/
def Ins.syms (t : Nat) : Ins → List (BitVec 18)
  | .beacon b0 b1 b2 => [symOf 2 b0.toNat, symOf 2 b1.toNat, symOf 2 b2.toNat]
  | .echoRsp t2 => [echoSym 1 ((t - t2) / 16384), echoSym 2 (t - t2)]
  | .echoReq k => [echoSym 0 (k % 64)]
  | .ack q => [ctrlSym 3 q]
  | .nack q => [ctrlSym 4 q]
  | .credit k => [ctrlSym 5 k]

/-- Of the sequences that wait, the one of the lowest rank, the oldest among equals. -/
def firstIns : List Ins → Option (Ins × List Ins)
  | [] => none
  | i :: r => match firstIns r with
    | none => some (i, r)
    | some (j, q) => if j.rank < i.rank then some (j, i :: q) else some (i, r)

/-- R399: the symbol the transmitter takes at a boundary at t: the rest of a sequence under way, which is never split; else the first of the
waiting sequences; else the next of the frame in progress; else IDLE. -/
def Tx.boundary (x : Tx) (t : Nat) : Tx :=
  match x.line with
  | s :: r => { x with sym := s, line := r }
  | [] => match firstIns x.wait with
    | some (i, w) => { x with sym := (i.syms t).headD (ctrlSym 0 0x5A), line := (i.syms t).drop 1, wait := w }
    | none => match x.frames with
      | (s :: r) :: fs => { x with sym := s, frames := if r = [] then fs else r :: fs }
      | [] :: fs => { x with sym := ctrlSym 0 0x5A, frames := fs }
      | [] => { x with sym := ctrlSym 0 0x5A }

/-- Symbols end 46,080 / rate tu apart (18 bits at rate × 5 Mbit/s); where they lie in time is not stated. -/
def symNo (n rate t : Nat) : Nat := (t + Config.symbolPhase n) * rate / 46080
def symAt (n rate k : Nat) : Nat := (k * 46080 + rate - 1) / rate - Config.symbolPhase n

def Tx.boundaries (n rate k : Nat) : Nat → Tx → Tx
  | 0, x => x
  | m + 1, x => Tx.boundaries n rate (k + 1) m (x.boundary (symAt n rate (k + 1)))

/-- Symbols still to be taken, IDLE at the end of them. -/
def Tx.pending (x : Tx) : Nat := x.line.length + 3 * x.wait.length + (x.frames.map List.length).foldl (· + ·) 0 + 1

/-- The transmitter of link n has passed the symbol boundaries up to now. -/
def Tx.run (x : Tx) (n rate now : Nat) : Tx :=
  let k := symNo n rate x.upTo
  { Tx.boundaries n rate k (min (symNo n rate now - k) x.pending) x with upTo := max x.upTo now }

/-- A sequence waits for its place; an ACK stands for those that wait (R404). -/
def Tx.insert (x : Tx) (i : Ins) : Tx :=
  match i with
  | .ack _ => { x with wait := x.wait.filter (fun j => match j with | .ack _ => false | _ => true) ++ [i] }
  | _ => { x with wait := x.wait ++ [i] }

/-- The rate a link sends at: 25 Mbit/s until it has switched (R397). -/
def Nl.txRate (x : Nl) : Nat := if x.switched then max 5 x.rate else 5

end Sys2Proof.Machine
end

