-- ==== Sys2Proof/Machine/Nl.lean ====
section
/-!
DEFINITION. Machine/Nl.lean: the links of the fabric and what the fabric node does to send, route and complete (14_nynoral_fabric.md, R395 to
R421, R425, R430 to R433). What a link receives is in Machine/Fabric.lean. What symbols, cryptography and the exact time of transmission decide
reaches the model as operands (notes/assumptions/61.md).
-/

namespace Sys2Proof.Machine

def Dev.nl (d : Dev) (n : Nat) : Nl := vGet d.nls n
def Dev.setNl (d : Dev) (n : Nat) (x : Nl) : Dev := { d with nls := vSet d.nls n x }
def Dev.updNl (d : Dev) (n : Nat) (f : Nl → Nl) : Dev := d.setNl n (f (d.nl n))
def Dev.nlState (d : Dev) (n : Nat) : Nat := d.get (F.NL_STAT_STATE n)
/-- The link is UP (R397). -/
def Dev.nlUp (d : Dev) (n : Nat) : Bool := d.nlState n == 4
def Dev.upLinks (d : Dev) : List Nat := (List.range 4).filter d.nlUp

/-! ## The transmitter (R400, R403, R404) -/

/-- Credits a frame needs (R403). -/
def Frame.need (f : Frame) : Nat := if f.body.isEmpty then 0 else max 1 ((f.body.length + 15) / 16)

/-- Tags ready to leave, up to three (R429). -/
def readyTags : List BTx → Nat → Nat
  | b :: r, n + 1 => if b.tag = 0 then 0 else readyTags r n + 1
  | _, _ => 0

/-- Retransmissions first, in order, as credits allow (R403). -/
def resend (now : Nat) : List Frame → Nat → List Frame × Nat
  | [], c => ([], c)
  | f :: r, c =>
    if f.wait then
      if f.need ≤ c then
        let (r', c') := resend now r (c - f.need)
        ({ f with wait := false, again := true, sent := now } :: r', c')
      else (f :: r, c)
    else
      let (r', c') := resend now r c
      (f :: r', c')

/-- The symbols of the next new frame of link n: it carries the tags that are ready (R429) and its own (R407). -/
def Nl.newSyms (x : Nl) (n : Nat) (f : Frame) : List (BitVec 18) :=
  let first := x.bcntTx - x.tags.length
  let tags := ((x.tags.take (readyTags x.tags 3)).zipIdx first).map (fun e => e.1.word n x.sess e.2)
  let ws := f.words tags
  frameSyms x.txSeq ws (Config.linkTag n x.sess x.fcntTx ws)

/-- New frames of link n enter the replay buffer and go out while it has fewer than four and credits suffice; `tx` counts them. -/
def Nl.start (x : Nl) (n now : Nat) : List Frame → Nat → Nl × Nat
  | [], tx => ({ x with q := [] }, tx)
  | f :: r, tx =>
    if x.replay.length < 4 ∧ f.need ≤ x.credits then
      let g : Frame := { f with seq := x.txSeq, sent := now, syms := x.newSyms n f }
      let y : Nl := { x with replay := x.replay ++ [g], credits := x.credits - f.need,
                             txSeq := (x.txSeq + 1) % 256, fcntTx := x.fcntTx + 1, tags := x.tags.drop (readyTags x.tags 3),
                             tx := { x.tx with frames := x.tx.frames ++ [g.syms] } }
      y.start n now r (tx + 1)
    else ({ x with q := f :: r }, tx)

/-- Whatever the transmitter of link n can start now. -/
def Dev.nlPump (d : Dev) (now n : Nat) : Dev :=
  if !d.nlUp n then d
  else
    let x := d.nl n
    let (rp, c) := resend now x.replay x.credits
    let again := (x.replay.zip rp).filterMap (fun e => if e.1.wait && !e.2.wait then some e.1.syms else none)
    let w := x.tx.run n x.txRate now
    let y : Nl := { x with replay := rp, credits := c, tx := { w with frames := w.frames ++ again } }
    let (z, tx) := if rp.any (·.wait) then (y, 0) else y.start n now y.q 0
    (d.setNl n z).setReg (R.NL_CNT_TX n) (d.reg (R.NL_CNT_TX n) + w32 tx)

/-- A sequence of symbols waits for its place between the symbols of link n (R399): it takes no credit and no place in the replay buffer. -/
def Dev.insertSyms (d : Dev) (now n : Nat) (i : Ins) : Dev :=
  let x := d.nl n
  d.setNl n { x with tx := (x.tx.run n x.txRate now).insert i }

/-- A frame is queued for an UP link. -/
def Dev.nlSend (d : Dev) (now n : Nat) (f : Frame) : Dev :=
  if d.nlUp n then (d.setNl n { d.nl n with q := (d.nl n).q ++ [f] }).nlPump now n else d

/-- A tag carrier goes ahead of the frames that wait (R401). -/
def Dev.sendCarrier (d : Dev) (now n : Nat) : Dev :=
  (d.setNl n { d.nl n with q := { link := true, body := [] } :: (d.nl n).q }).nlPump now n

/-! ## Transport frames (R412 to R416) -/

def ownUid : Nat := Config.deviceUid.toNat
/-- A UID as four words, [127:96] first. -/
def uidWords (u : Nat) : List Word := [w32 (u / 2 ^ 96), w32 (u / 2 ^ 64), w32 (u / 2 ^ 32), w32 u]
def wordsUid (l : List Word) : Nat := (l.take 4).foldl (fun a w => a * 2 ^ 32 + w.toNat) 0

def Dev.ownAddr (d : Dev) : Nat := d.get F.FAB_STAT_ADDR

structure THdr where
  dst : Nat
  src : Nat
  cls : Nat
  rr : Bool
  ttl : Nat
  seq : Nat
  arg : Nat
  deriving DecidableEq, Repr

/-- Words T0 and T1 (R414). -/
def THdr.words (h : THdr) : List Word :=
  [w32 (h.dst % 256 * 0x1000000 + h.src % 256 * 0x10000 + h.cls % 16 * 0x1000 + h.rr.toNat * 0x800 + h.ttl % 256),
   w32 (h.seq % 65536 * 65536 + h.arg % 65536)]

def wordAtD (l : List Word) (i : Nat) : Word := l.getD i 0

def hdrOf (b : List Word) : THdr :=
  let t0 := wordAtD b 0
  let t1 := wordAtD b 1
  { dst := wordGet t0 31 24, src := wordGet t0 23 16, cls := wordGet t0 15 12, rr := t0.getLsbD 11, ttl := wordGet t0 7 0,
    seq := wordGet t1 31 16, arg := wordGet t1 15 0 }

def setHdr (b : List Word) (h : THdr) : List Word := h.words ++ b.drop 2

/-- The timer node of a frame (R415). -/
def THdr.timer (h : THdr) : Option Nat :=
  if h.cls = 0 ∨ h.cls = 1 ∨ h.cls = 3 ∨ h.cls = 5 then some h.src
  else if h.cls = 2 ∨ h.cls = 4 ∨ h.cls = 6 then some h.dst else none

/-- Entry bits of the routing table (R412): PRI, PV, ALT, AV. -/
def Dev.rte (d : Dev) (a : Nat) : Nat := if 1 ≤ a ∧ a ≤ 63 then d.get (F.FAB_RTE_ENTRY a) else 0

/-- R420: once through ALT with RR set; 0 sent, 2 failed. -/
def Dev.altTry (d : Dev) (now : Nat) (b : List Word) : Dev × Nat :=
  let h := hdrOf b
  let e := d.rte h.dst
  let alt := e / 8 % 4
  if h.rr || e / 32 % 2 == 0 || !d.nlUp alt then (d, 2)
  else ((d.incSat F.FAB_CNT_B_REROUTE).nlSend now alt { link := false, body := setHdr b { h with rr := true } }, 0)

/-- A transport frame leaves by its route (R413): 0 sent, 1 no route, 2 its path failed. -/
def Dev.fabOut (d : Dev) (now : Nat) (b : List Word) : Dev × Nat :=
  let e := d.rte (hdrOf b).dst
  if e / 4 % 2 = 0 then (d, 1)
  else if d.nlUp (e % 4) then (d.nlSend now (e % 4) { link := false, body := b }, 0)
  else d.altTry now b

/-- The next SEQ towards `dst` (R416). -/
def Dev.nextSeq (d : Dev) (dst : Nat) : Dev × Nat :=
  let s := smGetD d.fab.seqTx dst 0
  ({ d with fab := { d.fab with seqTx := smPut d.fab.seqTx dst ((s + 1) % 65536) 0 } }, s)

def Dev.noRoute (d : Dev) : Dev := (d.incSat F.FAB_CNT_C_NOROUTE).rep P.FAB 0x5D 0

/-! ## Messages in flight (R418, R419, R421) -/

def Dev.msgs (d : Dev) : List FabMsg := d.fab.msgs
def Dev.setMsgs (d : Dev) (l : List FabMsg) : Dev := { d with fab := { d.fab with msgs := l } }
def Dev.dropMsg (d : Dev) (m : FabMsg) : Dev := d.setMsgs (d.msgs.filter (fun x => !(x.ring == m.ring && x.src == m.src)))
def Dev.findMsg (d : Dev) (dst seq : Nat) : Option FabMsg := d.msgs.find? (fun x => x.dst == dst && x.seq == seq)
def Dev.putMsg (d : Dev) (m : FabMsg) : Dev :=
  d.setMsgs (d.msgs.map (fun x => if x.ring == m.ring && x.src == m.src then m else x))

/-- Word i of the message whose first entry is at index `i0` of ring r (R418). -/
def Dev.entryAddr (d : Dev) (r i0 i : Nat) : Nat := d.ringAddr r (i0 + i / 16) + 4 * (i % 16)
def Dev.entryWord (d : Dev) (r i0 i : Nat) : Word := d.word (d.entryAddr r i0 i)
def Dev.putEntry (d : Dev) (r i0 : Nat) : Nat → List Word → Dev
  | _, [] => d
  | i, w :: l => (d.setWord (d.entryAddr r i0 i) w).putEntry r i0 (i + 1) l

/-- Interrupts and reports that go with a completion status. -/
def Dev.fabStatus (d : Dev) (st : Nat) : Dev :=
  if st = 1 then (d.incSat F.FAB_CNT_A_TIMEOUT).rep P.FAB 0x5E 0
  else if st = 2 then (d.incSat F.FAB_CNT_A_PATHFAIL).rep P.FAB 0x5F 0 else d

/-- An FTX message ends (R418): the entry at TAIL gets STATUS, SEQ, RSTAT and the data, and TAIL passes it. -/
def Dev.ftxDone (d : Dev) (now r at0 nent seq st rstat : Nat) (data : List Word) : Dev :=
  let ring := 16 + r
  let t := d.get (F.RING_TAIL_TAIL ring)
  let w1 := d.entryWord ring t 1
  let d1 := d.setWord (d.entryAddr ring t 1) (wordSet (wordSet (wordSet w1 31 16 seq) 15 12 st) 11 8 rstat)
  let d2 := (d1.putEntry ring t 2 data).set (F.RING_TAIL_TAIL ring) (t + nent)
  let d3 := d2.intcRefresh.probe now 0x14 ring (d2.ringFill ring)
  let d4 := if st = 0 then d3 else d3.irq P.FAB 2
  d4.probe now 0x13 r (now - at0 : Nat)

/-- A message in flight completes. -/
def Dev.fabComplete (d : Dev) (now : Nat) (m : FabMsg) (st rstat : Nat) (data : List Word) : Dev :=
  let d1 := (d.dropMsg m).fabStatus st
  if m.ring < 4 then d1.ftxDone now m.ring m.at0 m.nent m.seq st rstat data
  else if st = 0 then ({ d1 with intc := d1.intc.clrAct m.src }).intcRefresh
  else d1.fabIntFail m.src

/-- The rest of the pauses a message may take (R419). -/
def Dev.pauseLeft (d : Dev) (m : FabMsg) : Nat := d.get F.FAB_TO2_MAX_PAUSE * 12800 - m.paused
/-- The open pause of a message ends. -/
def Dev.endPause (d : Dev) (now : Nat) (m : FabMsg) : FabMsg :=
  match m.hold with
  | none => m
  | some t =>
    let p := min (now - t) (d.pauseLeft m)
    { m with hold := none, paused := m.paused + p, deadline := m.deadline + p }

/-- A NOTICE at its timer node: 0 HOLD, 1 RELEASE, 2 PATH, with the word that names the message. -/
def Dev.localNotice (d : Dev) (now kind : Nat) (w : Word) : Dev :=
  match d.findMsg (wordGet w 7 0) (wordGet w 31 16) with
  | none => d
  | some m =>
    if kind = 0 then (if m.hold.isNone ∧ d.pauseLeft m ≠ 0 then d.putMsg { m with hold := some now } else d)
    else if kind = 1 then d.putMsg (d.endPause now m)
    else if kind = 2 then d.fabComplete now m 2 0 []
    else d

/-- NOTICE `kind` about the frame with header h, to its timer node (R413, R419, R420). -/
def Dev.notice (d : Dev) (now kind : Nat) (h : THdr) : Dev :=
  match h.timer with
  | none => d
  | some node =>
    let w := w32 (h.seq * 65536 + h.src * 256 + h.dst)
    if node = d.ownAddr then d.localNotice now kind w
    else
      let (d1, seq) := d.nextSeq node
      let b := THdr.words { dst := node, src := d.ownAddr, cls := 7, rr := false, ttl := d.get F.FAB_TTL_TTL, seq := seq, arg := kind * 0x1000 }
      let (d2, r) := d1.fabOut now (b ++ [w])
      if r = 1 then d2.noRoute else d2

/-- R413: a dropped frame. -/
def Dev.fabDrop (d : Dev) (now : Nat) (h : THdr) : Dev := d.noRoute.notice now 2 h

/-- A frame goes on; a path that fails is told to its timer node (R413, R420). -/
def Dev.fabForward (d : Dev) (now : Nat) (b : List Word) : Dev :=
  let (d1, r) := d.fabOut now b
  if r = 1 then d1.fabDrop now (hdrOf b) else if r = 2 then d1.notice now 2 (hdrOf b) else d1

/-- Ports that lead to the parent or to a child in the root tree (R413). -/
def Dev.treePorts (d : Dev) : List Nat :=
  d.upLinks.filter (fun p => d.fab.parent == some p || (match vGet d.fab.nbr p with
    | some x => d.fab.via.contains (x.uid, p)
    | none => false))

/-- A response to `node` about the message with number `seq` (R415): it carries that number. -/
def Dev.respond (d : Dev) (now node cls seq arg : Nat) (payload : List Word) : Dev :=
  let h : THdr := { dst := node, src := d.ownAddr, cls := cls, rr := false, ttl := d.get F.FAB_TTL_TTL, seq := seq, arg := arg }
  d.fabForward now (h.words ++ payload)

/-- Class timeout in tu (R415). -/
def Dev.classTo (d : Dev) (cls : Nat) : Nat :=
  (if cls = 5 then d.get F.FAB_TO_MSG_TO else if cls = 3 then d.get F.FAB_TO2_INTR_TO else d.get F.FAB_TO_REG_TO) * 12800

/-- INTC messages that wait are formed and sent (R389): each source once. -/
def Dev.intrSend (d : Dev) (now s : Nat) : Dev :=
  let v := d.reg (R.INTC_SRC_VEC s)
  let node := wordGet v 5 0
  let num := wordGet v 13 8
  if !d.enabled P.FAB || d.ownAddr == 0 then d.fabIntFail s
  else
    let (d1, seq) := d.nextSeq node
    let h : THdr := { dst := node, src := d.ownAddr, cls := 3, rr := false, ttl := d.get F.FAB_TTL_TTL, seq := seq, arg := num }
    let (d2, r) := d1.fabOut now h.words
    if r = 0 then d2.setMsgs (d2.msgs ++ [{ ring := 4, src := s, dst := node, cls := 3, seq := seq, at0 := now, deadline := now + d2.classTo 3 }])
    else d2.fabIntFail s

def Dev.fabPump (d : Dev) (now : Nat) : Dev :=
  d.intc.send.foldl (fun d s => d.intrSend now s) { d with intc := { d.intc with send := [] } }

/-- FTX_ENTRY (R418): the message at TAIL of FTX ring r. -/
def Dev.ftxEntry (d : Dev) (now r : Nat) : Dev :=
  let ring := 16 + r
  let t := d.get (F.RING_TAIL_TAIL ring)
  let w0 := d.entryWord ring t 0
  let w1 := d.entryWord ring t 1
  let nent := wordGet w0 19 18 + 1
  if !d.enabled P.FAB || d.restarting P.FAB || d.frozen P.FAB || !d.ringEn ring || d.msgs.any (fun m => m.ring == r)
      || decide (d.ringFill ring < nent) then d
  else
    let dst := wordGet w0 31 24
    let cls := wordGet w0 23 20
    let len := wordGet w1 6 0
    let room := 14 + 16 * (nent - 1)
    let payload := (List.range (min len 62)).map (fun i => d.entryWord ring t (2 + i))
    let bad := fun (d : Dev) seq st => (d.fabStatus st).ftxDone now r now nent seq st 0 []
    if !(cls == 0 || cls == 1 || cls == 5) || (dst == 0xFF && cls != 5) then bad d 0 6
    else if 62 < len ∨ room < len ∨ (cls = 0 ∧ room < 2 + wordGet (wordAtD payload 1) 3 0) then bad d 0 5
    else if d.ownAddr = 0 then bad d 0 3
    else if dst = 0xFF then
      let ports := d.treePorts
      if ports.isEmpty then bad d 0 3
      else
        let (d1, seq) := d.nextSeq 0xFF
        let h : THdr := { dst := 0xFF, src := d.ownAddr, cls := 5, rr := false, ttl := d.get F.FAB_TTL_TTL, seq := seq, arg := wordGet w0 15 0 }
        let d2 := ports.foldl (fun (d : Dev) p => d.nlSend now p { link := false, body := h.words ++ payload }) d1
        d2.ftxDone now r now nent seq 0 0 []
    else
      let (d1, seq) := d.nextSeq dst
      let h : THdr := { dst := dst, src := d.ownAddr, cls := cls, rr := false, ttl := d.get F.FAB_TTL_TTL, seq := seq,
                        arg := if cls = 5 then wordGet w0 15 0 else 0 }
      let (d2, o) := d1.fabOut now (h.words ++ payload)
      if o = 1 then bad d2 seq 3
      else if o = 2 then bad d2 seq 2
      else
        let cnt := if cls = 0 then wordGet (wordAtD payload 1) 3 0 + 1 else 0
        d2.setMsgs (d2.msgs ++ [{ ring := r, dst := dst, cls := cls, seq := seq, at0 := now, deadline := now + d2.classTo cls,
                                  nent := nent, cnt := cnt }])

/-- MESSAGE_TIMEOUT (R421) of the message of FTX ring r, or of interrupt source `s` when r is 4. -/
def Dev.messageTimeout (d : Dev) (now r s : Nat) : Dev :=
  match d.msgs.find? (fun m => m.ring == r && (decide (r < 4) || m.src == s)) with
  | some m => if m.hold.isNone ∧ m.deadline ≤ now then d.fabComplete now m 1 0 [] else d
  | none => d

/-- MAX_PAUSE (R419). -/
def Dev.maxPause (d : Dev) (now r s : Nat) : Dev :=
  match d.msgs.find? (fun m => m.ring == r && (decide (r < 4) || m.src == s)) with
  | some m => match m.hold with
    | some t => if t + d.pauseLeft m ≤ now then d.putMsg (d.endPause now m) else d
    | none => d
  | none => d

/-! ## Discovery (R409 to R412) -/

/-- This node's HELLO. -/
def Dev.helloBody (d : Dev) : List Word :=
  w32 (0x02000000 + d.fab.dist * 0x10000 + d.get F.FAB_STAT_EPOCH * 256 + d.ownAddr) ::
    (uidWords ownUid ++ uidWords (d.fab.root.getD ownUid)
      ++ [w32 ((d.flag F.FAB_CFG_FIXED).toNat * 256 + d.get F.FAB_CFG_ADDR_REQ)])

def Dev.sendHello (d : Dev) (now : Nat) : Dev :=
  if d.enabled P.FAB then d.upLinks.foldl (fun (d : Dev) p => d.nlSend now p { link := true, body := d.helloBody }) d else d

/-- This node's TOPO (R410). -/
def Dev.topoBody (d : Dev) : List Word :=
  let peer := fun p => if d.nlUp p then (List.range 4).map (fun i => d.reg (R.NL_PEER p i)) else [0, 0, 0, 0]
  w32 (0x03000000 + d.get F.FAB_STAT_EPOCH * 256 + d.ownAddr) ::
    (uidWords ownUid ++ [w32 ((d.flag F.FAB_CFG_FIXED).toNat * 256 + d.get F.FAB_CFG_ADDR_REQ)]
      ++ peer 0 ++ peer 1 ++ peer 2 ++ peer 3)

def Dev.isRoot (d : Dev) : Bool := d.fab.root == some ownUid

/-- A node meets a new epoch: a root collects, another node sends TOPO to its parent. -/
def Dev.newEpoch (d : Dev) (now ep : Nat) : Dev :=
  let d1 := ((d.set F.FAB_STAT_EPOCH ep).incSat F.FAB_CNT_C_REDISC).irq P.FAB 1
  let d2 : Dev := { d1 with fab := { d1.fab with maxEpoch := max d1.fab.maxEpoch ep, advAt := now } }
  if d2.isRoot then
    ({ d2 with fab := { d2.fab with collecting := true, topo := [(ownUid, d2.topoBody)], topoAt := now } }).sendHello now
  else match d2.fab.parent with
  | some p => (d2.sendHello now).nlSend now p { link := true, body := d2.topoBody }
  | none => d2

/-- CHG (R411): the root begins the next epoch; any other node tells its parent. -/
def Dev.sendChg (d : Dev) (now : Nat) : Dev :=
  if !d.enabled P.FAB then d
  else if d.isRoot then d.newEpoch now ((d.get F.FAB_STAT_EPOCH + 1) % 256)
  else match d.fab.parent with
  | some p => d.nlSend now p { link := true, body := w32 (0x05000000 + d.get F.FAB_STAT_EPOCH * 256) :: uidWords ownUid }
  | none => d

/-- R409: the root and the distance the neighbours' advertisements give. -/
def bestRoot (own : Nat) : List (Option Nbr) → Nat × Nat
  | [] => (own, 0)
  | none :: r => bestRoot own r
  | some x :: r =>
    let (u, k) := bestRoot own r
    if 62 < x.dist then (u, k) else if x.root < u ∨ (x.root = u ∧ x.dist + 1 < k) then (x.root, x.dist + 1) else (u, k)

/-- R409: adopt; a changed advertisement is sent, and a node just elected starts an epoch. -/
def Dev.adopt (d : Dev) (now : Nat) : Dev :=
  if !d.enabled P.FAB then d
  else
    let f := d.fab
    let (u, k) := bestRoot ownUid f.nbr.toList
    let par := if k = 0 then none else (List.range 4).find? (fun p => match vGet f.nbr p with
      | some x => x.root == u && x.dist + 1 == k
      | none => false)
    let d1 : Dev := { d with fab := { f with parent := par } }
    if f.root = some u ∧ f.dist = k then d1
    else
      let d2 : Dev := { d1 with fab := { d1.fab with root := some u, dist := k, advAt := now } }
      let d3 := ((List.range 4).foldl (fun (d : Dev) i => d.setReg (R.FAB_ROOTUID i) (wordAtD (uidWords u) i)) d2).put F.FAB_STAT_ROOT (u == ownUid)
      let d4 := d3.sendHello now
      if u = ownUid ∧ f.root ≠ some ownUid then d4.newEpoch now ((d4.fab.maxEpoch + 1) % 256) else d4

/-- `FAB_STAT.SETTLED` (R409). -/
def Dev.fabSettled (d : Dev) (now : Nat) : Bool :=
  d.enabled P.FAB && d.fab.gotEpoch == some (d.get F.FAB_STAT_EPOCH)
    && decide (d.fab.advAt + d.get F.FAB_CFG_SETTLE * 12800000 ≤ now)

/-- What a TOPO says. -/
structure Topo where
  uid : Nat
  addr : Nat
  fixed : Bool
  req : Nat
  peers : List Nat
  deriving DecidableEq, Repr

def topoOf (b : List Word) : Topo :=
  { uid := wordsUid (b.drop 1), addr := wordGet (wordAtD b 0) 5 0, fixed := (wordAtD b 5).getLsbD 8, req := wordGet (wordAtD b 5) 5 0,
    peers := (List.range 4).map (fun p => wordsUid (b.drop (6 + 4 * p))) }

/-- R411 step 3: one pass gives addresses (UID, address) to the nodes it accepts. -/
def assignPass (pick : Topo → List (Nat × Nat) → Option Nat) : List Topo → List (Nat × Nat) → List (Nat × Nat)
  | [], g => g
  | t :: r, g =>
    if g.any (fun e => e.1 == t.uid) then assignPass pick r g
    else match pick t g with
    | some a => assignPass pick r (g ++ [(t.uid, a)])
    | none => assignPass pick r g

def addrFree (g : List (Nat × Nat)) (a : Nat) : Bool := decide (1 ≤ a) && decide (a ≤ 63) && !g.any (fun e => e.2 == a)

/-- R411: the addresses of the nodes, in ascending UID order. -/
def assignAddrs (l : List Topo) : List (Nat × Nat) :=
  let l' := sortBy (fun a b => decide (a.uid < b.uid)) l
  let g1 := assignPass (fun t g => if t.fixed && addrFree g t.req then some t.req else none) l' []
  let g2 := assignPass (fun t g => if addrFree g t.addr then some t.addr else none) l' g1
  assignPass (fun _ g => (List.range 64).find? (addrFree g)) l' g2

/-- Nodes one hop further, without `u`. -/
def spread (l : List Topo) (u : Nat) (seen frontier : List Nat) : List Nat :=
  l.filterMap (fun t => if t.uid ≠ u ∧ !seen.contains t.uid ∧ t.peers.any (fun p => frontier.contains p) then some t.uid else none)

/-- Hops from the nodes in `frontier` to `v` avoiding `u` (R412). -/
def hopsTo (l : List Topo) (u v : Nat) : Nat → List Nat → List Nat → Option Nat
  | 0, _, _ => none
  | n + 1, seen, fr =>
    if fr.contains v then some 0
    else if fr.isEmpty then none
    else
      let nx := spread l u seen fr
      (hopsTo l u v n (seen ++ nx) nx).map (· + 1)

/-- The port of `ports` whose neighbour is nearest to v, the lowest among equals. -/
def nearest (l : List Topo) (t : Topo) (v : Nat) (ports : List Nat) : Option Nat :=
  let far := fun p => let w := t.peers.getD p 0
    if w = 0 ∨ w = t.uid ∨ !l.any (fun x => x.uid == w) then none else hopsTo l t.uid v (l.length + 1) [w] [w]
  (ports.foldl (fun (m : Option (Nat × Nat)) p => match m, far p with
    | none, some h => some (p, h)
    | some (q, k), some h => if h < k then some (p, h) else some (q, k)
    | m, none => m) none).map (·.1)

/-- R412: the entry of node t for the node v. -/
def routeEntry (l : List Topo) (t : Topo) (v : Nat) : Nat :=
  if t.uid = v then 0
  else match nearest l t v [0, 1, 2, 3] with
  | none => 0
  | some p => match nearest l t v ([0, 1, 2, 3].filter (· != p)) with
    | none => p + 4
    | some q => p + 4 + q * 8 + 32

/-- ASSIGN for node t (R410). -/
def assignBody (l : List Topo) (g : List (Nat × Nat)) (t : Topo) (ep : Nat) : List Word :=
  let entry := fun a => match g.find? (fun e => e.2 == a) with
    | some e => routeEntry l t e.1
    | none => 0
  let addr := match g.find? (fun e => e.1 == t.uid) with | some e => e.2 | none => 0
  w32 (0x04000000 + ep * 256) :: (uidWords t.uid ++ [w32 (l.length % 64 * 256 + addr)]
    ++ (List.range 16).map (fun i => w32 (entry (4 * i) * 0x1000000 + entry (4 * i + 1) * 0x10000 + entry (4 * i + 2) * 0x100 + entry (4 * i + 3))))

/-- This node's ASSIGN takes effect (R411). -/
def Dev.takeAssign (d : Dev) (b : List Word) : Dev :=
  let a := wordGet (wordAtD b 5) 5 0
  let d1 : Dev := if a = d.ownAddr then d else { d with fab := { d.fab with seqTx := [], rxWin := [], resp := [] } }
  let d2 := (d1.set F.FAB_STAT_ADDR a).set F.FAB_STAT_NNODES (wordGet (wordAtD b 5) 13 8)
  let d3 := (List.range 64).foldl (fun (d : Dev) i =>
    let w := wordAtD b (6 + i / 4)
    d.set (F.FAB_RTE_ENTRY i) (wordGet w (31 - 8 * (i % 4)) (24 - 8 * (i % 4)))) d2
  let d4 : Dev := { d3 with fab := { d3.fab with gotEpoch := some (wordGet (wordAtD b 0) 15 8) } }
  let d5 := d4.irq P.FAB 0
  if d.flag F.FAB_CFG_FIXED && a != d.get F.FAB_CFG_ADDR_REQ then ((d5.put F.FAB_STAT_CONFLICT true).irq P.FAB 3).rep P.FAB 0x5B 0 else d5

/-- An ASSIGN for `uid` goes down the tree. -/
def Dev.passAssign (d : Dev) (now : Nat) (b : List Word) : Dev :=
  let u := wordsUid (b.drop 1)
  if u = ownUid then d.takeAssign b
  else match d.fab.via.find? (fun e => e.1 == u) with
  | some e => d.nlSend now e.2 { link := true, body := b }
  | none => d

/-- SETTLE_EXPIRY (R411): collection ends at a root that holds a TOPO of every node named. -/
def Dev.settleExpiry (d : Dev) (now : Nat) : Dev :=
  let l := d.fab.topo.map (fun e => topoOf e.2)
  let full := l.all (fun t => t.peers.all (fun p => p == 0 || l.any (fun x => x.uid == p)))
  if d.enabled P.FAB && d.isRoot && d.fab.collecting && full && decide (d.fab.topoAt + d.get F.FAB_CFG_SETTLE * 12800000 ≤ now) then
    let g := assignAddrs l
    let d1 : Dev := { d with fab := { d.fab with collecting := false } }
    let d2 := l.foldl (fun (d : Dev) t => d.passAssign now (assignBody l g t (d.get F.FAB_STAT_EPOCH))) d1
    if g.length < l.length then d2.rep P.FAB 0x5C 1 else d2
  else d

/-- R48: FAB is enabled or disabled. -/
def Dev.fabEnable (d : Dev) (now : Nat) : Dev := ({ d with fab := { d.fab with root := none } }).adopt now
def Dev.fabDisable (d : Dev) : Dev :=
  ({ d with fab := { d.fab with nbr := Vector.replicate 4 none, root := none, parent := none, dist := 0, collecting := false } }).put F.FAB_STAT_ROOT false

/-- R431: every message in flight completes with PATH_FAIL. -/
def Dev.failAll (d : Dev) (now : Nat) : Dev := d.msgs.foldl (fun (d : Dev) m => d.fabComplete now m 2 0 []) d

/-! ## Link states (R397) -/

/-- The link has left AUTH or UP: frames it held are rerouted or failed (R420), its neighbour is forgotten, and the change is told. -/
def Dev.linkGone (d : Dev) (now n : Nat) (wasUp : Bool) : Dev :=
  let x := d.nl n
  let held := (x.replay ++ x.q).filter (fun f => !f.link)
  let d1 := d.setNl n { x with q := [], replay := [], tx := { upTo := now }, tags := [], rxTags := x.rxTags.map (fun b => { b with orphan := true }), smp := [], echoOut := none, nacked := false, switched := false,
                               peerRate := none, bad := 0 }
  let d2 := held.foldl (fun (d : Dev) f => let (d', r) := d.altTry now f.body; if r = 0 then d' else d'.notice now 2 (hdrOf f.body)) d1
  let d3 := (d2.set (F.NL_RATE_RATE n) 0).put (F.NL_STAT_RETRYING n) false
  if wasUp then
    let d4 : Dev := { d3 with fab := { d3.fab with nbr := vSet d3.fab.nbr n none, via := d3.fab.via.filter (fun e => e.2 != n) } }
    (d4.adopt now).sendChg now
  else d3

/-- Entry to DOWN commits RATE_MAX (R431). -/
def Dev.nlIdle (d : Dev) (n : Nat) : Dev := (d.set (F.NL_STAT_STATE n) 1).commitSel (P.NL n) (fun a => a == R.NL_RATE n)

/-- The link returns to DOWN with a cause (R397). -/
def Dev.nlDown (d : Dev) (now n cause : Nat) : Dev :=
  let st := d.nlState n
  if st = 2 ∨ st = 3 ∨ st = 4 then
    let d1 := (d.set (F.NL_STAT_LAST_DOWN n) cause).nlIdle n
    let d2 := (d1.linkGone now n (st == 4)).updNl n (fun x => if cause = 4 then { x with tx := { x.tx with line := [ctrlSym 7 cause] } } else x)
    if st = 4 then ((d2.incSat (F.NL_CNT_B_DOWN n)).irq (P.NL n) 1).rep (P.NL n) 0x56 1 else d2
  else d

/-- ENABLE of a link (R397). -/
def Dev.nlEnable (d : Dev) (n : Nat) : Dev := if d.nlState n = 0 then d.nlIdle n else d
/-- ENABLE written to 0, or a block restart: OFF with the effects of R420. -/
def Dev.nlOff (d : Dev) (now n : Nat) : Dev :=
  let st := d.nlState n
  (d.set (F.NL_STAT_STATE n) 0).linkGone now n (st == 4)

/-- LINK_ALIGN: the link sends RATE, then IDLE. -/
def Dev.linkAlign (d : Dev) (now n : Nat) : Dev :=
  if d.nlState n = 1 then (d.set (F.NL_STAT_STATE n) 2).setNl n { d.nl n with
      peerRate := none
      switched := false
      bad := 0
      tx := { line := [ctrlSym 6 (d.eff (F.NL_RATE_RATE_MAX n))], upTo := now } }
  else d
/-- RATE: the peer's maximum. -/
def Dev.nlRate (d : Dev) (n rate : Nat) : Dev :=
  if d.nlState n = 2 then d.setNl n { d.nl n with peerRate := some rate, bad := 0 } else d
/-- RATE_SWITCH: the lower of the two maxima. -/
def Dev.rateSwitch (d : Dev) (n : Nat) : Dev :=
  match (d.nl n).peerRate with
  | some r => if d.nlState n = 2 then d.setNl n { d.nl n with rate := min r (d.eff (F.NL_RATE_RATE_MAX n)), switched := true } else d
  | none => d

/-- A valid symbol arrives: the first one at the new rate takes ALIGN to AUTH. -/
def Dev.nlHear (d : Dev) (n : Nat) : Dev :=
  let x := d.nl n
  if d.nlState n = 2 ∧ x.switched then
    (d.set (F.NL_STAT_STATE n) 3).setNl n { x with bad := 0, credits := 16, txSeq := 0, rxExp := 0, nacked := false, q := [], replay := [] }
  else d.setNl n { x with bad := 0 }

/-- INVALID_SYMBOL; `run` tells that the symbol before was invalid too. -/
def Dev.invalidSymbol (d : Dev) (now n : Nat) (run : Bool) : Dev :=
  let x := d.nl n
  let k := if run then x.bad + 1 else 1
  let d1 := d.setNl n { x with bad := k }
  if 4 ≤ k then d1.nlDown now n 1 else d1

/-- AUTH fails (R406). -/
def Dev.authFail (d : Dev) (now n : Nat) : Dev :=
  if d.nlState n = 3 then
    let d1 := ((d.set (F.NL_STAT_STATE n) 5).set (F.NL_STAT_LAST_DOWN n) 5).linkGone now n false
    let d2 := d1.setNl n { d1.nl n with backEnd := now + max 1 (d.eff (F.NL_CFG_BACKOFF n)) * 128000000 }
    ((d2.incSat (F.NL_CNT_C_AUTHFAIL n)).irq (P.NL n) 3).rep (P.NL n) 0x58 1
  else d

/-- AUTH completes: entry to UP. `txSeq` is the next number of this side after its AUTH frames, `port` the peer's link. -/
def Dev.authDone (d : Dev) (now n : Nat) (uid : List Word) (port txSeq : Nat) : Dev :=
  if d.nlState n = 3 then
    let x := d.nl n
    let d1 := ((d.set (F.NL_STAT_STATE n) 4).set (F.NL_STAT_PEER_PORT n) port).set (F.NL_RATE_RATE n) x.rate
    let d2 := (List.range 4).foldl (fun (d : Dev) i => d.setReg (R.NL_PEER n i) (wordAtD uid i)) d1
    let d3 := d2.setNl n { x with credits := 16, txSeq := txSeq % 256, fcntTx := 0, fcntRx := 0, bcntTx := 0, bcntRx := 0, q := [], replay := [],
                                  tags := [], sess := x.sess + 1, smp := [], echoOut := none, echoN := 0, echoNext := now }
    let d4 := d3.irq (P.NL n) 0
    let d5 := if d4.enabled P.FAB then d4.nlSend now n { link := true, body := d4.helloBody } else d4
    d5.sendChg now
  else d

/-- BACKOFF_END. -/
def Dev.backoffEnd (d : Dev) (now n : Nat) : Dev := if d.nlState n = 5 ∧ (d.nl n).backEnd ≤ now then d.nlIdle n else d

/-! ## Acknowledgement and retry (R404, R405) -/

/-- Number `a` is at or before number `b`, modulo 256. -/
def seqLe (a b : Nat) : Bool := decide ((b + 256 - a) % 256 < 128)

/-- R431: the other RWS fields of the link commit when no frame is being retried. -/
def Dev.nlSettle (d : Dev) (n : Nat) : Dev :=
  let d1 := d.put (F.NL_STAT_RETRYING n) ((d.nl n).replay.any (fun f => f.again || f.wait))
  if d1.flag (F.NL_STAT_RETRYING n) then d1 else d1.commitSel (P.NL n) (fun a => a == R.NL_CFG n)

/-- Frames up to number `seq` are accepted by the peer. -/
def Dev.freeFrames (d : Dev) (now n seq : Nat) : Dev :=
  let x := d.nl n
  let gone := x.replay.filter (fun f => seqLe f.seq seq)
  let d1 := d.setNl n { x with replay := x.replay.filter (fun f => !seqLe f.seq seq) }
  gone.foldl (fun (d : Dev) f =>
    if f.again then
      let e := d.rep (P.NL n) 0x57 0
      if f.link then e else e.notice now 1 (hdrOf f.body)
    else d) d1

/-- ACK. -/
def Dev.nlAck (d : Dev) (now n seq : Nat) : Dev :=
  let d0 := d.nlHear n
  if d0.nlUp n then ((d0.freeFrames now n seq).nlPump now n).nlSettle n else d0

/-- One retry of the oldest frame: all frames of the replay buffer are sent again (R404, R405, R419). -/
def Dev.nlRetry (d : Dev) (now n : Nat) : Dev :=
  let x := d.nl n
  match x.replay with
  | [] => d
  | f :: r =>
    if d.eff (F.NL_CFG_RETRY_MAX n) ≤ f.retries then d.nlDown now n 2
    else
      let fresh := x.replay.filter (fun g => !g.link && !g.again && !g.wait)
      let d1 := d.setNl n { x with replay := { f with retries := f.retries + 1, wait := true } :: r.map (fun g => { g with wait := true }) }
      let d2 := ((d1.incSat (F.NL_CNT_A_NACK n)).irq (P.NL n) 2).put (F.NL_STAT_RETRYING n) true
      let d3 := fresh.foldl (fun (d : Dev) g => if (hdrOf g.body).cls = 7 then d else d.notice now 0 (hdrOf g.body)) d2
      d3.nlPump now n

/-- NACK: the peer expects number `seq`; earlier frames are accepted. -/
def Dev.nlNack (d : Dev) (now n seq : Nat) : Dev :=
  let d0 := d.nlHear n
  if d0.nlUp n then (((d0.freeFrames now n ((seq + 255) % 256)).nlRetry now n).nlPump now n).nlSettle n else d0

/-- ACK_TIMEOUT. -/
def Dev.ackTimeout (d : Dev) (now n : Nat) : Dev :=
  match (d.nl n).replay with
  | f :: _ => if d.nlUp n && !f.wait && decide (f.sent + d.eff (F.NL_CFG_ACK_TO n) * 12800 ≤ now) then d.nlRetry now n else d
  | [] => d

/-- CREDIT: `k` receive buffers return. -/
def Dev.nlCredit (d : Dev) (now n k : Nat) : Dev :=
  let d0 := d.nlHear n
  let x := d0.nl n
  (d0.setNl n { x with credits := min 16 (x.credits + k) }).nlPump now n

/-! ## Echoes (R425) -/

/-- ECHO_REQUEST_TIMER. -/
def Dev.echoTimer (d : Dev) (now n : Nat) : Dev :=
  let x := d.nl n
  if d.nlUp n ∧ x.echoNext ≤ now then
    (d.insertSyms now n (.echoReq x.echoN)).updNl n fun x => { x with echoOut := some now, echoN := x.echoN + 1, echoNext := now + (if x.echoN + 1 < 8 then 128000 else 128000000) }
  else d

/-- ECHO_RSP: it arrives at `t4` after residence r. The rounding of the mean to a tu is open. -/
def Dev.echoRsp (d : Dev) (now n r t4 : Nat) : Dev :=
  let d0 := d.nlHear n
  let x := d0.nl n
  match x.echoOut with
  | some t1 =>
    if !d0.nlUp n then d0
    else
      let s := t4 - t1 - r
      let l := (s :: x.smp).take 8
      let sum := l.foldl (· + ·) 0
      let up := d0.fresh % 2
      let lat := if sum % (2 * l.length) = 0 then sum / (2 * l.length) else sum / (2 * l.length) + up
      let hi := l.foldl max 0
      let lo := l.foldl min hi
      let spr := if (hi - lo) % 2 = 0 then (hi - lo) / 2 else (hi - lo) / 2 + up
      let d1 := (d0.tickFree.setNl n { x with echoOut := none, smp := l }).set (F.NL_LAT_LAT n) (min lat 0xFFFFF)
      ((d1.set (F.NL_LATSPR_SPREAD n) (min spr 0xFFFF)).probe now 0x11 n (s / 2 : Nat))
  | none => d0

/-- ECHO_TIMEOUT. -/
def Dev.echoTimeout (d : Dev) (now n : Nat) : Dev :=
  match (d.nl n).echoOut with
  | some t => if t + 12800000 ≤ now then d.setNl n { d.nl n with echoOut := none } else d
  | none => d

/-! ## Presets and clears (R430, R432, R433) -/

def Dev.nlClr (d : Dev) (n : Nat) : Dev :=
  [R.NL_CNT_A n, R.NL_CNT_B n, R.NL_CNT_C n, R.NL_CNT_TX n, R.NL_CNT_RX n].foldl (fun d a => d.setReg a 0) d
def Dev.nlLatch (d : Dev) (who : Initiator) (n : Nat) : Dev :=
  d.setLatches who ([1, 2, 3].map (fun i => (R.NL_PEER n i, d.reg (R.NL_PEER n i))))
def Dev.fabClr (d : Dev) : Dev := ((d.setReg R.FAB_CNT_A 0).setReg R.FAB_CNT_B 0).setReg R.FAB_CNT_C 0
/-- A link's RWS fields commit at once while it is disabled, NL_CFG also while nothing is retried (R431). -/
def Dev.nlWritten (d : Dev) (n : Nat) : Dev :=
  if !d.enabled (P.NL n) then d.commit (P.NL n)
  else if d.flag (F.NL_STAT_RETRYING n) then d else d.commitSel (P.NL n) (fun a => a == R.NL_CFG n)

end Sys2Proof.Machine
end

