-- ==== Sys2Proof/Machine/Pred.lean ====
section
/-!
DEFINITION. Machine/Pred.lean: the predictor (05_angle_prediction.md): exact rational arithmetic with one rounding (R130), the
fit (R134), projections (R137, R138), the reported angle (R140 to R142) and the dune profile (R145 to R152).
-/

namespace Sys2Proof.Machine

/-! ## Model arithmetic -/

/-- Four times the radicand of R137 in su²: the floor on a_p makes it at least ω². -/
def radicand4 (omega : Nat) (acc : Int) (phi : Nat) : Int :=
  let a := 4 * (omega * omega : Nat) + 2048 * acc * (phi : Int)
  let b : Int := (omega * omega : Nat)
  if a < b then b else a

/-- R137: does the floor act on a_p for this angle? -/
def floorActs (omega : Nat) (acc : Int) (phi : Nat) : Bool :=
  decide (4 * (omega * omega : Nat) + 2048 * acc * (phi : Int) < ((omega * omega : Nat) : Int))

/-- D × tau_s(Φ) of R137, rounded once to nearest with ties away from zero, exactly: the largest n with
n − 1/2 ≤ D × tau_s. `ratio` is D with 30 fractional bits. -/
def tauRound (omega : Nat) (acc : Int) (phi ratio : Nat) : Nat :=
  if omega = 0 then Config.openTau phi
  else
    let s4 := radicand4 omega acc phi
    let x : Int := 8192 * (phi * ratio : Nat)
    searchMax (fun n =>
      let m : Int := 2 * (n : Int) - 1
      let y := x - 2 * m * (omega : Int)
      decide (0 ≤ y) && decide (m * m * s4 ≤ y * y)) 64 0

def oneRatio : Nat := 0x40000000

/-- e_i of R134: the period in dune-corrected time. -/
def Period.e (p : Period) : Rt := ⟨(p.d * 0x40000000 : Nat), p.ratio⟩
/-- v_i of R134. -/
def Period.v (p : Period) : Rt := (Rt.ofInt p.sc).div p.e

/-- m_i of R134, newest first. -/
def fitMids : Rt → List Period → List Rt
  | _, [] => []
  | before, p :: r => ((before.add (p.e.div (Rt.ofInt 2))).neg) :: fitMids (before.add p.e) r

structure Fit where
  omega : Nat
  acc : Int
  clamped : Bool

/-- R134, R135: least squares over the periods given, acceleration clamp, storage formats of R129. -/
def fitOf (accLim : Nat) (l : List Period) : Fit :=
  let n : Rt := Rt.ofInt l.length
  let ms := fitMids ⟨0, 1⟩ l
  let vs := l.map Period.v
  let mm := (Rt.sum ms).div n
  let vv := (Rt.sum vs).div n
  let span := Rt.sum (l.map Period.e)
  let sxx := Rt.sum (ms.map (fun m => (m.sub mm).mul (m.sub mm)))
  let sxy := Rt.sum ((ms.zip vs).map (fun e => (e.1.sub mm).mul (e.2.sub vv)))
  let aRaw := if sxx.n = 0 then ⟨0, 1⟩ else sxy.div sxx
  let lim := ((Rt.ofInt accLim).div (Rt.ofInt 100)).mul (vv.div span)
  let a := if lim.lt aRaw then lim else if aRaw.lt lim.neg then lim.neg else aRaw
  let w := vv.sub (a.mul mm)
  { omega := (clampI ((w.mul (Rt.ofInt (2 ^ 40))).round) 0 (2 ^ 48 - 1)).toNat
    acc := clampI ((a.mul (Rt.ofInt (2 ^ 72))).round) (-(2 ^ 63)) (2 ^ 63 - 1)
    clamped := lim.lt aRaw || aRaw.lt lim.neg }

/-- The model angle's advance past θ_k after `dt` tu (R140), rounded once. -/
def advanceOf (omega : Nat) (acc : Int) (sNext ratio dt : Nat) : Int :=
  let dl : Rt := ⟨(dt * 0x40000000 : Nat), ratio⟩
  let w : Rt := ⟨omega, 2 ^ 40⟩
  let ap : Rt := if floorActs omega acc sNext then ⟨-3 * (omega * omega : Nat), 8 * sNext * 2 ^ 80⟩ else ⟨acc, 2 ^ 72⟩
  ((w.mul dl).add ((ap.mul (dl.mul dl)).div (Rt.ofInt 2))).round

/-! ## The predictor in the device -/

def Dev.pred (d : Dev) (k : Nat) : Pred := vGet d.preds k
def Dev.setPred (d : Dev) (k : Nat) (x : Pred) : Dev := { d with preds := vSet d.preds k x }

/-- The reported angle of domain k at time `now` (R131, R140 to R142): the model angle, held at θ_hold, never behind the last
reported value; the last reported value while no model is valid or the domain does not interpolate. -/
def Dev.theta (d : Dev) (k now : Nat) : Nat :=
  let x := d.pred k
  let L := d.angRange k
  let st := d.get (F.ANG_STATE_STATE k)
  if x.valid && st != 6 && !d.flag (F.ANG_STATE_REVERSE k) then
    let adv := (advanceOf x.omega x.acc x.sNext x.dNext (now - x.tk)).toNat
    let hold := angDiff L x.thHold x.thk
    let a := min adv hold
    let r := angDiff L x.rep x.thk
    let a' := if r < L / 2 ∧ a < r then r else a
    (x.thk + a') % L
  else x.rep

/-- R138: projected time of angle A, and whether it lies at or after the next source tooth. No projection without a valid model. -/
def Dev.project (d : Dev) (k a : Nat) : Option (Nat × Bool) :=
  let x := d.pred k
  if !x.valid then none
  else
    let phi := angDiff (d.cycleLen k) a x.thk
    if phi = 0 then some (x.tk, false)
    else if phi < x.sNext then some (x.tk + tauRound x.omega x.acc phi x.dNext, false)
    else some (x.tk + x.pNext + tauRound x.omega x.acc phi oneRatio - x.ps, true)

/-- An angle in au divided by the model speed, in tu, rounded (R171). -/
def Dev.auToTu (d : Dev) (k au : Nat) : Nat :=
  let w := (d.pred k).omega
  if w = 0 then Config.openTau au else (2 * au * 2 ^ 40 + w) / (2 * w)

/-- dw of R158: a duration in du at the present speed, in au, rounded. -/
def Dev.duToAu (d : Dev) (k du : Nat) : Nat := (2 * ((d.pred k).omega * 16 * du) + 2 ^ 40) / (2 * 2 ^ 40)

/-! ## The dune profile (R145 to R148) -/

def duneAddr (k i : Nat) : Nat := 0x41008000 + 0x1000 * k + 8 * i
def Dev.duneRatio (d : Dev) (k i : Nat) : Nat := wordGet (d.word (duneAddr k i)) 31 16
def Dev.duneCnt (d : Dev) (k i : Nat) : Nat := wordGet (d.word (duneAddr k i)) 15 8
def Dev.duneTofs (d : Dev) (k i : Nat) : Int := signedOf (wordGet (d.word (duneAddr k i + 4)) 15 0) 16

/-- Number of one bits. -/
def popCount : Nat → Nat → Nat
  | 0, _ => 0
  | n + 1, w => w % 2 + popCount n (w / 2)

/-- Store a dune entry with even parity over both words (R145). -/
def Dev.setDune (d : Dev) (k i ratio cnt tofs : Nat) : Dev :=
  let w0 := w32 (ratio % 65536 * 65536 + cnt % 256 * 256)
  let w1 := w32 (tofs % 65536)
  let par := (popCount 32 w0.toNat + popCount 32 w1.toNat) % 2
  (d.setWord (duneAddr k i) w0).setWord (duneAddr k i + 4) (w1 ||| w32 (par * 0x80000000))

/-- The primary table angles of the domain in force. -/
def Dev.tab (d : Dev) (k role : Nat) : List Nat := vGet (vGet d.angs k).tabs role

def tabStep (n : Nat) (ahead : Bool) (i : Nat) : Nat := if n = 0 then 0 else if ahead then (i + 1) % n else (i + n - 1) % n
/-- s(i) in the direction of travel: the spacing covered in arriving at tooth i (R103, R120). -/
def tabCov (L : Nat) (t : List Nat) (ahead : Bool) (i : Nat) : Nat :=
  if t.length ≤ 1 then L
  else if ahead then angDiff L (t.getD i 0) (t.getD (tabStep t.length false i) 0)
  else angDiff L (t.getD (tabStep t.length true i) 0) (t.getD i 0)

/-- W of R147, with s(j) of the commanded direction (R120); the log marks that reading. -/
def Dev.duneW (d : Dev) (k : Nat) : Nat :=
  let t := d.tab k 0
  ((List.range t.length).map (fun j => tabCov (d.cycleLen k) t (!d.flag (F.ANG_DIR_CMD_ACT k)) j * d.duneRatio k j)).foldl (· + ·) 0

/-- R147: recompute the normaliser. -/
def Dev.renorm (d : Dev) (k : Nat) : Dev :=
  let w := d.duneW k
  if w = 0 then d else d.setReg (R.PRED_NORM k) (w32 ((2 * d.cycleLen k * 2 ^ 46 + w) / (2 * w)))

/-- Is entry i the one whose re-read failed at this tooth (R152)? -/
def Dev.parBad (d : Dev) (k i : Nat) : Bool := (vGet d.angs k).upPar == 2 && (vGet d.angs k).parIdx == some i
/-- The ratio a tooth is processed with: 0x8000 for an entry in error (R152). -/
def Dev.duneUse (d : Dev) (k i : Nat) : Nat := if d.parBad k i then 0x8000 else d.duneRatio k i

/-- D(i) of R147 with 30 fractional bits. -/
def Dev.duneD (d : Dev) (k i : Nat) : Nat :=
  (2 * d.duneUse k i * (d.reg (R.PRED_NORM k)).toNat + 2 ^ 16) / (2 * 2 ^ 16)

/-- R147: is the profile applied? SYNC is state 3 and LIMP_CRANK state 4 of R105; SRC 0 is the primary crank. -/
def Dev.duneApplies (d : Dev) (k : Nat) : Bool :=
  let st := d.get (F.ANG_STATE_STATE k)
  d.effB (F.PRED_CFG_DUNE_EN k) && (st == 3 || st == 4) && d.get (F.ANG_STATE_SRC k) == 0

end Sys2Proof.Machine
end

