-- ==== Sys2Proof/Machine/Carv.lean ====
section
/-!
DEFINITION. Machine/Carv.lean: the Caravan (06_event_caravan.md): slots, order, lead set and commit, late policies, arming,
replacement, cancellation, flushes, completion and trace records, and the hand-over to a channel's placer (R198).
-/

namespace Sys2Proof.Machine

/-! ## Placers: loading and hand-over (R32, R33, R178, R198) -/

/-- Order of hand-over (R178): time, then priority, then arm sequence. -/
def Edge.before (a b : Edge) : Bool :=
  decide (a.target < b.target) || (a.target == b.target && (decide (b.prio < a.prio) || (a.prio == b.prio && decide (a.aseq < b.aseq))))

def insEdge (e : Edge) : List Edge → List Edge
  | [] => [e]
  | x :: r => if e.before x then e :: x :: r else x :: insEdge e r

/-- R33, R178: the placer takes the head of the queue when it holds no edge; the edge is placed no earlier than 120 ns after the
channel's last release. -/
def Chan.load (c : Chan) (now : Nat) : Chan :=
  match c.pend, c.q with
  | none, e :: r =>
    let p := match c.lastRel with
      | none => e.place
      | some t => max e.place (t + 1536)
    { c with pend := some { e with place := p }, q := r, loadAt := max now e.ready }
  | _, _ => c

/-- R198: a committed edge enters the hand-over queue, or stays at the Caravan when the queue is full. -/
def Chan.handOver (c : Chan) (now : Nat) (e : Edge) : Chan :=
  if c.q.length < 4 then ({ c with q := insEdge e c.q }).load now else { c with back := c.back ++ [e] }

/-- A queue entry frees: the oldest edge held at the Caravan is handed over (R198). -/
def Chan.refill (c : Chan) (now : Nat) : Chan :=
  match c.back with
  | e :: r => if c.q.length < 4 then ({ c with q := insEdge e c.q, back := r }).load now else c
  | [] => c

/-! ## IGNSOFT intervals (R217) -/

def Dev.softSetup (d : Dev) : Nat := d.eff (F.IGN_SOFT_SETUP 0) * 128
def Dev.softHold (d : Dev) : Nat := d.eff (F.IGN_SOFT_HOLD 0) * 128

/-- Is the edge a normal spark: a falling IGNn? -/
def Edge.isSpark (e : Edge) (chan : Nat) : Bool :=
  decide (48 ≤ chan) && decide (chan < 72) && (e.act == 1 || ((e.act == 2 || e.act == 5) && !e.start))

/-- Is IGNSOFT high? -/
def Dev.softHigh (d : Dev) : Bool := d.soft.hold || d.soft.ivs.any (·.risen)

/-- R216, R217: the earliest time at or after `p` whose spark keeps IGNSOFT low from SETUP before it to HOLD after it, every soft-off
met on the way being passed. -/
def pastSoft (setup hold : Nat) (ivs : List SoftIv) : Nat → Nat → Nat
  | 0, p => p
  | f + 1, p =>
    match ivs.find? (fun v => decide (p < v.fall + setup) && decide (v.rise < p + hold)) with
    | some v => pastSoft setup hold ivs f (v.fall + setup)
    | none => p

/-- R217: a spark that falls inside the interval of a soft-off whose time is fixed waits until the interval ends; bit 6 of its
channel's interrupts is set. -/
def Dev.softDelay (d : Dev) (chan : Nat) (e : Edge) : Edge × Bool :=
  if e.isSpark chan then
    let p := pastSoft d.softSetup d.softHold d.soft.ivs d.soft.ivs.length e.place
    ({ e with place := p }, p != e.place)
  else (e, false)

/-- Store a channel after its placer may have loaded an edge. A SAMPLE edge then also enters its converter's queue: its release and its
aperture are one event (R202, R275), so the time of one that enters less than P_SETUP before its place is settled here for both (R276). -/
def Dev.setChanLoad (d : Dev) (now chan : Nat) (c : Chan) : Dev :=
  let old := (d.chan chan).pend
  match old, c.pend with
  | none, some e =>
    if e.act = 6 then
      let t := if c.loadAt + 384 ≤ e.place ∧ !d.supply.under then e.place else max e.place (d.afterSetup c.loadAt)
      (d.tickFree.setChan chan { c with pend := some { e with place := t }, loadAt := 0 }).adcEvent now (chan - 72) t e.target e.tag
    else d.setChan chan c
  | _, _ => d.setChan chan c

/-- R217: bit 6 of a channel whose spark a soft-off has delayed. -/
def Dev.softIrq (d : Dev) (chan : Nat) (dly : Bool) : Dev := if dly then d.irq (P.IGN (chan - 48)) 6 else d

/-- Hand an edge to its channel. -/
def Dev.handEdge (d : Dev) (now chan : Nat) (e : Edge) : Dev :=
  let (e', dly) := d.softDelay chan e
  (d.setChanLoad now chan ((d.chan chan).handOver now e')).softIrq chan dly

/-! ## Slots and contents -/

def Content.chan (c : Content) : Nat := wordGet c.w1 7 0
def Content.dom (c : Content) : Nat := wordGet c.w1 9 8
def Content.act (c : Content) : Nat := wordGet c.w1 13 10
def Content.policy (c : Content) : Nat := wordGet c.w1 15 14
def Content.recur (c : Content) : Bool := wordGet c.w1 16 16 != 0
def Content.angEnd (c : Content) : Bool := wordGet c.w1 17 17 != 0
def Content.link (c : Content) : Nat := wordGet c.w1 23 18
def Content.prio (c : Content) : Nat := wordGet c.w1 27 24
def Content.guard (c : Content) : Bool := wordGet c.w1 28 28 != 0
def Content.tle (c : Content) : Bool := wordGet c.w1 29 29 != 0

/-- R160: actions with an end edge. -/
def actHasEnd (a : Nat) : Bool := a == 2 || a == 4 || a == 5 || a == 7

/-- R160: is the action valid on the channel? -/
def actValid (act chan : Nat) : Bool :=
  if chan < 48 then decide (act ≤ 4)
  else if chan < 72 then decide (act ≤ 2) || act == 5
  else decide (act ≤ 3) || (decide (6 ≤ act) && decide (act ≤ 8))

def Dev.slot (d : Dev) (s : Nat) : Slot := smGetD d.carv.slots s {}
def Dev.setSlot (d : Dev) (s : Nat) (x : Slot) : Dev :=
  { d with carv := { d.carv with slots := smPut d.carv.slots s x {} } }
def Dev.updSlot (d : Dev) (s : Nat) (f : Slot → Slot) : Dev := d.setSlot s (f (d.slot s))

/-- The duration in force (R313): the armed one with its trim offset, at least 1 and at most L − 1 for an angle. -/
def Slot.dur (s : Slot) : Nat := if s.ofsD = 0 then s.c.dur else (clampI ((s.c.dur : Int) + s.ofsD) 1 s.maxD).toNat
/-- R158: is the end edge an angle edge? -/
def Slot.endIsAngle (s : Slot) : Bool := s.c.act == 5 || (actHasEnd s.c.act && s.c.angEnd)

/-- dw of R158 in au. -/
def Dev.dwAu (d : Dev) (s : Slot) : Nat := if s.c.angEnd then s.dur else d.duToAu s.c.dom s.dur
def Dev.startPos (d : Dev) (s : Slot) : Int := if s.c.act = 5 then s.due - d.dwAu s else s.due
def Slot.endPos (s : Slot) : Int := if s.c.act = 5 then s.due else s.due + s.dur
/-- The position of the next angle edge. -/
def Dev.nextPos (d : Dev) (s : Slot) : Int := if s.startC then s.endPos else d.startPos s
/-- R174: a DWELL whose start has not committed is keyed at A − ADV. -/
def Dev.keyPos (d : Dev) (s : Slot) : Int :=
  if !s.startC && s.c.act == 5 then s.due - (d.eff (F.CARV_DOM_TIM_ADV s.c.dom) * 1048576 : Nat) else d.nextPos s

/-- A slot with an uncommitted angle edge in the order of R174. -/
def Slot.active (s : Slot) : Bool :=
  (!s.startC && (s.st == 1 || s.st == 2 || s.st == 3)) || (s.startC && s.endIsAngle && !s.endC && s.st != 0)

/-- R174: order by key, then priority, then arm sequence. -/
def Dev.slotLt (d : Dev) (a b : Nat × Slot) : Bool :=
  let ka := d.keyPos a.2
  let kb := d.keyPos b.2
  decide (ka < kb) || (ka == kb && (decide (b.2.c.prio < a.2.c.prio) || (a.2.c.prio == b.2.c.prio && decide (a.2.aseq < b.2.aseq))))

/-- The slots of a domain in the order of R174. -/
def Dev.ordered (d : Dev) (k : Nat) : List (Nat × Slot) :=
  sortBy d.slotLt (d.carv.slots.filter (fun e => e.2.c.dom == k && e.2.active))

def Dev.lead (d : Dev) (k : Nat) : List (Nat × Slot) := (d.ordered k).take 8

/-! ## Travel: positions counted along a domain's rotation -/

/-- The signed step from angle b to angle a, forward when shorter than half a cycle (R180). -/
def stepDiff (L a b : Nat) : Int := let x := angDiff L a b; if x < L / 2 then (x : Int) else (x : Int) - (L : Int)

def Dev.front (d : Dev) (k : Nat) : Nat := vGet d.carv.front k
def Dev.trav (d : Dev) (k : Nat) : Int := vGet d.carv.trav k
def Dev.setFront (d : Dev) (k a : Nat) (t : Int) : Dev :=
  { d with carv := { d.carv with front := vSet d.carv.front k a, trav := vSet d.carv.trav k t } }

/-- R174, R180: keys are angles ahead of θ_front; when θ_front has stepped back to `here`, a start edge due a lap later that now lies
ahead within this lap is due there. -/
def Dev.stepBack (d : Dev) (k : Nat) (here : Int) : Dev :=
  let L : Int := d.cycleLen k
  { d with carv := { d.carv with slots := d.carv.slots.map (fun e =>
      if e.2.c.dom = k ∧ !e.2.startC ∧ here < d.startPos e.2 - L then (e.1, { e.2 with due := e.2.due - L, t := none }) else e) } }
/-- θ_front moves to angle `a` at position `here` (R179). -/
def Dev.moveFront (d : Dev) (k a : Nat) (here : Int) : Dev :=
  let d1 := d.setFront k a here
  if here < d.trav k then d1.stepBack k here else d1

/-- The position of angle `a`, taken nearest to θ_front. -/
def Dev.posOf (d : Dev) (k a : Nat) : Int := d.trav k + stepDiff (d.cycleLen k) a (d.front k)

/-- R138 for a position: time and BEYOND. -/
def Dev.projectPos (d : Dev) (k : Nat) (p : Int) : Option (Nat × Bool) :=
  let x := d.pred k
  if !x.valid then none
  else
    let phi := (p - d.posOf k x.thk).toNat
    if phi = 0 then some (x.tk, false)
    else if phi < x.sNext then some (x.tk + tauRound x.omega x.acc phi x.dNext, false)
    else some (x.tk + x.pNext + tauRound x.omega x.acc phi oneRatio - x.ps, true)

/-! ## Domain conditions -/

def Dev.angState (d : Dev) (k : Nat) : Nat := d.get (F.ANG_STATE_STATE k)
/-- Is it SYNC, LIMP_CRANK or LIMP_CAM (R105)? -/
def Dev.inSync (d : Dev) (k : Nat) : Bool :=
  d.enabled (P.ANG k) && decide (3 ≤ d.angState k) && decide (d.angState k ≤ 5)
def Dev.committing (d : Dev) (k : Nat) : Bool :=
  d.inSync k && !d.flag (F.ANG_STATE_REVERSE k) && !(vGet d.angs k).cmdAct && !d.inhibited && d.running P.CARV
/-- R179: does the Caravan follow the reported angle of the domain? Not while it is blocked, so that θ_front stands (R180). -/
def Dev.carvFollows (d : Dev) (k : Nat) : Bool := d.inSync k && !d.flag (F.ANG_STATE_REVERSE k) && d.running P.CARV
/-- R184: guard_ok. -/
def ratioOk : Option Nat → Bool
  | some r => decide (3605 ≤ r) && decide (r ≤ 4587)
  | none => false
def Dev.guardOk (d : Dev) (k : Nat) : Bool :=
  let a := vGet d.angs k
  d.get (F.ANG_STATE_SRC k) == 0 && ratioOk a.ratio1 && ratioOk a.ratio2

/-! ## Trace and completion records (R190 to R192) -/

def Dev.recLost (d : Dev) : Dev := ((d.incSat F.CARV_CNT_D_REC_LOST).irq P.CARV 13).rep P.CARV 0x05 0

def Dev.trace (d : Dev) (now ty s : Nat) (isEnd : Bool) (w3 : Nat) : Dev :=
  let x := d.slot s
  let w := d.reg R.CARV_TRC
  if w.getLsbD 31 && w.getLsbD ty && w.getLsbD (8 + x.c.dom) then
    let w0 := ty * 0x10000000 + x.c.dom * 0x4000000 + s * 0x20000 + isEnd.toNat * 0x10000 + x.c.tag
    match d.ringPush now (28 + d.get F.CARV_TRC_RING) [w32 w0, lo32 now, w32 (d.front x.c.dom), w32 w3] with
    | some d' => d'
    | none => d.incSat F.CARV_CNT_D_REC_LOST
  else d

/-- The configuration word of the ring or windows that armed a slot (R190). -/
def Dev.ownerCfg (d : Dev) (owner : Nat) : Word := d.reg (if owner < 8 then R.CARV_ARM_CFG owner else R.CARV_DARM_CFG)

/-- The effective angle A of R158. -/
def Dev.effAngle (d : Dev) (s : Slot) : Nat :=
  let L := d.cycleLen s.c.dom
  (((s.c.angle : Int) + s.ofsA) % (L : Int)).toNat

def Dev.complRec (d : Dev) (now s outcome start len : Nat) : Dev :=
  let x := d.slot s
  let cfg := d.ownerCfg x.owner
  if cfg.getLsbD 27 && (cfg.getLsbD 28 || outcome != 0) then
    let trimmed := x.ofsA != 0 || x.ofsD != 0
    let w0 := 0x01000000 + outcome * 0x100000 + x.c.dom * 0x40000 + x.c.recur.toNat * 0x20000 + trimmed.toNat * 0x10000 + s
    let w1 := x.c.tag * 65536 + x.c.chan
    let late := match x.lateAu with
      | some _ => x.lateTu
      | none => x.placeLate
    match d.ringPush now (8 + wordGet cfg 26 24)
        [w32 w0, w32 w1, lo32 start, hi32 start, w32 (min len 0xFFFFFFFF), w32 (x.lateAu.getD 0), w32 (min late 0xFFFFFFFF),
         w32 (d.effAngle x)] with
    | some d' => d'
    | none => d.recLost
  else d

/-! ## Ends of occurrences, re-arming -/

def Dev.freeSlot (d : Dev) (s : Nat) : Dev := d.setSlot s {}

/-- The state a stored template takes by its domain's state (R181). -/
def Dev.templateState (d : Dev) (k : Nat) : Nat :=
  if !d.inSync k && d.angState k != 6 then 5
  else if d.flag (F.ANG_STATE_REVERSE k) then 6
  else if (vGet d.angs k).cmdAct then 5
  else 1

/-- A fresh occurrence of a slot's content at position `due`. -/
def Slot.occur (s : Slot) (c : Content) (gen : Nat) (due : Int) (st : Nat) : Slot :=
  { st := st, c := c, owner := s.owner, aseq := s.aseq, gen := gen, due := due }

def Dev.nextGen (d : Dev) : Dev := { d with carv := { d.carv with genCtr := d.carv.genCtr + 1 } }

/-- R185: count one skipped occurrence. -/
def Dev.overrun (d : Dev) (now s : Nat) : Dev :=
  ((d.complRec now s 11 now 0).incSat F.CARV_CNT_D_OVERRUN).irq P.CARV 15

/-- R313: a slot takes the present offsets of its link. -/
def Dev.takeLink (d : Dev) (x : Slot) : Slot :=
  let o := if x.c.tle then d.linkOfs x.c.link else (0, 0)
  { x with ofsA := o.1, ofsD := o.2, maxD := if x.c.angEnd then d.cycleLen x.c.dom - 1 else 0xFFFFFFFF }

/-- R185: the template in slot s re-arms for the next occurrence of its angle with its link's present offset (R313), or is freed when
its cancel named this occurrence its last (R187). Occurrences already passed are skipped with outcome OVERRUN. -/
def Dev.rearm (d : Dev) (now s : Nat) : Dev :=
  let x := d.slot s
  let k := x.c.dom
  let c := x.next.getD x.c
  if x.lastOcc then d.freeSlot s
  else
    let L : Int := d.cycleLen k
    let here := d.posOf k (d.theta k now)
    let st := d.templateState k
    let y := d.takeLink (x.occur c d.carv.genCtr 0 st)
    let due0 := match x.next with
      | none => x.due - x.ofsA + y.ofsA + L
      | some _ => let f := (((c.angle : Int) + y.ofsA) - (d.theta k now : Int)) % L
                  here + (if f = 0 then L else f)
    let d1 := (d.setSlot s { y with due := due0 }).nextGen
    let late := here - d1.startPos (d1.slot s)
    let n := if st = 1 ∧ 0 ≤ late then (late / L + 1).toNat else 0
    let d2 := (List.range n).foldl (fun d _ => d.overrun now s) d1
    let d3 := d2.updSlot s (fun z => { z with due := z.due + (n : Int) * L })
    d3.trace now 5 s false (d3.effAngle (d3.slot s))

/-- The outcome of an occurrence whose edges have been released (R190); a drive's DRIVE_FLAG stands behind the late outcomes (R263). -/
def Slot.outcome (s : Slot) : Nat :=
  if s.mark ≠ 0 ∧ s.mark ≠ 10 then s.mark else if s.lateOut ≠ 0 then s.lateOut else if s.mark = 10 then 10
  else if s.placeLate ≠ 0 ∨ s.lateEnd then 1 else 0

/-- An occurrence ends: its record is written, a one-shot frees its slot and a template re-arms (R185, R190). -/
def Dev.occEnd (d : Dev) (now s : Nat) (endRel : Option Nat) : Dev :=
  let x := d.slot s
  let start := x.startRel.getD now
  let len := match endRel, x.startRel with
    | some e, some b => (e - b) / 16
    | _, _ => 0
  let d0 := if x.outcome = 1 then (d.incSat F.CARV_CNT_C_PLACE_LATE).probe now 0x03 x.c.dom x.placeLate else d
  let d1 := d0.complRec now s x.outcome start len
  if x.c.recur then d1.rearm now s else d1.freeSlot s

/-- An event is dropped at a decision. -/
def Dev.dropEvent (d : Dev) (now s outcome : Nat) : Dev :=
  let d1 := d.complRec now s outcome now 0
  if (d.slot s).c.recur then d1.rearm now s else d1.freeSlot s

/-- R117, R121, R181: an uncommitted one-shot is flushed. -/
def Dev.flushOne (d : Dev) (now s : Nat) : Dev :=
  (((d.trace now 4 s false 0).complRec now s 6 now 0).freeSlot s |>.incSat F.CARV_CNT_C_FLUSH).irq P.CARV 12

/-- The uncommitted one-shots of a domain. -/
def Dev.flushable (d : Dev) (k : Nat) : List Nat :=
  (d.carv.slots.filter (fun e => e.2.c.dom == k && !e.2.c.recur && !e.2.startC && e.2.st != 0)).map (·.1)

def Dev.flush (d : Dev) (now k : Nat) : Dev := (d.flushable k).foldl (fun d s => d.flushOne now s) d

/-- R117, R121: templates whose start has not committed become IDLE. -/
def Dev.idleTemplates (d : Dev) (k : Nat) : Dev :=
  { d with carv := { d.carv with slots := d.carv.slots.map (fun e =>
      if e.2.c.dom = k ∧ e.2.c.recur ∧ !e.2.startC ∧ e.2.st ≠ 0 then (e.1, { e.2 with st := 5, t := none }) else e) } }

/-! ## Commit (R176) -/

/-- When an edge decided at `now` reaches its placer: `n` stages later (R169: 2 of a commit, 6 of an insertion), of 0.45 ns to 1.62 ns
each, by a free value. An edge due P_SETUP after the latest such time is placed exactly whichever it is. -/
def Dev.placerAt (d : Dev) (now n target : Nat) : Nat :=
  let lo := n * 576 / 100
  let hi := n * 2074 / 100
  if d.supply.under || decide (target < now + hi + 384) then now + lo + d.freeBelow (hi - lo + 1) else now

/-- Commit an edge of slot s at `target`, decided at `now`; an angle end is then keyed and projected in its place (R174). `n` are the stages
to the placer. -/
def Dev.commitEdge (d : Dev) (now s : Nat) (isEnd : Bool) (target : Nat) (n : Nat := 2) : Dev :=
  let x := d.slot s
  let e : Edge := { slot := s, gen := x.gen, start := !isEnd, act := x.c.act, dom := x.c.dom, target := target, place := target,
                    prio := x.c.prio, aseq := x.aseq, decided := now, tag := x.c.tag, ready := d.placerAt now n target }
  let more := !isEnd && x.endIsAngle
  let d1 := d.tickFree.updSlot s (fun y => { y with
    st := 7, t := if more then none else some target, beyond := false, startC := true, endC := y.endC || isEnd })
  let d2 := (d1.trace now 1 s isEnd (target % 2 ^ 32)).probe now 0x02 x.c.dom ((target : Int) - (now : Int))
  d2.handEdge now x.c.chan e

/-- R184: the guard withholds a commit. -/
def Dev.holdGuard (d : Dev) (now s : Nat) : Dev :=
  ((d.updSlot s (fun y => { y with st := 3 })).incSat F.CARV_CNT_A_GUARD |>.irq P.CARV 10).trace now 3 s false 0

/-- check(s) of R176 at time `now`; nothing commits of a domain that is not committing (R181). -/
def Dev.checkCommit (d : Dev) (now s : Nat) : Dev :=
  let x := d.slot s
  match x.t with
  | some t =>
    if d.committing x.c.dom && !x.beyond && x.active && x.st != 3 && (x.startC || !d.startsHeld)
        && decide ((t : Int) - now - 512 ≤ (d.eff (F.CARV_DOM_TIM_COMMIT_W x.c.dom) * 16 : Nat)) then
      if x.c.guard && !d.guardOk x.c.dom then d.holdGuard now s
      else d.commitEdge now s x.startC t
    else d
  | none => d

/-- Project the next edge of a lead slot (R176). -/
def Dev.projectSlot (d : Dev) (s : Nat) : Dev :=
  let x := d.slot s
  match d.projectPos x.c.dom (d.nextPos x) with
  | some (t, b) => d.updSlot s (fun y => { y with t := some t, beyond := b, st := if y.st = 1 then 2 else y.st })
  | none => d.updSlot s (fun y => { y with beyond := true, st := if y.st = 1 then 2 else y.st })

/-- R175: slots that have fallen out of the lead set wait again. -/
def Dev.leadLeave (d : Dev) (k : Nat) : Dev :=
  let keep := (d.lead k).map (·.1)
  { d with carv := { d.carv with slots := d.carv.slots.map (fun e =>
      if e.2.c.dom = k ∧ e.2.st = 2 ∧ !keep.contains e.1 then (e.1, { e.2 with st := 1, t := none }) else e) } }

/-- R175, R176: lead slots without a projection are projected and checked, in order, until none is left. -/
def Dev.leadLoop (now k : Nat) : Nat → Dev → Dev
  | 0, d => d
  | n + 1, d =>
    match (d.lead k).find? (fun e => e.2.t.isNone && e.2.st != 3) with
    | none => d
    | some (s, _) =>
      if (d.pred k).valid then Dev.leadLoop now k n ((d.projectSlot s).checkCommit now s) else d

/-- R175: the slots now in the lead set that waited. -/
def Dev.leadEnter (d : Dev) (k : Nat) : Dev :=
  let l := (d.lead k).map (·.1)
  { d with carv := { d.carv with slots := d.carv.slots.map (fun e =>
      if e.2.c.dom = k ∧ e.2.st = 1 ∧ l.contains e.1 then (e.1, { e.2 with st := 2 }) else e) } }

/-- The lead set of domain k after a change (R175), of a domain that commits or not. -/
def Dev.leadUpdate (d : Dev) (now k : Nat) : Dev := (Dev.leadLoop now k 600 (d.leadLeave k)).leadEnter k

/-! ## Late policies (R170 to R173) -/

/-- R172. -/
def Dev.latePolicy (d : Dev) (c : Content) : Nat :=
  if c.policy = 3 then wordGet (d.reg R.CARV_LATEDEF) (2 * c.act + 1) (2 * c.act) else c.policy

/-- R171: count and signal a late event. -/
def Dev.lateMark (d : Dev) (now s lateAu : Nat) : Dev :=
  (((d.incSat F.CARV_CNT_A_LATE).irq P.CARV 9).trace now 2 s false lateAu).probe now 0x04 (d.slot s).c.dom lateAu

/-- R170: how SHORTEN decides an event whose start is late. `none` drops it: an instant action, an end (a DWELL's spark) that is late too,
or one scheduled less than 160 ns ahead. `some f` starts it now, with `f` the fixed time of a time end. -/
def Dev.shorten (d : Dev) (now : Nat) (x : Slot) (lateAu : Nat) (here : Int) : Option (Option Nat) :=
  if !actHasEnd x.c.act then none
  else if x.endIsAngle then
    if x.endPos ≤ here then none
    else match d.projectPos x.c.dom x.endPos with
      | some (t, _) => if t < now + 2048 then none else some none
      | none => some none
  else
    let e := (now - d.auToTu x.c.dom lateAu) + 16 * x.dur
    if e < now + 2048 then none else some (some e)

/-- The late policy of slot s at angle θ with travel position `here` (R170, R171, R184). -/
def Dev.applyLate (d : Dev) (now s : Nat) (here : Int) (wasHeld : Bool) : Dev :=
  let x := d.slot s
  let k := x.c.dom
  let L : Int := d.cycleLen k
  let sparkLate := x.c.act == 5 && decide (x.due ≤ here)
  let edge := if sparkLate then x.due else d.startPos x
  let lateAu := ((here - edge) % L).toNat
  let pol := d.latePolicy x.c
  let sh := d.shorten now x lateAu here
  let acts := pol == 0 || (pol == 2 && sh.isSome)
  let barred := (pol == 0 || pol == 2) && x.c.guard && !d.guardOk k
  if acts && barred && !wasHeld then (if x.st = 3 then d else d.holdGuard now s)
  else
    let d1 := d.lateMark now s lateAu
    let tu := d.auToTu k lateAu
    let out := if barred && wasHeld then 5 else if pol = 0 then 2 else if pol = 2 then 4 else 3
    let d2 := d1.updSlot s (fun y => { y with lateAu := some lateAu, lateTu := tu, lateOut := out })
    if acts && !barred then
      let d3 := d2.updSlot s (fun y => { y with
        endFixed := if pol = 2 then sh.getD none else none, minEnd := sparkLate && pol == 0, late := false })
      d3.commitEdge now s false now
    else d2.dropEvent now s out

/-- R173: a passed end edge commits at once. -/
def Dev.endPassed (d : Dev) (now s : Nat) (here : Int) : Dev :=
  let x := d.slot s
  let L : Int := d.cycleLen x.c.dom
  let lateAu := ((here - x.endPos) % L).toNat
  let d1 := if x.lateAu.isNone then
      d.updSlot s (fun y => { y with lateAu := some lateAu, lateTu := d.auToTu x.c.dom lateAu, lateEnd := true })
    else d
  d1.commitEdge now s true now

/-- The late policy of one slot, and its angle end where the angle has passed that too (R173). -/
def Dev.lateNow (d : Dev) (now s : Nat) (here : Int) : Dev :=
  let d1 := d.applyLate now s here false
  let x := d1.slot s
  if x.gen = (d.slot s).gen ∧ x.startC ∧ x.active ∧ x.endPos ≤ here then d1.endPassed now s here else d1

/-! ## Processing (R179, R180) -/

/-- Has the angle passed the slot's next edge, or is it marked late (R568)? -/
def Dev.passed (d : Dev) (here : Int) (x : Slot) : Bool := x.late || decide (d.nextPos x ≤ here)

/-- The first passed edge of a domain in the order of R174; of the HELD slots those of `held`. -/
def Dev.firstPassed (d : Dev) (k : Nat) (here : Int) (held : List Nat) : Option (Nat × Slot) :=
  (sortBy d.slotLt (d.carv.slots.filter (fun e => e.2.c.dom == k && e.2.active && (e.2.st != 3 || held.contains e.1)
    && (e.2.startC || !d.startsHeld) && d.passed here e.2))).head?

/-- R180: passed edges in order: a start takes its late policy, an end commits at once. -/
def Dev.passLoop (now k : Nat) (here : Int) (held : List Nat) : Nat → Dev → Dev
  | 0, d => d
  | n + 1, d =>
    match d.firstPassed k here held with
    | none => d
    | some (s, x) =>
      Dev.passLoop now k here held n (if x.startC then d.endPassed now s here else d.applyLate now s here (x.st == 3))

/-- The HELD slots of a domain. -/
def Dev.heldSlots (d : Dev) (k : Nat) : List Nat := (d.carv.slots.filter (fun e => e.2.c.dom == k && e.2.st == 3)).map (·.1)

/-- R184: at a source tooth a held slot whose edge is still ahead is tested again. -/
def Dev.unhold (d : Dev) (k : Nat) (here : Int) : Dev :=
  { d with carv := { d.carv with slots := d.carv.slots.map (fun e =>
      if e.2.c.dom = k ∧ e.2.st = 3 ∧ !d.passed here e.2 then
        (e.1, { e.2 with st := if !e.2.startC then 2 else if e.2.startRel.isSome then 4 else 7, t := none })
      else e) } }

/-- All projections of the domain are made again from the present model. -/
def Dev.unproject (d : Dev) (k : Nat) : Dev :=
  { d with carv := { d.carv with slots := d.carv.slots.map (fun e =>
      if e.2.c.dom = k ∧ e.2.active ∧ e.2.st ≠ 3 then (e.1, { e.2 with t := none }) else e) } }

/-- R194: the RWS fields of domain k commit. -/
def Dev.carvCommit (d : Dev) (k : Nat) : Dev := d.commitSel P.CARV (fun a => a == R.CARV_DOM_CFG k || a == R.CARV_DOM_TIM k)

/-- R179, R180: the Caravan processes a domain whose angle it follows: θ_front moves to the reported angle (at a tooth, to the angle it takes
there, R142), the passed edges of a committing domain are handled in order, and the lead set is projected again. `tooth` marks a model
replacement, which also resolves HELD slots (R184) and commits the domain's RWS fields (R194). -/
def Dev.carvProcess (d : Dev) (now k : Nat) (tooth : Bool) : Dev :=
  if !d.carvFollows k then d
  else
    let th := if tooth then (d.pred k).rep else d.theta k now
    let here := d.posOf k th
    let d1 := d.moveFront k th here
    let d3 := if d.committing k then
        let d2 := if tooth then d1.unhold k here else d1
        Dev.passLoop now k here (if tooth then d2.heldSlots k else []) 600 d2
      else d1
    let d4 := (d3.unproject k).leadUpdate now k
    if tooth then
      let d5 := d4.carvCommit k
      d5.tickFree.probe now 0x01 k (d5.fresh : Int)
    else d4

/-- R182: on entry to a committing state θ_front is the reported angle, and each IDLE template is placed for the first occurrence of
its angle strictly ahead. -/
def Dev.placeTemplates (d : Dev) (now k : Nat) : Dev :=
  let L : Int := d.cycleLen k
  let th := d.theta k now
  let d1 := d.moveFront k th (d.posOf k th)
  let here := d1.trav k
  let slots := d1.carv.slots.map (fun e =>
    if e.2.c.dom = k ∧ e.2.st = 5 then
      let f := ((d1.effAngle e.2 : Int) - (th : Int)) % L
      (e.1, { e.2 with st := 1, due := here + (if f = 0 then L else f), t := none })
    else e)
  { d1 with carv := { d1.carv with slots := slots } }

/-- Reverse rotation: the domain's slots with no edge committed are BLOCKED (R122, R181). -/
def Dev.blockSlots (d : Dev) (k : Nat) : Dev :=
  { d with carv := { d.carv with slots := d.carv.slots.map (fun e =>
      if e.2.c.dom = k ∧ !e.2.startC ∧ (e.2.st = 1 ∨ e.2.st = 2 ∨ e.2.st = 3) then (e.1, { e.2 with st := 6, t := none }) else e) } }

/-- Release from reverse: BLOCKED slots wait again (R181). -/
def Dev.unblockSlots (d : Dev) (k : Nat) : Dev :=
  { d with carv := { d.carv with slots := d.carv.slots.map (fun e =>
      if e.2.c.dom = k ∧ e.2.st = 6 then (e.1, { e.2 with st := 1, t := none }) else e) } }

/-! ## Trim updates (R314, R315) -/

/-- An update of link n moves an uncommitted edge of slot s by its angle or, with `dur`, by its duration; the edge is then sorted and
projected again or, when passed, takes its late policy. One that finds its edge committed is counted for a one-shot. -/
def Dev.trimMove (d : Dev) (now n s : Nat) (dur : Bool) (ofs : Int) : Dev :=
  let x := d.slot s
  let k := x.c.dom
  let free := if dur && x.c.angEnd then !x.endC else !x.startC
  if !free then
    (if x.c.recur then d else (d.incSat (F.TRIM_L_STAT_LATE n)).irq P.TRIM 1)
  else
    let moved := if dur then { x with ofsD := ofs } else { x with ofsA := ofs, due := x.due + (ofs - x.ofsA) }
    let d1 := d.setSlot s { moved with t := none }
    if d.committing k && x.active && (x.startC || !d.startsHeld) then
      let here := d1.posOf k (d1.theta k now)
      let d2 := if d1.nextPos (d1.slot s) ≤ here then (if x.startC then d1.endPassed now s here else d1.lateNow now s here) else d1
      d2.leadUpdate now k
    else d1.leadUpdate now k

/-- An update of link n reaches slot s. A slot whose link is not enabled has offset 0, of its angle and of its duration (R313). -/
def Dev.trimSlot (d : Dev) (now n s : Nat) (ofs : Int) : Dev :=
  let x := d.slot s
  let on := d.flag (F.TRIM_L_SRC_EN n)
  let d1 := if !on && x.ofsA != 0 then d.trimMove now n s false 0 else d
  let y := d1.slot s
  if on || (x.ofsA == 0 && x.ofsD == 0) then d.trimMove now n s (d.flag (F.TRIM_L_SRC_TGT n)) (if on then ofs else 0)
  else if y.gen == x.gen && y.st != 0 && y.ofsD != 0 then d1.trimMove now n s true 0
  else d1

/-- TRIM_UPDATE: the oldest waiting update passes the Caravan's port (R316) and reaches each slot that names the link. -/
def Dev.trimUpdate (d : Dev) (now : Nat) : Dev :=
  match d.trimQ with
  | [] => d
  | (n, ofs) :: r =>
    let l := (d.carv.slots.filter (fun e => e.2.st != 0 && e.2.c.tle && e.2.c.link == n)).map (·.1)
    l.foldl (fun d s => d.trimSlot now n s ofs) { d with trimQ := r }

/-- R316: a waiting update is granted before the next arm request, so all that wait pass first. -/
def Dev.trimUpdates (d : Dev) (now : Nat) : Dev := (List.range d.trimQ.length).foldl (fun d _ => d.trimUpdate now) d

/-! ## Arming (R159 to R169, R181, R186, R568) -/

structure ArmReq where
  c : Content
  replace : Nat
  owner : Nat

def armReq (ws : List Word) (owner : Nat) : ArmReq :=
  let w1 := ws.getD 1 0 &&& 0x3FFFFFFF#32
  let w3 := ws.getD 3 0
  { c := { angle := (ws.getD 0 0).toNat, w1 := w1, dur := (ws.getD 2 0).toNat, tag := wordGet w3 15 0 },
    replace := wordGet w3 24 16, owner := owner }

/-- Slots in use by an owner: a ring 0 to 7, or 8 and above for windows. -/
def Dev.ringUse (d : Dev) (r : Nat) : Nat := (d.carv.slots.filter (fun e => e.2.st != 0 && e.2.owner == r)).length
def Dev.winUse (d : Dev) : Nat := (d.carv.slots.filter (fun e => e.2.st != 0 && decide (8 ≤ e.2.owner))).length
def Dev.slotsUsed (d : Dev) : Nat := (d.carv.slots.filter (fun e => e.2.st != 0)).length
def Dev.reservation (d : Dev) (r : Nat) : Nat :=
  if r % 2 = 0 then d.get (F.CARV_RES_RES_LO (r / 2)) else d.get (F.CARV_RES_RES_HI (r / 2))
def Dev.resSum (d : Dev) : Nat := ((List.range 8).map d.reservation).foldl (· + ·) 0
/-- R166: free places of the shared pool. -/
def Dev.sharedFree (d : Dev) : Nat :=
  (256 - d.resSum) - (((List.range 8).map (fun r => d.ringUse r - d.reservation r)).foldl (· + ·) 0 + d.winUse)
/-- R166: may the owner take a slot? -/
def Dev.mayTake (d : Dev) (owner : Nat) : Bool :=
  decide (d.slotsUsed < 256) && ((decide (owner < 8) && decide (d.ringUse owner < d.reservation owner)) || decide (0 < d.sharedFree))

/-- R157: the lowest-numbered free slot. -/
def Dev.freeIndex (d : Dev) : Nat := ((List.range 256).find? (fun s => (d.slot s).st == 0)).getD 0x1FF

/-- Does the domain accept one-shots (R181)? -/
def Dev.takesOneShot (d : Dev) (k : Nat) : Bool :=
  d.enabled (P.ANG k) && decide (3 ≤ d.angState k)

/-- R161, R162: the checks of step 2, in order; the capacity apart. -/
def Dev.armCheck (d : Dev) (r : ArmReq) : Option Nat :=
  let L := d.cycleLen r.c.dom
  if 104 ≤ r.c.chan ∨ 2 ≤ r.c.dom ∨ 9 ≤ r.c.act ∨ !actValid r.c.act r.c.chan then some 4
  else if L ≤ r.c.angle ∨ (actHasEnd r.c.act ∧ r.c.dur = 0) ∨ (actHasEnd r.c.act ∧ r.c.angEnd ∧ L ≤ r.c.dur) then some 5
  else if !r.c.recur ∧ !d.takesOneShot r.c.dom then some 6
  else none

/-- R186: the REPLACE checks. -/
def Dev.replaceCheck (d : Dev) (r : ArmReq) : Option Nat :=
  let x := d.slot r.replace
  if x.st = 0 then some 7
  else if x.c.dom ≠ r.c.dom ∨ x.c.chan ≠ r.c.chan then some 8
  else if !x.c.recur ∧ x.startC then some 9
  else none

def Dev.armRefuse (d : Dev) (st : Nat) : Dev :=
  ((d.incSat F.CARV_CNT_B_REFUSED).irq P.CARV 11).rep P.CARV 0x2A 0 st

/-- R168: the position an armed angle means, and whether its start edge is read into the past part or, for a DWELL, lies at or
behind the angle. -/
def Dev.armWindow (d : Dev) (now : Nat) (x : Slot) : Int × Bool :=
  let k := x.c.dom
  let L : Int := d.cycleLen k
  let th := d.theta k now
  let here := d.posOf k th
  let a : Int := d.effAngle x
  let back := ((th : Int) - a) % L
  let wp : Int := (d.eff (F.CARV_DOM_CFG_W_PAST k) * 65536 : Nat)
  if back ≤ wp then (here - back, true)
  else
    let due := here + (a - (th : Int)) % L
    (due, decide (d.startPos { x with due := due } ≤ here))

/-- Steps 3 to 10 of R165 for a slot whose content has just been written: window, late policy, commit test, lead set. -/
def Dev.armPlace (d : Dev) (now s : Nat) : Dev × Bool :=
  let x := d.slot s
  let k := x.c.dom
  let st := if x.c.recur then d.templateState k
    else if d.flag (F.ANG_STATE_REVERSE k) then 6 else 1
  if st = 5 then (d.updSlot s (fun y => { y with st := 5 }), false)
  else
    let (due, late) := d.armWindow now x
    -- R568: while the domain does not commit a late request is kept, marked late
    let held := !d.committing k || d.startsHeld
    let d1 := d.updSlot s (fun y => { y with st := st, due := due, t := none, late := held && late })
    if held then (d1.leadUpdate now k, late)
    else if late then ((d1.lateNow now s (d.posOf k (d.theta k now))).leadUpdate now k, true)
    else
      let y := d1.slot s
      match d1.projectPos k (d1.nextPos y) with
      | some (t, false) =>
        if t ≤ now + d.eff (F.CARV_DOM_TIM_COMMIT_W k) * 16 then
          if y.c.guard && !d.guardOk k then (d1.holdGuard now s, false) else (d1.commitEdge now s false t 6, false)
        else (d1.leadUpdate now k, false)
      | _ => (d1.leadUpdate now k, false)

/-- One request (R162, R165): the device after it, the status of R161 and the slot. The capacity result FULL is told apart by
status 3 and leaves the counting to the ring or window (R167). -/
def Dev.arm (d : Dev) (now : Nat) (r : ArmReq) : Dev × Nat × Nat :=
  match d.armCheck r with
  | some st => (d.armRefuse st, st, 0x1FF)
  | none =>
    if r.replace ≠ 0x1FF then
      match d.replaceCheck r with
      | some st => (d.armRefuse st, st, 0x1FF)
      | none =>
        let x := d.slot r.replace
        let k := x.c.dom
        if x.startC then (d.updSlot r.replace (fun y => { y with next := some r.c }), 1, r.replace)
        else
          let d1 := (d.setSlot r.replace (d.takeLink (x.occur r.c d.carv.genCtr x.due 1))).nextGen
          let d2 := d1.trace now 0 r.replace false (d1.effAngle (d1.slot r.replace))
          ((d2.armPlace now r.replace).1.leadUpdate now k, 1, r.replace)
    else if !d.mayTake r.owner then (d, 3, 0x1FF)
    else
      let s := d.freeIndex
      let d1 := d.setSlot s (d.takeLink { st := 1, c := r.c, owner := r.owner, aseq := d.get F.CARV_ASEQ_NEXT, gen := d.carv.genCtr })
      let d2 := (d1.nextGen.inc F.CARV_ASEQ_NEXT).trace now 0 s false (d1.effAngle (d1.slot s))
      let d3 := d2.probe now 0x15 0 d2.slotsUsed
      let (d4, late) := d3.armPlace now s
      (d4, if late then 2 else 0, s)

/-- R163: one entry at TAIL of arm ring r. A full slot store leaves the entry and stalls the ring (R167). -/
def Dev.armRing (d0 : Dev) (now r : Nat) : Dev :=
  let d := d0.trimUpdates now
  let fill := d.ringFill r
  if d.ringEn r && d.flag (F.CARV_ARM_CFG_EN r) && d.running P.CARV && fill != 0 && !d.carv.stalled.contains r then
    let a := d.ringAddr r (d.get (F.RING_TAIL_TAIL r))
    let ws := d.words a 4
    let (d1, st, slot) := d.arm now (armReq ws r)
    if st = 3 then
      (({ d1 with carv := { d1.carv with stalled := d1.carv.stalled ++ [r] } }).incSat F.CARV_CNT_B_FULL).irq P.CARV r
    else
      let w3 := w32 (st * 0x10000000 + slot * 0x10000 + wordGet (ws.getD 3 0) 15 0)
      (d1.setWord (a + 12) w3).ringAdvance now r
  else d

/-- R167: a stalled ring goes on when a slot is available to it. -/
def Dev.armResume (d : Dev) (now r : Nat) : Dev :=
  if d.carv.stalled.contains r && d.mayTake r then
    ({ d with carv := { d.carv with stalled := d.carv.stalled.filter (· != r) } }).armRing now r
  else d

/-- R164: a write of `CARV_DARM_W3` submits the initiator's four words; the result is the initiator's own. -/
def Dev.directArm (d : Dev) (now : Nat) (who : Initiator) (w3 : Word) : Dev :=
  let d0 := (d.setLatch who (R.CARV_DARM_W 3) w3).trimUpdates now
  let ws := (List.range 3).map (fun i => d.latch who (R.CARV_DARM_W i)) ++ [w3]
  let res : Dev × Nat × Nat :=
    if !d.running P.CARV then (d0.armRefuse 10, 10, 0x1FF) else d0.arm now (armReq ws (8 + who.code))
  let d1 := if res.2.1 = 3 then (res.1.incSat F.CARV_CNT_B_FULL).irq P.CARV 8 else res.1
  d1.setLatch who R.CARV_DARM_STAT (w32 (res.2.1 * 0x1000000 + res.2.2))

/-- R187. -/
def Dev.cancel (d : Dev) (now : Nat) (who : Initiator) (w : Word) : Dev :=
  let s := wordGet w 8 0
  let x := d.slot s
  let k := x.c.dom
  let res : Dev × Nat :=
    if x.st = 0 then (d, 1)
    else if wordGet w 15 15 = 1 ∧ x.c.tag ≠ wordGet w 31 16 then (d, 2)
    else if !x.startC then (((d.trace now 6 s false 0).complRec now s 7 now 0).freeSlot s |>.leadUpdate now k, 0)
    else if x.c.recur then (d.updSlot s (fun y => { y with lastOcc := true }), 4)
    else (d, 3)
  res.1.setLatch who R.CARV_CANCEL_STAT (w32 (res.2 * 0x1000000))

/-- R195: the inspection latch. -/
def Dev.inspect (d : Dev) (who : Initiator) (sel : Word) : Dev :=
  let s := wordGet sel 8 0
  let x := d.slot s
  d.setLatches who [(R.CARV_INSP_SEL, w32 s), (R.CARV_INSP0, w32 x.c.angle), (R.CARV_INSP1, x.c.w1), (R.CARV_INSP2, w32 x.c.dur),
    (R.CARV_INSP3, w32 (x.st * 0x20000000 + min x.owner 15 * 0x2000000 + x.c.tag)),
    (R.CARV_INSP4, w32 (bitsOf x.ofsA 32)), (R.CARV_INSP5, w32 (bitsOf x.ofsD 32)), (R.CARV_INSP6, lo32 (x.t.getD 0)),
    (R.CARV_INSP7, w32 x.aseq)]

/-- R166: a write of a reservation word. -/
def Dev.reserve (d : Dev) (i : Nat) (w : Word) : Dev :=
  let a := clampN (wordGet w 24 16) 0 256
  let b := clampN (wordGet w 8 0) 0 256
  let other := d.resSum - d.reservation (2 * i) - d.reservation (2 * i + 1)
  if 256 < other + a + b then (d.irq P.CARV 14).cfgRange P.CARV
  else (d.setReg (R.CARV_RES i) (w32 (a * 65536 + b))).bumpGen P.CARV

/-- R195: CARV_CTL.CLR. -/
def Dev.carvClr (d : Dev) : Dev :=
  (((d.setReg R.CARV_CNT_A 0).setReg R.CARV_CNT_B 0).setReg R.CARV_CNT_C 0).setReg R.CARV_CNT_D 0

/-- R176: a reference edge at `now` tests the lead set in order as far as slot s, so that edges of one time are committed in the
order of R174 whichever of them is named. -/
def Dev.leadCheck (d : Dev) (now s : Nat) : Dev :=
  let k := (d.slot s).c.dom
  let l := (d.lead k).map (·.1)
  if d.committing k && l.contains s then
    ((l.take (l.idxOf s + 1)).foldl (fun d x => d.checkCommit now x) d).leadUpdate now k
  else d

/-- R198: a queue entry of channel c has freed. -/
def Dev.handover (d : Dev) (now c : Nat) : Dev := d.setChanLoad now c ((d.chan c).refill now)

/-- R189: a block restart frees every slot without records; an edge still at the Caravan for a full hand-over queue (R198) goes with its
slot, and those the channels hold are released. -/
def Dev.carvRestart (d : Dev) : Dev :=
  { d with carv := { d.carv with slots := [], stalled := [] }, chans := d.chans.map (fun c => { c with back := [] }) }

end Sys2Proof.Machine
end

