-- ==== Sys2Proof/Machine/Ign.lean ====
section
/-!
DEFINITION. Machine/Ign.lean: ignition channels (R212 to R219, R222): charge, spark, dwell limits, soft-off through IGNSOFT and
feedback checks.
-/

namespace Sys2Proof.Machine

def Dev.ign (d : Dev) (n : Nat) : Ign := vGet d.igns n
def Dev.setIgn (d : Dev) (n : Nat) (x : Ign) : Dev := { d with igns := vSet d.igns n x }
def Dev.ignMin (d : Dev) (n : Nat) : Nat := d.eff (F.IGN_DWELL_MIN n) * 12800
def Dev.ignMax (d : Dev) (n : Nat) : Nat := d.eff (F.IGN_DWELL_MAX n) * 12800

/-- A finding of R214, R215 or R219: its status bit, its count, its interrupt bit, and its report where it has a kind. -/
def Dev.ignFinding (d : Dev) (n : Nat) (stat cnt : Fld) (bit : Nat) (kind : Option (Nat × Nat)) : Dev :=
  let d1 := ((d.put stat true).incSat cnt).irq (P.IGN n) bit
  match kind with
  | some (k, c) => d1.rep (P.IGN n) k c
  | none => d1

/-- Channels stay at their safe-end state while outputs are inhibited, in SAFE, and while the page is disabled (R49, R467, R474). -/
def Dev.ignBarred (d : Dev) (n : Nat) : Bool :=
  d.inhibited || !d.running (P.IGN n) || d.flag (F.IGN_STAT_INHIBIT n) || d.supply.forcedOff


/-- IGNn falls: the last charge's registers and the charge probe (R212, R223, R462); pending RWS fields commit at once while low. -/
def Dev.ignFall (d : Dev) (now n : Nat) : Dev :=
  let x := d.ign n
  if !x.high then d
  else
    let dw := (now - x.since) / 16
    let fb := match x.fbAt with
      | some t => w32 (min ((t - x.since) / 16) 0xFFFFFFFF)
      | none => 0xFFFFFFFF
    let d1 := d.setIgn n { x with high := false, fell := some now }
    let d2 := ((d1.setLH (R.IGN_LAST_LO n) (R.IGN_LAST_HI n) x.since).setReg (R.IGN_LAST_DW n) (w32 dw)).setReg (R.IGN_LAST_FB n) fb
    (d2.probe now 0x16 n dw).commitSel (P.IGN n) (fun a => a != R.IGN_SOFT n)

/-- R219 NOCHG, once per charge. -/
def Dev.ignNochg (d : Dev) (n : Nat) : Dev :=
  let x := d.ign n
  if d.effB (F.IGN_FB_EN n) && x.fbAt.isNone && !x.nochg then
    (d.setIgn n { x with nochg := true }).ignFinding n (F.IGN_STAT_NOCHG n) (F.IGN_CNT_B_NOCHG n) 1 (some (0x2D, 1))
  else d

/-- A normal spark at `now` (R201): NOCHG and SHORTDW are decided, IGNn falls and the SPARK interrupt bit is set. -/
def Dev.ignSpark (d : Dev) (now n : Nat) : Dev :=
  let x := d.ign n
  if !x.high then d
  else
    let d1 := d.ignNochg n
    let d2 := if now - x.since < d.ignMin n then
        d1.ignFinding n (F.IGN_STAT_SHORTDW n) (F.IGN_CNT_A_SHORTDW n) 5 none else d1
    (d2.ignFall now n).irq (P.IGN n) 0

/-- The committed sparks of all channels but n, as the times they may be placed at. -/
def Dev.sparkTimes (d : Dev) (n : Nat) : List Nat :=
  ((List.range 24).filter (· != n)).flatMap (fun m =>
    let c := d.chan (48 + m)
    ((c.pend.toList ++ c.q ++ c.back).filter (fun e => e.isSpark (48 + m))).map (·.place))

/-- R217: the earliest soft-off time at or after `ts` with no committed spark inside its interval. -/
def softTime (s h : Nat) (sparks : List Nat) : Nat → Nat → Nat
  | 0, ts => ts
  | f + 1, ts =>
    match sparks.find? (fun p => decide (ts < p + s + h) && decide (p ≤ ts + s + h)) with
    | some p => softTime s h sparks f (p + h + s)
    | none => ts

/-- R216: a request that arrives while IGNSOFT is high and before t_s joins that soft-off. -/
def SoftIv.open (v : SoftIv) (now : Nat) : Bool := v.risen && decide (now < v.ts)

def joinSoft (now : Nat) (l : List Nat) (ivs : List SoftIv) : List SoftIv :=
  match ivs.find? (·.open now) with
  | some v => ivs.map (fun x => if x = v then { x with chans := x.chans ++ l } else x)
  | none => ivs

/-- R216, R217: a channel-level soft-off request. -/
def Dev.softRequest (d : Dev) (now n : Nat) : Dev :=
  let x := d.soft
  if x.ivs.any (·.open now) then { d with soft := { x with ivs := joinSoft now [n] x.ivs } }
  else
    let sp := d.sparkTimes n
    let ts := softTime d.softSetup d.softHold sp (sp.length + 1) (now + d.softSetup)
    let v : SoftIv := { rise := ts - d.softSetup, ts := ts, fall := ts + d.softHold, chans := [n] }
    { d with soft := { x with ivs := x.ivs ++ [v] } }

/-- SOFT_OFF_RISE (R216). -/
def Dev.softRise (d : Dev) (now : Nat) : Dev :=
  { d with soft := { d.soft with ivs := d.soft.ivs.map (fun v => if v.rise ≤ now then { v with risen := true } else v) } }

/-- One channel's part of SOFT_OFF_FALL: IGNn falls with IGNSOFT high, no spark, and the soft-off is counted. -/
def Dev.softFallOne (d : Dev) (now n : Nat) : Dev :=
  if (d.ign n).high then
    let d1 := d.ignFall now n
    (d1.setIgn n { d1.ign n with ended := true }).incSat (F.IGN_CNT_C_SOFT n)
  else d

/-- SOFT_OFF_FALL (R216): the channels' IGNn fall at t_s while IGNSOFT is high; a channel that has fallen waits in no other soft-off. -/
def Dev.softFall (d : Dev) (now : Nat) : Dev :=
  let due := fun (v : SoftIv) => v.risen && !v.fallen && decide (v.ts ≤ now)
  let gone := (d.soft.ivs.filter due).flatMap (·.chans)
  let d1 := gone.foldl (fun d n => d.softFallOne now n) d
  let ivs := d1.soft.ivs.map (fun v =>
    if due v then { v with fallen := true, chans := [] } else { v with chans := v.chans.filter (fun n => !gone.contains n) })
  { d1 with soft := { d1.soft with ivs := ivs } }

/-- SOFT_OFF_END (R216): the soft-off is over; `IGN_SOFT` commits while IGNSOFT is low (R222). -/
def Dev.softEnd (d : Dev) (now : Nat) : Dev :=
  let d1 : Dev := { d with soft := { d.soft with ivs := d.soft.ivs.filter (fun v => !(v.fallen && decide (v.fall ≤ now))) } }
  if d1.softHigh then d1 else d1.commitSel (P.IGN 0) (fun a => a == R.IGN_SOFT 0)

/-- The outcome of the occurrence behind the present charge (R215: SAFE_END is 8). -/
def Dev.markCharge (d : Dev) (n outcome : Nat) : Dev :=
  match (d.ign n).gen with
  | some (s, g) => if (d.slot s).gen = g ∧ (d.slot s).st ≠ 0 then d.updSlot s (fun y => { y with mark := outcome }) else d
  | none => d

/-- DWELL_MAX (R215). -/
def Dev.dwellMax (d : Dev) (now n : Nat) : Dev :=
  let x := d.ign n
  if x.high && decide (x.since + d.ignMax n ≤ now) && !x.ended then
    let d1 := (d.setIgn n { x with ended := true }).ignFinding n (F.IGN_STAT_DMAX n) (F.IGN_CNT_A_DMAX n) 4 (some (0x2C, 0))
    (d1.markCharge n 8).softRequest now n
  else d

/-- R219, R223: the feedback after POL. -/
def Dev.ignFb (d : Dev) (n : Nat) : Bool := xor (d.ign n).fb (d.effB (F.IGN_FB_POL n))

/-- R219: the feedback of a running charge is asserted for the first time. Less than RISE_MIN after the charge start it is EARLY. -/
def Dev.ignAsserted (d : Dev) (now n : Nat) : Dev :=
  let x := d.ign n
  if d.ignFb n && x.high && x.fbAt.isNone then
    let d1 := d.setIgn n { x with fbAt := some now }
    if d.effB (F.IGN_FB_EN n) && decide (now - x.since < d.eff (F.IGN_FB_RISE_MIN n) * 12800) then
      let d2 := d1.ignFinding n (F.IGN_STAT_EARLY n) (F.IGN_CNT_B_EARLY n) 2 (some (0x2E, 1))
      if d.effB (F.IGN_FB_INH_SHORT n) then (d2.put (F.IGN_STAT_INHIBIT n) true).softRequest now n else d2
    else d1
  else d

/-- IGN_FEEDBACK_EDGE (R219): `lvl` is the pin level. -/
def Dev.ignFeedback (d : Dev) (now n : Nat) (lvl : Bool) : Dev := (d.setIgn n { d.ign n with fb := lvl }).ignAsserted now n

/-- Charge start: IGNn rises (R201, R212); the page's RWS fields commit (R222). A feedback that is asserted already is found so now. -/
def Dev.ignStart (d : Dev) (now n : Nat) (occ : Option (Nat × Nat)) : Dev :=
  if d.ignBarred n || (d.ign n).high then d
  else
    let d1 := d.commitSel (P.IGN n) (fun a => a != R.IGN_SOFT n)
    let x := d1.ign n
    (d1.setIgn n { x with high := true, since := now, fbAt := none, fell := none, gen := occ, ended := false, nochg := false }).ignAsserted now n

/-- IGN_NOCHG (R219): RISE_MAX after the charge start. -/
def Dev.ignNochgTimeout (d : Dev) (now n : Nat) : Dev :=
  let x := d.ign n
  if x.high && decide (x.since + d.eff (F.IGN_FB_RISE_MAX n) * 12800 ≤ now) then d.ignNochg n else d

/-- IGN_STUCK (R219): FALL_MAX after IGNn fell. -/
def Dev.ignStuck (d : Dev) (now n : Nat) : Dev :=
  let x := d.ign n
  match x.fell with
  | some t =>
    if d.effB (F.IGN_FB_EN n) && d.ignFb n && decide (t + d.eff (F.IGN_FB2_FALL_MAX n) * 12800 ≤ now) then
      (d.setIgn n { x with fell := none }).ignFinding n (F.IGN_STAT_STUCK n) (F.IGN_CNT_C_STUCK n) 3 (some (0x2F, 1))
    else d
  | none => d

/-- IGN_CTL.UNINH and CLR (R223). -/
def Dev.ignUninh (d : Dev) (n : Nat) : Dev := d.put (F.IGN_STAT_INHIBIT n) false
def Dev.ignClr (d : Dev) (n : Nat) : Dev :=
  ((d.setReg (R.IGN_CNT_A n) 0).setReg (R.IGN_CNT_B n) 0).setReg (R.IGN_CNT_C n) 0

/-- A read of IGN_LAST_LO latches the rest of the last charge (R223). -/
def Dev.ignLatch (d : Dev) (who : Initiator) (n : Nat) : Dev :=
  d.setLatches who [(R.IGN_LAST_HI n, d.reg (R.IGN_LAST_HI n)), (R.IGN_LAST_DW n, d.reg (R.IGN_LAST_DW n)),
    (R.IGN_LAST_FB n, d.reg (R.IGN_LAST_FB n))]

/-- R217: every committed spark inside the interval of the soft-off in force is delayed past it. -/
def Dev.delaySparks (d : Dev) : Dev :=
  (List.range 24).foldl (fun d n =>
    let c := d.chan (48 + n)
    let f := fun e => (d.softDelay (48 + n) e).1
    let hit := (c.pend.toList ++ c.q ++ c.back).any (fun e => (d.softDelay (48 + n) e).2)
    let d1 := d.setChan (48 + n) { c with pend := c.pend.map f, q := c.q.map f, back := c.back.map f }
    if hit then d1.irq (P.IGN n) 6 else d1) d

/-- R218: a domain safe end of the listed channels: IGNSOFT rises now and their IGNn fall SETUP later, unless an open soft-off is joined
(R216); the other sparks are delayed. The channels' own edges have been cancelled before. -/
def Dev.softDomain (d : Dev) (now : Nat) (l : List Nat) : Dev :=
  let x := d.soft
  if l = [] then d
  else if x.ivs.any (·.open now) then { d with soft := { x with ivs := joinSoft now l x.ivs } }
  else
    let ts := now + d.softSetup
    let v : SoftIv := { rise := now, ts := ts, fall := ts + d.softHold, chans := l, risen := true }
    ({ d with soft := { x with ivs := x.ivs ++ [v] } }).delaySparks

/-- R218, R467, R474: device SAFE and the inhibited modes: IGNSOFT stays high, and a charge that runs falls SETUP later. -/
def Dev.softForce (d : Dev) (now : Nat) : Dev :=
  let d1 := d.softDomain now ((List.range 24).filter (fun n => (d.ign n).high))
  { d1 with soft := { d1.soft with hold := true } }

/-- R23: the analog die forces every IGNn low at once. -/
def Dev.softForceNow (d : Dev) (now : Nat) : Dev :=
  let d1 := (List.range 24).foldl (fun d n => d.softFallOne now n) d
  { d1 with soft := { hold := true } }

/-- IGNSOFT is released when the device leaves SAFE or an inhibited mode. -/
def Dev.softRelease (d : Dev) : Dev :=
  let d1 : Dev := { d with soft := { d.soft with hold := false } }
  if d1.softHigh then d1 else d1.commitSel (P.IGN 0) (fun a => a == R.IGN_SOFT 0)

/-- A write of `PCTL.ENABLE` 0 or a block restart of IGNn: its output takes the safe-end action, a soft-off (R48, R51, R220). -/
def Dev.ignSafe (d : Dev) (now n : Nat) : Dev := d.softDomain now [n]

end Sys2Proof.Machine
end

