-- ==== Sys2Proof/Machine/Drv.lean ====
section
/-!
DEFINITION. Machine/Drv.lean: solenoid and valve drive (08_solenoid_drive.md): the profile store, running a profile, armature
detection, bank admission and sharing, boost converters, protections and diagnostics, direct gate actions and drive records.
-/

namespace Sys2Proof.Machine

/-! ## Profiles (R228 to R231) -/

/-- Bits of word `i` of the header or of phase `k` of a profile copy. -/
def hdr (p : List Word) (i hi lo : Nat) : Nat := wordGet (p.getD i 0) hi lo
def phw (p : List Word) (k i hi lo : Nat) : Nat := wordGet (p.getD (4 + 4 * k + i) 0) hi lo

def nph (p : List Word) : Nat := hdr p 0 3 0
def endPh (p : List Word) : Nat := hdr p 0 7 4
def phSupply (p : List Word) (k : Nat) : Nat := phw p k 0 1 0
def phFast (p : List Word) (k : Nat) : Bool := phw p k 0 2 2 != 0
def phExit (p : List Word) (k : Nat) : Nat := phw p k 0 5 3
def phArmdet (p : List Word) (k : Nat) : Bool := phw p k 0 6 6 != 0
def phDefer (p : List Word) (k : Nat) : Bool := phw p k 0 7 7 != 0
def phAbort (p : List Word) (k : Nat) : Bool := phw p k 0 8 8 != 0
def phFdT (p : List Word) (k : Nat) : Nat := phw p k 0 31 16 * 128
def phLo (p : List Word) (k : Nat) : Nat := phw p k 1 27 16
def phHi (p : List Word) (k : Nat) : Nat := phw p k 1 11 0
def phTmax (p : List Word) (k : Nat) : Nat := phw p k 2 31 16 * 12800
def phTmin (p : List Word) (k : Nat) : Nat := phw p k 2 15 0 * 1280

/-- R230 code 4: the armature window, NS or DEC_LOG2 is bad. -/
def awinBad (p : List Word) : Bool := decide (hdr p 2 31 16 ≤ hdr p 2 15 0) || hdr p 3 9 4 == 0 || decide (5 < hdr p 3 3 0)

/-- R230: the first failing condition of phase k, of codes 5 to 9. -/
def phaseCheck (p : List Word) (k : Nat) : Nat :=
  if phSupply p k = 3 then 5
  else if 4 ≤ phExit p k ∨ (phExit p k = 2 ∧ !phArmdet p k) then 6
  else if phTmax p k = 0 ∨ phTmax p k < phTmin p k then 7
  else if ((phSupply p k ≠ 0 ∧ phExit p k ≠ 0) ∨ (phSupply p k = 0 ∧ phExit p k = 0)) ∧ phHi p k ≤ phLo p k then 8
  else if (phSupply p k = 0 ∧ phFast p k ∧ phExit p k = 0) ∨ (phArmdet p k ∧ phSupply p k = 0) then 9
  else 0

def phasesCheck (p : List Word) : List Nat → Nat × Nat
  | [] => (0, 0)
  | k :: r => if phaseCheck p k = 0 then phasesCheck p r else (phaseCheck p k, k)

/-- R230: validation of a staged profile: code and phase, 0 when it passes. -/
def profCheck (p : List Word) : Nat × Nat :=
  if nph p = 0 ∨ 8 < nph p then (1, 0)
  else if nph p ≤ endPh p ∧ endPh p ≠ 15 then (2, 0)
  else if hdr p 0 9 8 = 3 then (3, 0)
  else match (List.range (nph p)).find? (fun k => phArmdet p k && awinBad p) with
    | some k => (4, k)
    | none => phasesCheck p (List.range (nph p))

/-- PROF_LOAD (R230): a write while PEND is 1 is discarded. -/
def Dev.profLoad (d : Dev) (p : Nat) : Dev :=
  if d.flag F.PROF_LSTAT_PEND then d
  else ({ d with prof := { d.prof with load := some (p % 16) } }).put F.PROF_LSTAT_PEND true

/-- PROF_LOAD_DONE (R230). -/
def Dev.profLoadDone (d : Dev) : Dev :=
  match d.prof.load with
  | none => d
  | some p =>
    let ws := d.words (0x41100000 + p * 0x100) 36
    let (code, ph) := profCheck ws
    let st := w32 (code * 0x1000000 + p * 0x10000 + ph * 16)
    let d1 := ({ d with prof := { d.prof with load := none } }).setReg R.PROF_LSTAT st
    if code = 0 then
      (({ d1 with prof := { d1.prof with active := smPut d1.prof.active p ws [] } }).setReg R.PROF_VALID
        (d1.reg R.PROF_VALID ||| (1#32 <<< p))).irq P.PROF 0
    else (d1.irq P.PROF 1).rep P.PROF 0x30 0

def Dev.profValid (d : Dev) (p : Nat) : Bool := (d.reg R.PROF_VALID).getLsbD p
def Dev.profCopy (d : Dev) (p : Nat) : List Word := smGetD d.prof.active p []

/-! ## Channels and banks -/

def Dev.drv (d : Dev) (n : Nat) : Drv := vGet d.drvs n
def Dev.setDrv (d : Dev) (n : Nat) (x : Drv) : Dev := { d with drvs := vSet d.drvs n x }
def Dev.updDrv (d : Dev) (n : Nat) (f : Drv → Drv) : Dev := d.setDrv n (f (d.drv n))
def bankOf (n : Nat) : Nat := n / 4
def bstOf (n : Nat) : Nat := n / 24
def Dev.mates (n : Nat) : List Nat := ((List.range 4).map (4 * bankOf n + ·)).filter (· != n)

/-- Flag i of the drive record (R262). -/
def setFlag (f : BitVec 16) (i : Nat) : BitVec 16 := f ||| (1#16 <<< i)
def Dev.drvFlag (d : Dev) (n i : Nat) : Dev := d.updDrv n (fun x => { x with flags := setFlag x.flags i })

/-- R227: the comparator code of a threshold, clamped; and whether it was. -/
def dacRaw (i rsh : Nat) : Nat := (2 * i * rsh + 250) / 500
def dacCode (i rsh : Nat) : Nat := min (dacRaw i rsh) 1023
def Dev.rsh (d : Dev) (n : Nat) : Nat := d.eff (F.DRV_SENSE_RSH n)
/-- Is a current of `cur` × 10 mA at or above the comparator code of a threshold? -/
def Dev.atOrAbove (d : Dev) (n cur thr : Nat) : Bool := decide (dacCode thr (d.rsh n) * 250 ≤ cur * d.rsh n)
def Dev.atOrBelow (d : Dev) (n cur thr : Nat) : Bool := decide (cur * d.rsh n ≤ dacCode thr (d.rsh n) * 250)
/-- R227: the mean of `cnt` converter codes of sum `sum` in units of 10 mA, rounded down; and one code. -/
def Dev.meanToI (d : Dev) (n sum cnt : Nat) : Nat := min (sum * 125 / (2 * max (d.rsh n) 1 * cnt)) 4095
def Dev.codeToI (d : Dev) (n code : Nat) : Nat := d.meanToI n code 1

/-- R242: the boards a start cannot pass: the device keeps its outputs off, the page or its bank is disabled, the channel INHIBITED,
the bank LATCHED or the duty limit holds. -/
def Dev.drvBarred (d : Dev) (n : Nat) (bank : Bool) : Bool :=
  d.inhibited || d.supply.forcedOff || !d.running (P.DRV n) || d.flag (F.DRV_STAT_INHIBIT n)
    || (d.drv n).duty || (bank && (d.flag (F.BANK_STAT_LATCHED (bankOf n)) || !d.running (P.BANK (bankOf n))))

/-- Is the channel free of a running, decaying or direct action and past OFF_MIN (R242 step 2)? -/
def Drv.busy (x : Drv) : Bool := x.st != 0

/-- R245: does the channel conduct? -/
def Drv.conducts (x : Drv) : Bool :=
  (!x.isDirect && (x.st == 2 || x.st == 3)) || (x.isDirect && x.directBat && (x.st == 6 || x.st == 3))
/-- A start that holds the bank's admission while it waits for boost (R251). -/
def Drv.holds (x : Drv) : Bool := x.waits.any (fun w => w.why == 3)
/-- Is the channel in a phase with SUPPLY = BOOST (R247)? -/
def Drv.inBoost (x : Drv) : Bool := !x.isDirect && x.st == 2 && phSupply x.prof x.phase == 2

/-- The low-side gate DRVnG (R232, R248, R259); a NONE phase keeps its own setting while the bank is shared. -/
def Drv.gateOn (x : Drv) : Bool :=
  if x.st = 6 then true
  else if x.st = 2 then !x.cut && (x.chg || !phFast x.prof x.phase || (x.wheel && phSupply x.prof x.phase != 0))
  else false

/-- Does the channel ask for a high-side: 2 boost, 1 battery, 0 none? -/
def Drv.asks (x : Drv) : Nat :=
  if x.st = 6 then (if x.directBat then 1 else 0)
  else if x.st = 2 ∧ x.chg ∧ !x.cut then
    (if phSupply x.prof x.phase = 2 ∧ !x.batAll ∧ !x.batPh then 2 else if phSupply x.prof x.phase = 0 then 0 else 1)
  else 0

/-- R248: the bank's high-sides, conducting set and SHARED after any change of its channels; BANK settings commit when no channel
conducts (R267); while two channels conduct and both high-sides are off, their low-sides conduct (R248). -/
def Dev.bankDrive (d : Dev) (now b : Nat) : Dev :=
  let l := (List.range 4).map (4 * b + ·)
  let off := d.flag (F.BANK_STAT_LATCHED b) || d.inhibited || d.supply.forcedOff || !d.running (P.BANK b)
  let hv := !off && l.any (fun n => (d.drv n).asks == 2)
  let hb := !off && !hv && l.any (fun n => (d.drv n).asks == 1)
  let cond := (l.map (fun n => if (d.drv n).conducts then 2 ^ (n % 4) else 0)).foldl (· + ·) 0
  let two := decide (2 ≤ (l.filter (fun n => (d.drv n).conducts)).length)
  let changed := d.flag (F.BANK_STAT_HV b) != hv || d.flag (F.BANK_STAT_HB b) != hb
  let d1 := if changed then { d with banks := vSet d.banks b { vGet d.banks b with hsAt := now } } else d
  let d2 := if two && !d1.flag (F.BANK_STAT_SHARED b) then d1.incSat (F.BANK_CNT_B_SHARE b) else d1
  let d3 := (((d2.put (F.BANK_STAT_SHARED b) two).set (F.BANK_STAT_COND b) cond).put (F.BANK_STAT_HV b) hv).put (F.BANK_STAT_HB b) hb
  let d4 := if hv || hb then l.foldl (fun d n => d.updDrv n (fun x => { x with wheel := false })) d3
    else l.foldl (fun d n => d.updDrv n (fun x => { x with cut := false, wheel := two })) d3
  if cond = 0 then d4.commit (P.BANK b) else d4

/-! ## Records and outcomes (R237, R262, R263) -/

/-- The result ring of channel n's drive records, where they are enabled. -/
def Dev.drvRing (d : Dev) (n : Nat) : Option Nat := if d.flag (F.DRV_CFG_REC_EN n) then some (d.get (F.DRV_CFG_REC_RES n)) else none

/-- One drive record, into ring `dest`. -/
def Dev.drvRecord (d : Dev) (now n : Nat) (dest : Option Nat) (o : DrvOcc) (flags : BitVec 16) (profNo lastPh start : Nat) (arm : Nat)
    (armI peak onDu waitDu : Nat) : Dev :=
  match dest with
  | none => d
  | some ring =>
    let w0 := 0x10000000 + flags.toNat * 256 + n
    let w1 := o.tag * 65536 + profNo % 16 * 4096 + lastPh % 8 * 512 + o.recSlot
    let e1 := if flags.getLsbD 0 then d.probe now 0x0A n arm else d
    let e2 := (e1.probe now 0x0B n peak).probe now 0x0C n waitDu
    match e2.ringPush now (8 + ring)
        [w32 w0, w32 w1, lo32 start, hi32 start, w32 arm, w32 (armI * 65536 + peak), w32 (min onDu 0xFFFFFFFF),
         w32 (min waitDu 0xFFFFFFFF)] with
    | some d' => d'
    | none => (e2.incSat (F.DRV_CNT_C_REC_LOST n)).irq (P.DRV n) 8

/-- Does the occurrence still stand in its slot? -/
def Dev.occLive (d : Dev) (o : DrvOcc) : Bool := o.has && (d.slot o.slot).gen == o.gen && (d.slot o.slot).st != 0

/-- R263: mark an occurrence with SAFE_END (8) or DRIVE_FLAG (10); SAFE_END stands before. -/
def Dev.drvMark (d : Dev) (o : DrvOcc) (m : Nat) : Dev :=
  if d.occLive o then d.updSlot o.slot (fun y => { y with mark := if y.mark = 8 then 8 else m }) else d

/-- R237: a run has ended or a waiting direct gate-on was admitted; the occurrence ends when its end edge has been released. -/
def Dev.drvRunDone (d : Dev) (now : Nat) (o : DrvOcc) : Dev :=
  if d.occLive o then
    let d1 := d.updSlot o.slot (fun y => { y with drvBusy := false })
    let y := d1.slot o.slot
    if !actHasEnd y.c.act || y.endRel.isSome then d1.occEnd now o.slot y.endRel else d1
  else d

/-- R243: round(wait × ω). -/
def Dev.waitAu (d : Dev) (n tu : Nat) : Nat := (2 * ((d.pred (d.chanDom n)).omega * tu) + 2 ^ 40) / (2 * 2 ^ 40)

/-- The wait of a start in the completion record (R243). -/
def Dev.drvLate (d : Dev) (now n : Nat) (w : DrvWait) : Dev :=
  if d.occLive w.occ && (w.tol.isSome || w.late != 0) then
    let tu := now - w.rel
    d.updSlot w.occ.slot (fun y => { y with lateAu := some (d.waitAu n tu), lateTu := tu, lateOut := w.late,
                                            placeLate := if w.late = 0 then max 1 tu else y.placeLate })
  else d

/-- A start is dropped (R242, R243, R244, R246, R251): its record and its occurrence's end. -/
def Dev.dropStart (d : Dev) (now n : Nat) (w : DrvWait) (outcome : Nat) : Dev :=
  let d1 := d.drvRecord now n (d.drvRing n) w.occ w.flags (d.eff (F.DRV_CFG_PROF n)) 0 now 0xFFFFFFFF 0 0 0 ((now - w.rel) / 16)
  let d2 := if outcome = 9 then (d1.incSat (F.DRV_CNT_B_DROP n)).irq (P.DRV n) 7 else d1
  let d3 := if d2.occLive w.occ then (d2.drvLate now n w).dropEvent now w.occ.slot outcome else d2
  d3

/-- R267: the commit point of a DRV page, in the handshake that leaves the channel IDLE. -/
def Dev.drvIdle (d : Dev) (n : Nat) : Dev := if (d.drv n).st = 0 ∧ (d.drv n).waits = [] then d.commit (P.DRV n) else d

/-- Remove a wait (they are told apart by their order of arrival). -/
def Dev.dropWait (d : Dev) (now n : Nat) (w : DrvWait) (outcome : Nat) : Dev :=
  ((d.updDrv n (fun x => { x with waits := x.waits.filter (fun v => v.order != w.order) })).dropStart now n w outcome).drvIdle n

/-- Every waiting start of the channel is dropped. -/
def Dev.dropWaits (d : Dev) (now n outcome : Nat) : Dev :=
  (d.drv n).waits.foldl (fun d w => d.dropWait now n w outcome) d

/-! ## On-time (R254, R255) -/

/-- On-time begins. -/
def Drv.onBegin (x : Drv) (now : Nat) : Drv := { x with onAt := some now, bktFrom := some now, onTime := 0 }
/-- On-time ends: it is kept for the record and the present bucket. -/
def Drv.onEnd (x : Drv) (now : Nat) : Drv :=
  { x with onAt := none, bktFrom := none,
           onTime := (match x.onAt with | some t => now - t | none => x.onTime),
           bktOn := x.bktOn + (match x.bktFrom with | some t => now - t | none => 0) }

def Dev.dutyWin (d : Dev) (n : Nat) : Nat := d.eff (F.DRV_DUTY_DUTY_WIN n) * 12800000
/-- R255: on-time over the present and the 15 previous buckets, in tu. -/
def Drv.dutySum (x : Drv) (now : Nat) : Nat :=
  x.bkts.foldl (· + ·) 0 + x.bktOn + (match x.bktFrom with | some t => now - t | none => 0)
/-- DRV_DUTY_NOW.USE. -/
def Dev.dutyUse (d : Dev) (now n : Nat) : Nat := min ((d.drv n).dutySum now * 1000 / max (d.dutyWin n) 1) 1023

/-! ## End decay and the armature search's miss (R236, R241) -/

def hasArmdet (p : List Word) (l : List Nat) : Bool := l.any (fun k => phArmdet p k)

/-- R241. -/
def Dev.armMiss (d : Dev) (n : Nat) : Dev :=
  let x := d.drv n
  if x.arm.isNone && !x.flags.getLsbD 1 then
    ((((d.drvFlag n 1).put (F.DRV_STAT_ARM_MISS n) true).incSat (F.DRV_CNT_A_ARM_MISS n)).irq (P.DRV n) 3).rep (P.DRV n) 0x33 0
  else d

/-- R236: the channel enters end decay; a profile in an ARMDET phase leaves its last one without detection. -/
def Dev.endDecay (d : Dev) (now n : Nat) : Dev :=
  let x := d.drv n
  if x.st = 2 then
    let d1 := if phArmdet x.prof x.phase || (!x.endRun && hasArmdet x.prof (List.range (x.phase + 1))) then d.armMiss n else d
    (d1.updDrv n (fun y => { y.onEnd now with st := 3, chg := false, cut := false, decayEnd := now + hdr y.prof 1 15 0 * 1280 })).bankDrive
      now (bankOf n)
  else if x.st = 6 then
    let p := d.eff (F.DRV_CFG_PROF n)
    let t := if d.profValid p then hdr (d.profCopy p) 1 15 0 * 1280 else 1280000
    (d.updDrv n (fun y => { y.onEnd now with st := 3, decayEnd := now + t })).bankDrive now (bankOf n)
  else d

/-- A run that carries flag i. -/
def Dev.flagRun (d : Dev) (n i : Nat) : Dev := d.drvFlag n i

/-! ## Phases (R232 to R235) -/

/-- R233: does the present phase's exit condition hold, with the current at `cur` × 10 mA? A COMMAND_END phase exits whenever the
command has ended (R235); the others from T_MIN on. -/
def Dev.exitHolds (d : Dev) (now n cur : Nat) : Bool :=
  let x := d.drv n
  let k := x.phase
  if phExit x.prof k = 3 then x.cmdEnded
  else decide (x.phaseAt + phTmin x.prof k ≤ now) &&
    (match phExit x.prof k with
     | 0 => if phSupply x.prof k = 0 then d.atOrBelow n cur (phLo x.prof k) else d.atOrAbove n cur (phHi x.prof k)
     | 1 => true
     | _ => x.arm.isSome)

/-- Is the bank's high-side on for another channel (R248)? -/
def Dev.otherCharges (d : Dev) (n : Nat) : Bool := (Dev.mates n).any (fun m => (d.drv m).asks != 0)

/-- R241: does the run leave its last ARMDET phase as it goes on to phase k? The phases it has run lie behind it; phase k, those after it
and END_PH, which a command end or a timeout may call for, can follow. -/
def Drv.lastArmdet (x : Drv) (k : Nat) : Bool :=
  let rest := if x.endRun then [k]
    else (List.range (nph x.prof)).filter (k ≤ ·) ++ (if endPh x.prof = 15 then [] else [endPh x.prof])
  hasArmdet x.prof (List.range (x.phase + 1)) && !hasArmdet x.prof rest

/-- Enter phase k (R232): the gates, at or above I_HI beside a charging channel with the low-side off (R248), the battery fallback of a
BOOST phase beside another (R247), the armature search. -/
def Dev.enterPhase (d : Dev) (now n k cur : Nat) : Dev :=
  let x := d.drv n
  let chg := phSupply x.prof k != 0 && !d.atOrAbove n cur (phHi x.prof k)
  let cut := phSupply x.prof k != 0 && !chg && d.otherCharges n
  let bat := phSupply x.prof k == 2 && k != 0 && (Dev.mates n).any (fun m => (d.drv m).inBoost)
  let d1 := d.updDrv n (fun y =>
    let z := { y with phase := k, phaseAt := now, chg := chg, cut := cut, offAt := now, batPh := bat }
    if phArmdet y.prof k ∧ chg then z else { z with ys := [], gmax := 0, dip := false })
  let d2 := if bat || (x.batAll && phSupply x.prof k == 2) then (d1.drvFlag n 2).put (F.DRV_STAT_BAT_FB n) true else d1
  let d3 := if x.lastArmdet k then d2.armMiss n else d2
  d3.bankDrive now (bankOf n)

/-- The channel goes to END_PH, or to end decay when it is 15 (R234, R235). -/
def Dev.goEnd (d : Dev) (now n cur : Nat) : Dev :=
  let x := d.drv n
  if endPh x.prof = 15 ∨ x.endRun then d.endDecay now n
  else (d.updDrv n (fun y => { y with endRun := true, deferEnd := false })).enterPhase now n (endPh x.prof) cur

/-- The present phase exits: to END_PH when a deferred command end waits for it, else to the next phase or to end decay. -/
def Dev.phaseExit (d : Dev) (now n cur : Nat) : Dev :=
  let x := d.drv n
  if x.endRun then d.endDecay now n
  else if x.deferEnd then d.goEnd now n cur
  else if nph x.prof ≤ x.phase + 1 then d.endDecay now n
  else d.enterPhase now n (x.phase + 1) cur

/-- Exits that hold at once are taken one after another, through at most the eight phases and END_PH. -/
def Dev.settle (now n cur : Nat) : Nat → Dev → Dev
  | 0, d => d
  | f + 1, d => if (d.drv n).st = 2 ∧ d.exitHolds now n cur then Dev.settle now n cur f (d.phaseExit now n cur) else d

/-! ## Command end (R235) -/

/-- The command of the running profile ends. -/
def Dev.commandEnd (d : Dev) (now n cur : Nat) : Dev :=
  let x := d.drv n
  if x.st = 2 ∧ !x.isDirect ∧ !x.cmdEnded then
    let k := x.phase
    let d1 := d.updDrv n (fun y => { y with cmdEnded := true })
    if phExit x.prof k = 3 then Dev.settle now n cur 10 d1
    else if x.endRun then d1
    else if phDefer x.prof k then d1.updDrv n (fun y => { y with deferEnd := true })
    else Dev.settle now n cur 10 ((d1.drvFlag n 15).goEnd now n cur)
  else d

/-! ## Starting (R242 to R251) -/

/-- Do the channel's over-current threshold or the profile's thresholds clamp (R227)? A direct run has no profile. -/
def Dev.thrSat (d : Dev) (n : Nat) (p : List Word) : Bool :=
  let r := d.rsh n
  decide (1023 < dacRaw (d.eff (F.DRV_SENSE_OC_THR n)) r) ||
    (List.range (nph p)).any (fun k => decide (1023 < dacRaw (phHi p k) r) || decide (1023 < dacRaw (phLo p k) r))

def Dev.thrClamped (d : Dev) (n : Nat) : Dev := ((d.drvFlag n 14).put (F.DRV_STAT_THR_SAT n) true).rep (P.DRV n) 0x31 0

/-- R242 step 5: the channel starts phase 0, or turns its direct gate on (R259). The gate commands are issued three further stages
after the last decision. -/
def Dev.startNow (d : Dev) (now n : Nat) (w : DrvWait) (cur : Nat) : Dev :=
  let issued := d.threeStages now
  let d0 := d.tickFree.drvLate now n w
  let x := d0.drv n
  let pn := d0.eff (F.DRV_CFG_PROF n)
  if w.gate then
    let bat := d0.eff (F.DRV_CFG_DIRECT_SUP n) == 1
    let y : Drv := { x with st := 6, occ := w.occ, prof := [], profNo := pn, phase := 0, start := issued, rel := w.rel, flags := w.flags,
                            arm := none, armI := 0, peak := 0, isDirect := true, directBat := bat, tripped := false, cmdEnded := false,
                            endRun := false, deferEnd := false, batAll := false, batPh := false, chg := false, cut := false, ys := [] }
    let d1 := d0.setDrv n (y.onBegin issued)
    ((if d1.thrSat n [] then d1.thrClamped n else d1).bankDrive now (bankOf n)).drvRunDone now w.occ
  else
    let p := d0.profCopy pn
    let fb := w.flags.getLsbD 2
    let y : Drv := { x with st := 2, occ := w.occ, prof := p, profNo := pn, start := issued, rel := w.rel, flags := w.flags, arm := none,
                            armI := 0, peak := 0, isDirect := false, directBat := false, tripped := false, cmdEnded := w.ended,
                            endRun := false, deferEnd := false, batAll := fb, batPh := false, ys := [], gmax := 0, dip := false, phase := 0 }
    let d1 := (d0.setDrv n (y.onBegin issued)).irq (P.DRV n) 0
    let d2 := (((d1.setLH (R.DRV_LAST_LO n) (R.DRV_LAST_HI n) issued).setReg (R.DRV_LAST_ARM n) 0xFFFFFFFF).setReg (R.DRV_LAST_I n) 0)
    let d3 := if d2.thrSat n p then d2.thrClamped n else d2
    Dev.settle issued n cur 10 (d3.enterPhase issued n 0 cur)

/-- A start begins or goes on waiting. -/
def Dev.waitStart (d : Dev) (now n : Nat) (w : DrvWait) (why : Nat) : Dev :=
  let b := bankOf n
  let o := (vGet d.banks b).order
  let flag := if why = 1 then 5 else if why = 2 then 4 else 3
  let w' : DrvWait := { w with why := why, since := now, order := o, flags := setFlag w.flags flag }
  let d1 : Dev := { d with banks := vSet d.banks b { vGet d.banks b with order := o + 1 } }
  let d2 := d1.updDrv n (fun x => { x with waits := x.waits ++ [w'] })
  if w.flags &&& 0x38#16 = 0 then d2.incSat (F.DRV_CNT_C_DELAY n) else d2

/-- R242 step 4, R251. -/
def Dev.boostCheck (d : Dev) (now n : Nat) (w : DrvWait) (cur : Nat) : Dev :=
  let p := d.profCopy (d.eff (F.DRV_CFG_PROF n))
  let k := bstOf n
  let needs := !w.gate && (List.range (nph p)).any (fun i => phSupply p i == 2)
  if needs && !d.flag (F.BST_STAT_READY_ST k) then
    let note : Fld → Dev := fun c => ((d.incSat c).irq (P.BST k) 4).rep (P.BST k) 0x3D 0
    match hdr p 0 9 8 with
    | 0 => (note (F.BST_CNT_B_BNR_WAIT k)).waitStart now n w 3
    | 1 => (note (F.BST_CNT_B_BNR_FB k)).startNow now n { w with flags := setFlag w.flags 2 } cur
    | _ => (note (F.BST_CNT_C_BNR_SKIP k)).dropStart now n w 9
  else d.startNow now n w cur

/-- R242 step 3, R245 to R250: admission by the bank's policy. A direct gate-on without supply does not use the bank. -/
def Dev.letIn (d : Dev) (now n : Nat) (w : DrvWait) (cur : Nat) : Dev :=
  let b := bankOf n
  let usesBank := !w.gate || d.eff (F.DRV_CFG_DIRECT_SUP n) == 1
  let others := (Dev.mates n).filter (fun m => (d.drv m).conducts || (d.drv m).holds)
  let p := d.profCopy (d.eff (F.DRV_CFG_PROF n))
  let waits : Bool → Dev := fun pre =>
    let d1 := d.irq (P.BANK b) 0
    let d2 := if w.flags.getLsbD 4 then d1 else d1.incSat (F.BANK_CNT_A_WAIT b)
    d2.waitStart now n { w with pre := pre } 2
  if !usesBank ∨ others = [] then d.boostCheck now n w cur
  else if d.eff (F.BANK_CFG_POLICY b) = 1 then
    if others.length < 2 ∧ !(!w.gate && phSupply p 0 == 2 && others.any (fun m => (d.drv m).inBoost)) then d.boostCheck now n w cur
    else waits false
  else if d.eff (F.BANK_CFG_POLICY b) = 2 then
    match others.find? (fun m => (d.drv m).conducts && decide ((d.drv m).occ.prio < w.occ.prio)) with
    | some m =>
      let d1 := (((d.drvFlag m 6).drvMark (d.drv m).occ 10).endDecay now m)
      let d2 := ((d1.put (F.BANK_STAT_PREEMPT b) true).incSat (F.BANK_CNT_B_PREEMPT b)).irq (P.BANK b) 2
      let d3 := d2.irq (P.BANK b) 0
      let d4 := if w.flags.getLsbD 4 then d3 else d3.incSat (F.BANK_CNT_A_WAIT b)
      d4.waitStart now n { w with pre := true, flags := setFlag w.flags 7 } 2
    | none => waits false
  else waits false

/-- R242 steps 1 and 2 for a released start; a busy channel makes it wait within its tolerance (R243). -/
def Dev.drvStart (d : Dev) (now n : Nat) (w : DrvWait) (cur : Nat) : Dev :=
  let bank := !w.gate || d.eff (F.DRV_CFG_DIRECT_SUP n) == 1
  if d.drvBarred n bank then d.dropStart now n w 9
  else if !w.gate && !d.profValid (d.eff (F.DRV_CFG_PROF n)) then (d.rep P.PROF 0x30 0).dropStart now n w 9
  else if (d.drv n).busy then
    let tol := (if w.gate then d.get F.CARV_LTOL_TOL_OTHER else d.get F.CARV_LTOL_TOL_PROF) * 256
    d.waitStart now n { w with tol := some (w.rel + tol) } 1
  else d.letIn now n w cur

/-- Remove a wait and repeat the decision from the step it waited at (R242). -/
def Dev.resume (d : Dev) (now n : Nat) (w : DrvWait) (cur : Nat) : Dev :=
  let d1 := d.updDrv n (fun x => { x with waits := x.waits.filter (fun v => v.order != w.order) })
  if w.why = 3 then d1.startNow now n w cur
  else if (d1.drv n).busy then d
  else (d1.letIn now n w cur).drvIdle n

/-- BANK_ADMIT (R246): of the starts waiting at bank b, the highest PRIO, then the first to arrive. -/
def Dev.bankWaits (d : Dev) (b : Nat) : List (Nat × DrvWait) :=
  ((List.range 4).map (4 * b + ·)).flatMap (fun n => ((d.drv n).waits.filter (fun w => w.why == 2)).map (fun w => (n, w)))
def firstWait : List (Nat × DrvWait) → Option (Nat × DrvWait)
  | [] => none
  | e :: r => match firstWait r with
    | none => some e
    | some f => if f.2.occ.prio > e.2.occ.prio ∨ (f.2.occ.prio = e.2.occ.prio ∧ f.2.order < e.2.order) then some f else some e
/-- May this start be admitted as things stand? -/
def Dev.mayAdmit (d : Dev) (n : Nat) (w : DrvWait) : Bool :=
  let b := bankOf n
  let others := (Dev.mates n).filter (fun m => (d.drv m).conducts || (d.drv m).holds)
  let p := d.profCopy (d.eff (F.DRV_CFG_PROF n))
  !(d.drv n).busy && (others == [] ||
    (d.eff (F.BANK_CFG_POLICY b) == 1 && decide (others.length < 2) &&
      !(!w.gate && phSupply p 0 == 2 && others.any (fun m => (d.drv m).inBoost))) ||
    (d.eff (F.BANK_CFG_POLICY b) == 2 && !w.pre &&
      others.any (fun m => (d.drv m).conducts && decide ((d.drv m).occ.prio < w.occ.prio))))
def Dev.bankAdmit (d : Dev) (now b cur : Nat) : Dev :=
  match firstWait (d.bankWaits b) with
  | some (n, w) => if d.mayAdmit n w then d.resume now n w cur else d
  | none => d

/-- The starts that wait for the channel itself repeat their decision, in order of arrival, now that it is free (R242). -/
def Dev.resumeFree (d : Dev) (now n cur : Nat) : Dev :=
  ((d.drv n).waits.filter (fun w => w.why == 1)).foldl (fun d w => d.resume now n w cur) d

/-- START_TOLERANCE (R243): the tolerance of a start that found its channel busy expires: the event is late (R171). -/
def Dev.startTolerance (d : Dev) (now n : Nat) : Dev :=
  match (d.drv n).waits.find? (fun w => w.late == 0 && (match w.tol with | some t => decide (t ≤ now) | none => false)) with
  | some w =>
    let c := (d.slot w.occ.slot).c
    let pol := if d.occLive w.occ then d.latePolicy c else w.occ.policy
    let dl := if d.occLive w.occ then d.lateMark now w.occ.slot (d.waitAu n (now - w.rel)) else d
    let setLate : Nat → Dev := fun k => dl.updDrv n (fun x =>
      { x with waits := x.waits.map (fun v => if v.order = w.order then { v with late := k } else v) })
    if pol = 0 then setLate 2 else if pol = 2 then setLate 4 else (setLate 3).dropWait now n { w with late := 3 } 3
  | none => d

/-- BANK_WAIT_DROP (R246): a start of channel n still waiting at MAX_DELAY. -/
def Dev.bankWaitDrop (d : Dev) (now n : Nat) : Dev :=
  let b := bankOf n
  match (d.drv n).waits.find? (fun w => w.why == 2 && !w.pre && decide (w.since + d.eff (F.BANK_CFG_MAX_DELAY b) * 12800 ≤ now)) with
  | some w =>
    ((((d.put (F.BANK_STAT_WAIT_DROP b) true).incSat (F.BANK_CNT_A_WAIT_DROP b)).irq (P.BANK b) 1).rep (P.BANK b) 0x3A 0).dropWait
      now n w 9
  | none => d

/-- BNR_READY, BNR_WAIT_EXPIRY (R251). -/
def Dev.bnrReady (d : Dev) (now n cur : Nat) : Dev :=
  match (d.drv n).waits.find? (fun w => w.why == 3) with
  | some w => if d.flag (F.BST_STAT_READY_ST (bstOf n)) then d.resume now n w cur else d
  | none => d
def Dev.bnrExpiry (d : Dev) (now n : Nat) : Dev :=
  match (d.drv n).waits.find? (fun w => w.why == 3) with
  | some w =>
    if w.since + hdr (d.profCopy (d.eff (F.DRV_CFG_PROF n))) 0 31 16 * 12800 ≤ now then d.dropWait now n w 9 else d
  | none => d

/-! ## Regulation events -/

/-- R240: an off-interval ends the present search. -/
def Drv.searchReset (x : Drv) : Drv := { x with ys := [], gmax := 0, dip := false }

/-- A direct gate goes off (R259): with DIRECT_SUP = BAT into end decay; otherwise the channel is free at once. -/
def Dev.directDown (d : Dev) (now n : Nat) : Dev :=
  let x := d.drv n
  if x.st ≠ 6 then d
  else if x.directBat then d.endDecay now n
  else (d.updDrv n (fun y => { y.onEnd now with st := 0, isDirect := false })).drvIdle n

/-- The channel becomes INHIBITED: its gate is low, its waiting starts are dropped (R258), its RWS fields commit (R267). -/
def Dev.inhibit (d : Dev) (now n : Nat) : Dev :=
  (((d.put (F.DRV_STAT_INHIBIT n) true).directDown now n).dropWaits now n 9).commit (P.DRV n)

/-- R258: the bank becomes LATCHED; both high-sides turn off and its waiting starts are dropped. -/
def Dev.latchBank (d : Dev) (now b : Nat) : Dev :=
  let d1 := (d.put (F.BANK_STAT_LATCHED b) true).bankDrive now b
  ((List.range 4).map (4 * b + ·)).foldl (fun d n => d.dropWaits now n 9) d1

/-- R257 SHORT: phase 0 reached I_HI too soon. -/
def Dev.drvShort (d : Dev) (now n : Nat) : Dev :=
  let d1 := ((((d.drvFlag n 13).drvMark (d.drv n).occ 10).put (F.DRV_STAT_SHORT n) true).irq (P.DRV n) 5).rep (P.DRV n) 0x38 1
  (d1.endDecay now n).inhibit now n

/-- CURRENT_THRESHOLD (R232, R233, R248): the comparator of channel n switches at I_HI (`hi`) or I_LO. -/
def Dev.currentThreshold (d : Dev) (now n : Nat) (hi : Bool) : Dev :=
  let x := d.drv n
  if x.st ≠ 2 then d
  else
    let k := x.phase
    let thr := if hi then phHi x.prof k else phLo x.prof k
    let r := max (d.rsh n) 1
    -- the current that stands at the comparator's threshold, in 10 mA, rounded toward the side it has reached
    let cur := if hi then (dacCode thr r * 250 + r - 1) / r else dacCode thr r * 250 / r
    let short := hi && k == 0 && phSupply x.prof 0 != 0 && !x.endRun && decide (now < x.start + d.eff (F.DRV_DIAG_RISE_MIN n) * 1280)
    if short then d.drvShort now n
    else if d.exitHolds now n cur then Dev.settle now n cur 10 d
    else if phSupply x.prof k = 0 then d
    else if hi then
      let cut := d.otherCharges n
      (d.updDrv n (fun y => { y.searchReset with chg := false, cut := cut, offAt := now })).bankDrive now (bankOf n)
    else if phFast x.prof k then d
    else (d.updDrv n (fun y => { y with chg := true, cut := false })).bankDrive now (bankOf n)

/-- FAST_DECAY_END (R232, R248): FD_T has elapsed; with the current at `cur` × 10 mA a shared channel compares anew. -/
def Dev.fastDecayEnd (d : Dev) (now n cur : Nat) : Dev :=
  let x := d.drv n
  if x.st = 2 ∧ !x.chg ∧ x.offAt + phFdT x.prof x.phase ≤ now then
    if x.cut then
      let again := d.otherCharges n && d.atOrAbove n cur (phHi x.prof x.phase)
      let chg := phFast x.prof x.phase && !again && phSupply x.prof x.phase != 0
      (d.updDrv n (fun y => { y with cut := again, offAt := if again then now else y.offAt, chg := chg })).bankDrive now (bankOf n)
    else if phFast x.prof x.phase ∧ phSupply x.prof x.phase ≠ 0 then
      (d.updDrv n (fun y => { y with chg := true })).bankDrive now (bankOf n)
    else d
  else d

/-- PHASE_MIN_TIME (R233). -/
def Dev.phaseMin (d : Dev) (now n cur : Nat) : Dev :=
  let x := d.drv n
  if x.st = 2 ∧ d.exitHolds now n cur then Dev.settle now n cur 10 d else d

/-- DRV_PH_TO (R234, R257): the present phase reaches T_MAX with the current at `cur` × 10 mA. -/
def Dev.phaseTimeout (d : Dev) (now n cur : Nat) : Dev :=
  let x := d.drv n
  let k := x.phase
  if x.st = 2 ∧ x.phaseAt + phTmax x.prof k ≤ now then
    let d1 := ((((d.drvFlag n 8).drvMark x.occ 10).put (F.DRV_STAT_PH_TO n) true).irq (P.DRV n) 6).rep (P.DRV n) 0x32 0
    let d2 := if phExit x.prof k = 2 then d1.armMiss n else d1
    let isOpen := phExit x.prof k == 0 && phSupply x.prof k != 0 &&
      decide (cur * 100 < d2.eff (F.DRV_DIAG_OPEN_PCT n) * phHi x.prof k)
    let d3 := if isOpen then (((d2.drvFlag n 12).put (F.DRV_STAT_OPEN n) true).irq (P.DRV n) 5).rep (P.DRV n) 0x37 1 else d2
    if phAbort x.prof k then
      (if k = endPh x.prof then d3.endDecay now n else Dev.settle now n cur 10 (d3.goEnd now n cur))
    else Dev.settle now n cur 10 (d3.phaseExit now n cur)
  else d

/-- ARMATURE_DETECT (R238, R239): the converter's latest consecutive codes of channel n, the last taken now. Where they are the
2^DEC_LOG2 codes of a decimated sample y, the search takes y. y is held as their sum, so that their average is exact. -/
def Dev.armSample (d : Dev) (now n : Nat) (raws : List Nat) : Dev :=
  let x := d.drv n
  let two := d.flag (F.BANK_STAT_SHARED (bankOf n))
  let raw := if two then 1600 else 800
  let cnt := 2 ^ hdr x.prof 3 3 0
  let y := raws.foldl (· + ·) 0
  let mid := now - (cnt - 1) * raw / 2
  let tdec := cnt * raw
  let ns := hdr x.prof 3 9 4
  let d0 := (d.set (F.BANK_ADC_CH (bankOf n)) (n % 4)).set (F.BANK_ADC_CODE (bankOf n)) (raws.getLastD 0)
  let inWin := decide (x.start + hdr x.prof 2 15 0 * 1280 ≤ now) && decide (now ≤ x.start + hdr x.prof 2 31 16 * 1280)
  let pk := raws.foldl max x.peak
  let d1 := if x.st = 2 ∨ x.st = 6 then
      (d0.updDrv n (fun z => { z with peak := pk })).set (F.DRV_LAST_I_PEAK n) (d.codeToI n pk) else d0
  if x.st = 2 ∧ raws.length = cnt ∧ phArmdet x.prof x.phase ∧ x.chg ∧ inWin ∧ x.arm.isNone ∧ !x.flags.getLsbD 1 then
    let ys := y :: x.ys
    if ys.length ≤ ns then d1.updDrv n (fun z => { z with ys := ys })
    else
      let g : Int := (y : Int) - (ys.getD ns 0 : Int)
      let keep := ys.take (ns + 1)
      if !x.dip then
        let gm := max x.gmax g
        let inDip := decide ((hdr x.prof 3 31 24 : Int) * cnt ≤ gm) && decide (g * 100 < (hdr x.prof 3 16 10 : Int) * gm)
        let z0 : Drv := { d1.drv n with ys := keep, gmax := gm, dip := inDip }
        d1.setDrv n (if inDip then { z0 with gdip := g, tdip := mid, idip := keep.getD (ns / 2) 0 } else z0)
      else
        let lower := decide (g < x.gdip)
        let tdip := if lower then mid else x.tdip
        let idip := if lower then keep.getD (ns / 2) 0 else x.idip
        let d2 := d1.updDrv n (fun z => { z with ys := keep, gdip := if lower then g else z.gdip, tdip := tdip, idip := idip })
        if (hdr x.prof 3 23 17 : Int) * x.gmax ≤ g * 100 then
          let ta := tdip - ns * tdec / 2
          let armI := d.meanToI n idip cnt
          let d3 := ((d2.updDrv n (fun z => { z with arm := some ta, armI := armI, flags := setFlag z.flags 0 })).irq (P.DRV n) 2)
          let d4 := (d3.setReg (R.DRV_LAST_ARM n) (w32 ((ta - x.start) / 16))).set (F.DRV_LAST_I_I_ARM n) armI
          d4.phaseMin now n (d.meanToI n y cnt)
        else d2
  else d1

/-- DRV_ARM_MISS (R241): AW_END has passed. -/
def Dev.armWindowEnd (d : Dev) (now n : Nat) : Dev :=
  let x := d.drv n
  if x.st = 2 ∧ hasArmdet x.prof (List.range (nph x.prof)) ∧ x.start + hdr x.prof 2 31 16 * 1280 ≤ now then d.armMiss n else d

/-- END_DECAY_END (R236, R237, R262): profile end; `peak` is the highest converter code of the run. -/
def Dev.profileEnd (d : Dev) (now n peak : Nat) : Dev :=
  let x := d.drv n
  if x.st = 3 ∧ x.decayEnd ≤ now then
    let pk := d.codeToI n (max x.peak peak)
    let arm := match x.arm with
      | some t => (t - x.start) / 16
      | none => 0xFFFFFFFF
    let flagged := x.flags &&& 0xFF46#16 != 0
    let d1 := d.drvRecord now n (x.recAs.getD (d.drvRing n)) x.occ x.flags x.profNo x.phase x.start arm x.armI pk (x.onTime / 16)
      ((x.start - x.rel) / 16)
    let d2 := (d1.set (F.DRV_LAST_I_PEAK n) pk).updDrv n (fun y =>
      { y with st := 4, recAs := none, offEnd := now + d.eff (F.DRV_TIM_OFF_MIN n) * 12800, trips := if y.tripped then y.trips else 0 })
    let d3 := (d2.irq (P.DRV n) 1).bankDrive now (bankOf n)
    let d4 := if flagged then d3.drvMark x.occ 10 else d3
    let d5 := if d4.occLive x.occ && (d4.slot x.occ.slot).outcome == 10 then d4.incSat (F.DRV_CNT_B_FLAG n) else d4
    d5.drvRunDone now x.occ
  else d

/-- OFF_MIN_END (R236, R243, R267): the channel enters IDLE and the starts that wait for it go on. -/
def Dev.offMinEnd (d : Dev) (now n cur : Nat) : Dev :=
  let x := d.drv n
  if x.st = 4 ∧ x.offEnd ≤ now then
    ((d.updDrv n (fun y => { y with st := 0 })).commit (P.DRV n)).resumeFree now n cur
  else d

/-! ## Protections and diagnostics (R254 to R258) -/

/-- A running profile or direct gate is sent to end decay with record flag i. -/
def Dev.protEnd (d : Dev) (now n i : Nat) : Dev := ((d.drvFlag n i).drvMark (d.drv n).occ 10).endDecay now n

def Drv.active (x : Drv) : Bool := x.st == 2 || x.st == 6

/-- DRV_ONMAX (R254). -/
def Dev.onMax (d : Dev) (now n : Nat) : Dev :=
  let x := d.drv n
  match x.onAt with
  | some t =>
    if x.active && decide (t + d.eff (F.DRV_TIM_ON_MAX n) * 128000 ≤ now) then
      (((d.protEnd now n 9).put (F.DRV_STAT_ONMAX n) true).irq (P.DRV n) 6).rep (P.DRV n) 0x34 1
    else d
  | none => d

/-- One bucket boundary. -/
def Drv.roll (x : Drv) (len : Nat) : Drv :=
  let t := x.bktAt + len
  let on := x.bktOn + (match x.bktFrom with | some f => t - f | none => 0)
  { x with bktAt := t, bktOn := 0, bktFrom := x.bktFrom.map (fun f => max f t), bkts := (on :: x.bkts).take 15 }
def Drv.rolls (len : Nat) : Nat → Drv → Drv
  | 0, x => x
  | k + 1, x => Drv.rolls len k (x.roll len)

/-- DUTY_BUCKET (R255): the sum is formed; the limit is entered whenever the sum reaches it and left at a bucket boundary. Boundaries
that lie more than a window back leave nothing behind. -/
def Dev.dutyBucket (d : Dev) (now n : Nat) : Dev :=
  let len := max 1 (d.dutyWin n / 16)
  let x := d.drv n
  let k := (now - x.bktAt) / len
  let skip := (k - 17) * len
  let y := Drv.rolls len (min k 17) { x with bktAt := x.bktAt + skip, bkts := if 17 < k then [] else x.bkts,
                                             bktOn := if 17 < k then 0 else x.bktOn,
                                             bktFrom := x.bktFrom.map (fun f => max f (x.bktAt + skip)) }
  let d1 := d.setDrv n y
  let reached := decide (d.eff (F.DRV_DUTY_DUTY_MAX n) * d.dutyWin n ≤ 100 * y.dutySum now)
  if reached && !y.duty then
    let d2 := ((d1.updDrv n (fun z => { z with duty := true })).put (F.DRV_STAT_DUTY n) true).irq (P.DRV n) 6
    let d3 := d2.rep (P.DRV n) 0x35 1
    if y.active then d3.protEnd now n 10 else d3
  else if !reached && y.duty && decide (0 < k) then d1.updDrv n (fun z => { z with duty := false })
  else d1

/-- DRV_OC (R256): the over-current comparator switches while the low-side conducts. -/
def Dev.overCurrent (d : Dev) (now n : Nat) : Dev :=
  let x := d.drv n
  if x.gateOn then
    let d1 := (d.updDrv n (fun y => { y with tripped := true, trips := y.trips + 1 })).protEnd now n 11
    let d2 := (((d1.put (F.DRV_STAT_OC n) true).incSat (F.DRV_CNT_A_OC n)).irq (P.DRV n) 4).rep (P.DRV n) 0x36 1
    let d3 := d2
    if d3.eff (F.DRV_DIAG_OC_TRIPS n) ≤ (d3.drv n).trips then d3.inhibit now n else d3
  else d

def Dev.highSideOn (d : Dev) (b : Nat) : Bool := d.flag (F.BANK_STAT_HV b) || d.flag (F.BANK_STAT_HB b)
def Dev.hsAge (d : Dev) (now b : Nat) : Nat := now - (vGet d.banks b).hsAt

/-- DRV_LS_SHORT (R257): the scanned converter code of a channel that does not conduct. -/
def Dev.lsShort (d : Dev) (now n code : Nat) : Dev :=
  let b := bankOf n
  let d0 := (d.set (F.BANK_ADC_CH b) (n % 4)).set (F.BANK_ADC_CODE b) code
  let above := decide (d.eff (F.DRV_DIAG2_OFF_I n) * d.rsh n * 2 < code * 125)
  if !(d.drv n).conducts && d.highSideOn b && decide (64000 ≤ d.hsAge now b) && above then
    let d1 := ((d0.put (F.DRV_STAT_LS_SHORT n) true).irq (P.DRV n) 5).rep (P.DRV n) 0x39 1
    (d1.inhibit now n).latchBank now b
  else d0

/-- BANK_HS_SHORT (R257): BKbSW measured at `vsw` × 25 mV. -/
def Dev.hsShort (d : Dev) (now b vsw : Nat) : Dev :=
  let d0 := d.set (F.BANK_STAT_VSW b) vsw
  if !d.highSideOn b && decide (128000 ≤ d.hsAge now b) && decide (d.eff (F.BANK_DIAG_SW_HI b) < vsw) then
    (((d0.put (F.BANK_STAT_HS_SHORT b) true).irq (P.BANK b) 3).rep (P.BANK b) 0x3B 1).latchBank now b
  else d0

/-- BANK_GND_SHORT (R257). -/
def Dev.gndShort (d : Dev) (now b vsw : Nat) : Dev :=
  let d0 := d.set (F.BANK_STAT_VSW b) vsw
  if d.highSideOn b && decide (25600 ≤ d.hsAge now b) && decide (vsw < d.eff (F.BANK_DIAG_SW_LO b)) then
    let d1 := ((d0.put (F.BANK_STAT_GND_SHORT b) true).irq (P.BANK b) 4).rep (P.BANK b) 0x3C 1
    (((List.range 4).map (4 * b + ·)).foldl (fun d n => if (d.drv n).conducts then d.endDecay now n else d) d1).latchBank now b
  else d0

/-! ## Direct gate actions (R259) -/

/-- A gate-off; a channel that is free at once lets the starts that wait for it go on (R242). -/
def Dev.directOff (d : Dev) (now n cur : Nat) : Dev :=
  let d1 := d.directDown now n
  if (d.drv n).st = 6 ∧ (d1.drv n).st = 0 then d1.resumeFree now n cur else d1

/-- A released start edge of SET, CLEAR, PULSE or TOGGLE, or an edge-locked action; a gate-on while the direct gate is on changes
nothing. -/
def Dev.directAct (d : Dev) (now n act : Nat) (w : DrvWait) (cur : Nat) : Dev :=
  let on := (d.drv n).st == 6
  match act with
  | 1 => (d.directOff now n cur).drvRunDone now w.occ
  | 3 => if on then (d.directOff now n cur).drvRunDone now w.occ else d.drvStart now n { w with gate := true } cur
  | _ => if on then d.drvRunDone now w.occ else d.drvStart now n { w with gate := true } cur

/-- The end edge of an occurrence (R235, R244, R259): it ends the command of its running profile, is a gate-off where it is a PULSE's
(`pulse`), or drops its waiting start, which under FIRE goes on with its command ended. -/
def Dev.drvEndEdge (d : Dev) (now n : Nat) (o : DrvOcc) (pulse : Bool) (cur : Nat) : Dev :=
  match (d.drv n).waits.find? (fun w => w.occ.has && w.occ.slot == o.slot && w.occ.gen == o.gen) with
  | some w =>
    if w.late = 2 then d.updDrv n (fun x => { x with waits := x.waits.map (fun v => if v.order = w.order then { v with ended := true } else v) })
    else d.dropWait now n w (if w.late = 4 then 4 else 9)
  | none =>
    let x := d.drv n
    if pulse then d.directOff now n cur
    else if x.occ.has && x.occ.slot == o.slot && x.occ.gen == o.gen && x.st == 2 then d.commandEnd now n cur
    else d

/-! ## Safe ends, restarts, registers (R258, R260, R261, R268 to R270) -/

/-- R260: the safe end of channel n. -/
def Dev.drvSafe (d : Dev) (now n : Nat) : Dev :=
  let d1 := d.dropWaits now n 8
  let x := d1.drv n
  if x.active then (d1.drvMark x.occ 8).endDecay now n else d1

/-- BSTkG low at once (R252, R261). -/
def Dev.bst (d : Dev) (k : Nat) : Bst := vGet d.bsts k
def Dev.setBst (d : Dev) (k : Nat) (x : Bst) : Dev := { d with bsts := vSet d.bsts k x }
def Dev.bstStop (d : Dev) (k : Nat) : Dev :=
  ((d.setBst k { d.bst k with gate := false, stop := false, notReady := none }).put (F.BST_STAT_SWITCHING k) false).commit (P.BST k)

/-- R467, R474: converters switch while outputs are inhibited, not in SAFE. -/
def Dev.bstOff (d : Dev) (k : Nat) : Bool :=
  d.mode == 11 || d.supply.forcedOff || !d.running (P.BST k)

/-- R253: since when READY has been 0 while switching. -/
def Dev.bstTimer (d : Dev) (now k : Nat) : Dev :=
  let x := d.bst k
  if d.flag (F.BST_STAT_SWITCHING k) && !d.flag (F.BST_STAT_READY_ST k) then
    (if x.notReady.isSome then d else d.setBst k { x with notReady := some now, toDone := false })
  else d.setBst k { x with notReady := none, toDone := false }

/-- BOOST_MEASURE (R252, R253): VHV and VB in units of 25 mV. -/
def Dev.boostMeasure (d : Dev) (now k vhv vb : Nat) : Dev :=
  if !d.running (P.BST k) then d
  else
    let d0 := (d.set (F.BST_STAT_VHV k) vhv).set (F.BST_VB_VB k) vb
    let rdy := decide (d.eff (F.BST_CFG_READY k) * 40 ≤ vhv)
    let was := d.flag (F.BST_STAT_READY_ST k)
    let d1 := if rdy != was then (d0.put (F.BST_STAT_READY_ST k) rdy).irq (P.BST k) (if rdy then 0 else 1) else d0
    let tgt := d.eff (F.BST_CFG_TARGET k) * 40
    let x := d1.bst k
    let ov := decide (d.eff (F.BST_LIM_OV k) * 40 < vhv)
    let d2 :=
      if ov && !x.ovStop then
        let e := (d1.setBst k { x with ovStop := true }).bstStop k
        (((e.put (F.BST_STAT_OV k) true).incSat (F.BST_CNT_A_OV k)).irq (P.BST k) 2).rep (P.BST k) 0x3E 1
      else if x.ovStop && decide (vhv ≤ tgt) then d1.setBst k { x with ovStop := false }
      else d1
    let y := d2.bst k
    let d3 :=
      if decide (vhv + d.eff (F.BST_LIM_HYST k) * 4 ≤ tgt) && !y.ovStop && !d2.flag (F.BST_STAT_SWITCHING k) && !d2.bstOff k then
        (d2.setBst k { y with gate := true, cycAt := now, stop := false }).put (F.BST_STAT_SWITCHING k) true
      else if decide (vhv + d.eff (F.BST_LIM_HYST k) * 4 ≤ tgt) && d2.flag (F.BST_STAT_SWITCHING k) then
        d2.setBst k { y with stop := false }
      else if decide (tgt ≤ vhv) && d2.flag (F.BST_STAT_SWITCHING k) then d2.setBst k { y with stop := true }
      else d2
    (d3.bstTimer now k).probe now 0x09 k vhv

/-- READY falls when the converter is disabled: it has no reading then (R252, R253, R261). -/
def Dev.bstNotReady (d : Dev) (k : Nat) : Dev :=
  if d.flag (F.BST_STAT_READY_ST k) then (d.put (F.BST_STAT_READY_ST k) false).irq (P.BST k) 1 else d

/-- BST_TON_END (R252). -/
def Dev.bstTonEnd (d : Dev) (now k : Nat) : Dev :=
  let x := d.bst k
  if d.flag (F.BST_STAT_SWITCHING k) && x.gate && decide (x.cycAt + d.eff (F.BST_SW_TON k) * 128 ≤ now) then
    d.setBst k { x with gate := false } else d

/-- BOOST_CYCLE_END (R252, R267). -/
def Dev.bstCycleEnd (d : Dev) (now k : Nat) : Dev :=
  let x := d.bst k
  if d.flag (F.BST_STAT_SWITCHING k) && decide (x.cycAt + (d.eff (F.BST_SW_TON k) + d.eff (F.BST_SW_TOFF k)) * 128 ≤ now) then
    if x.stop then (d.bstStop k).bstTimer now k
    else (d.setBst k { x with gate := true, cycAt := now }).commit (P.BST k)
  else d

/-- BST_TIMEOUT (R253). -/
def Dev.bstTimeout (d : Dev) (now k : Nat) : Dev :=
  let x := d.bst k
  match x.notReady with
  | some t =>
    if !x.toDone && decide (t + d.eff (F.BST_LIM_CHG_TO k) * 12800000 ≤ now) then
      ((((d.setBst k { x with toDone := true }).put (F.BST_STAT_TIMEOUT k) true).incSat (F.BST_CNT_A_TIMEOUT k)).irq (P.BST k) 3).rep
        (P.BST k) 0x3F 1
    else d
  | none => d

def Dev.drvAbort (d : Dev) (now n cur : Nat) : Dev := d.commandEnd now n cur
def Dev.drvUninh (d : Dev) (n : Nat) : Dev := d.put (F.DRV_STAT_INHIBIT n) false
def Dev.drvClr (d : Dev) (n : Nat) : Dev := ((d.setReg (R.DRV_CNT_A n) 0).setReg (R.DRV_CNT_B n) 0).setReg (R.DRV_CNT_C n) 0
def Dev.drvLatch (d : Dev) (who : Initiator) (n : Nat) : Dev :=
  d.setLatches who [(R.DRV_LAST_HI n, d.reg (R.DRV_LAST_HI n)), (R.DRV_LAST_ARM n, d.reg (R.DRV_LAST_ARM n)),
    (R.DRV_LAST_I n, d.reg (R.DRV_LAST_I n))]
def Dev.unlatch (d : Dev) (now b : Nat) : Dev := (d.put (F.BANK_STAT_LATCHED b) false).bankDrive now b
def Dev.bankClr (d : Dev) (b : Nat) : Dev := (d.setReg (R.BANK_CNT_A b) 0).setReg (R.BANK_CNT_B b) 0
def Dev.bstClr (d : Dev) (k : Nat) : Dev := ((d.setReg (R.BST_CNT_A k) 0).setReg (R.BST_CNT_B k) 0).setReg (R.BST_CNT_C k) 0

/-- The live part of DRV_STAT (R268). -/
def Dev.drvStat (d : Dev) (n : Nat) : Word :=
  let x := d.drv n
  let st := if x.st ≠ 0 then x.st else if d.flag (F.DRV_STAT_INHIBIT n) then 5 else if x.waits ≠ [] then 1 else 0
  let cmd := decide (x.st = 2) && !x.cmdEnded
  (d.reg (R.DRV_STAT n) &&& 0xFFFF0000#32) |||
    w32 (cmd.toNat * 512 + x.gateOn.toNat * 256 + (if x.st = 2 then x.phase % 8 else 0) * 16 + st)

/-- A block restart keeps what the record of the run it ends needs while the current decays (R261). -/
def Dev.drvKeepRec (d : Dev) (n : Nat) : Dev := if (d.drv n).st = 3 then d.updDrv n (fun x => { x with recAs := some (d.drvRing n) }) else d

/-- PROF restart (R261): every profile becomes invalid. -/
def Dev.profRestart (d : Dev) : Dev := { d with prof := { d.prof with load := none } }

end Sys2Proof.Machine
end

