-- ==== Sys2Proof/Machine/Smpl.lean ====
section
/-!
DEFINITION. Machine/Smpl.lean: sample runs (R279 to R285, R299) and knock windows (R289 to R295, R300).
-/

namespace Sys2Proof.Machine

/-! ## Runs -/

/-- R280: the first failing condition of a descriptor, 0 when it passes. -/
def Dev.runCheck (d : Dev) (k r : Nat) : Nat :=
  let L := d.cycleLen k
  let cyl := d.runCyl k r
  if d.runW k r 0 31 30 ≠ 0 ∨ d.runW k r 1 31 23 ≠ 0 ∨ d.runW k r 2 31 27 ≠ 0 ∨ d.runW k r 3 31 0 ≠ 0 then 1
  else if L ≤ d.runStart k r then 2
  else if d.runStep k r < 52429 ∨ 6291456 < d.runStep k r then 3
  else if L < (d.runCnt k r + 1) * d.runStep k r then 4
  else if 24 ≤ cyl ∧ cyl ≤ 30 then 5
  else 0

def Dev.setAct (d : Dev) (k r : Nat) (b : Bool) : Dev :=
  let a := d.get (F.SMPL_DOM_RUN_ACT k)
  d.set (F.SMPL_DOM_RUN_ACT k) (if b then a ||| 2 ^ r else a &&& (0xFFFF - 2 ^ r))
def Dev.runAct (d : Dev) (k r : Nat) : Bool := (d.get (F.SMPL_DOM_RUN_ACT k)).testBit r

/-- The first position of an angle strictly ahead of θnow (R281). -/
def Dev.posAhead (d : Dev) (now k a : Nat) : Int :=
  let th := d.theta k now
  let L : Int := d.cycleLen k
  let f := ((a : Int) - th) % L
  d.posOf k th + (if f = 0 then L else f)

/-- R281: an enabled run takes its start point when its domain commits. -/
def Dev.runPlace (d : Dev) (now k r : Nat) : Dev :=
  let x := d.run k r
  if d.runEn k r && d.committing k && d.enabled P.SMPL && x.pos0.isNone then
    d.setRun k r { x with pos0 := some (d.posAhead now k (d.runStart k r)), next := 0 }
  else d

/-- R285: the present occurrence ends as an abort: the open packet is written, samples in a queue are converted but no longer passed on. An
occurrence whose last aperture has opened is complete, and its last samples are passed on. -/
def Dev.runAbort (d : Dev) (now k r : Nat) : Dev :=
  let x := d.run k r
  if x.pos0.isNone then d
  else
    if d.runAct k r || decide (x.next ≠ 0) then
      let d1 := ((d.pktWrite now k r).incSat F.SMPL_CNT_B_ABORT).irq P.SMPL 2
      let y := d1.run k r
      let base := y.base + d1.runCnt k r + 1
      ((d1.setRun k r { y with pos0 := none, next := 0, base := base, emit := base, got := [] }).setAct k r false).cmbAbort now k r
    else d.setRun k r { x with pos0 := none }

/-- RUN_ENABLE_WRITE (R280, R285), one bit. -/
def Dev.runSet (d : Dev) (now k r : Nat) (on : Bool) : Dev :=
  if on && !d.runEn k r then
    let code := d.runCheck k r
    if code = 0 then
      (d.setReg (R.SMPL_DOM_RUN k) (d.reg (R.SMPL_DOM_RUN k) ||| (1#32 <<< r))).runPlace now k r
    else ((d.setReg (R.SMPL_DOM_ERR k) (w32 (code * 65536 + r))).irq P.SMPL 3).rep P.SMPL 0x41 0
  else if !on && d.runEn k r then
    (d.runAbort now k r).setReg (R.SMPL_DOM_RUN k) (d.reg (R.SMPL_DOM_RUN k) &&& ~~~(1#32 <<< r) &&& ~~~(1#32 <<< (16 + r)))
  else d
def Dev.runWrite (d : Dev) (now k : Nat) (w : Word) : Dev :=
  (List.range 16).foldl (fun d r => d.runSet now k r (w.getLsbD r)) d

/-- The position of a run's next sample. -/
def Dev.samplePos (d : Dev) (k r : Nat) (p : Int) : Int := p + ((d.run k r).next * d.runStep k r : Nat)

/-- The next sample of a run is committed with target `t` (R282, R283). -/
def Dev.sampleGo (d : Dev) (now k r t : Nat) (exc : Bool) : Dev :=
  let x := d.run k r
  let n := d.runCnt k r + 1
  let g := x.base + x.next
  let last := decide (x.next + 1 = n)
  let y : Run := if last then { x with base := x.base + n, next := 0, pos0 := x.pos0.map (· + (d.cycleLen k : Int)) }
    else { x with next := x.next + 1 }
  let d1 := if x.next = 0 then (d.setRun k r y).setAct k r true else d.setRun k r y
  d1.adcEnter now (d.runW k r 2 19 17) { cls := 0, inp := d.runW k r 2 16 12, target := t, src := runIx k r, idx := g, exc := exc }

/-- The next sample of a run is missed under R283. -/
def Dev.sampleSkip (d : Dev) (now k r : Nat) : Dev :=
  let x := d.run k r
  let n := d.runCnt k r + 1
  let g := x.base + x.next
  let last := decide (x.next + 1 = n)
  let y : Run := if last then { x with base := x.base + n, next := 0, pos0 := x.pos0.map (· + (d.cycleLen k : Int)) }
    else { x with next := x.next + 1 }
  (if last then (d.setRun k r y).setAct k r false else d.setRun k r y).sampleMissed now k r g

/-- R282: project the next sample and commit it when it enters the window LEAD. -/
def Dev.sampleCheck (d : Dev) (now k r : Nat) : Dev :=
  let x := d.run k r
  match x.pos0 with
  | some p =>
    if d.committing k && d.runEn k r && d.running P.SMPL then
      match d.projectPos k (d.samplePos k r p) with
      | some (t, false) => if (t : Int) - now - 512 ≤ (d.eff (F.SMPL_DOM_CFG_LEAD k) * 16 : Nat) then d.sampleGo now k r t false else d
      | _ => d
    else d
  | none => d

/-- R283: uncommitted samples that the angle has passed, `here` being the travel position: under TAKE the last of them is taken late. -/
def Dev.passedLoop (now k r : Nat) (here : Int) : Nat → Dev → Dev
  | 0, d => d
  | f + 1, d =>
    match (d.run k r).pos0 with
    | some p =>
      if d.samplePos k r p ≤ here then
        let step : Int := d.runStep k r
        let after := if (d.run k r).next = d.runCnt k r then p + (d.cycleLen k : Int) else d.samplePos k r p + step
        let lastPassed := decide (here < after)
        let take := d.runW k r 2 25 25 != 0 && lastPassed
        Dev.passedLoop now k r here f
          (if take then (d.sampleGo now k r now true).incSat F.SMPL_CNT_A_TAKE_LATE else d.sampleSkip now k r)
      else d
    | none => d

/-- SMPL at a source tooth of domain k: passed samples, the re-projection of every run, and the page's commit point (R282, R283, R297). -/
def Dev.smplTooth (d : Dev) (now k : Nat) : Dev :=
  if d.committing k && d.running P.SMPL then
    let here := d.posOf k (d.theta k now)
    let d1 := (List.range 16).foldl (fun d r =>
      if d.runEn k r then (Dev.passedLoop now k r here 4200 d).sampleCheck now k r else d) d
    d1.commitSel P.SMPL (fun a => a == R.SMPL_DOM_CFG k)
  else d

def Dev.smplClr (d : Dev) : Dev := ((d.setReg R.SMPL_CNT_TAKEN 0).setReg R.SMPL_CNT_A 0).setReg R.SMPL_CNT_B 0

/-! ## Knock windows -/

def Dev.winPos (d : Dev) (w : Nat) : Option Int := vGet d.knk.pos w
/-- A new next opening, none of whose times is committed. -/
def Dev.setWinPos (d : Dev) (w : Nat) (p : Option Int) : Dev :=
  { d with knk := { d.knk with pos := vSet d.knk.pos w p, openAt := vSet d.knk.openAt w none } }

/-- R295: the record of a closing window. -/
def Dev.knkRecord (d : Dev) (now c w dom cyl : Nat) (abort late close : Bool) : Dev :=
  let x := d.knkCh c
  let own := x.win == some w
  let acc := fun f => if own && x.set.fen.testBit f then (vGet x.f f).acc / 2 ^ x.set.shift else 0
  let sat := (List.range 4).any (fun f => decide (0xFFFFFFFF < acc f))
  let d1 := if sat then (d.irq P.KNK 3).rep P.KNK 0x44 0 else d
  if d1.flag F.KNK_CFG_REC_EN then
    let int := fun f => w32 (min (acc f) 0xFFFFFFFF)
    let lost := own && x.lostSmp
    let w0 := 0x22000000 + dom * 0x800000 + c * 0x100000 + cyl * 0x8000 + w * 0x400 + abort.toNat * 512 + late.toNat * 256
      + close.toNat * 128 + sat.toNat * 64 + lost.toNat * 32
    let n := if own then min x.nsmp 65535 * 65536 + min x.nint 65535 else 0
    let tO := if own then x.tO else now
    match d1.ringPush now (8 + d1.get F.KNK_CFG_REC_RES)
        [w32 w0, w32 n, lo32 tO, hi32 tO, int 0, int 1, int 2, int 3] with
    | some d2 => d2.irq P.KNK 0
    | none => (d1.incSat F.KNK_CNT_B_REC_LOST).irq P.KNK 4
  else d1

def Dev.knkAnyOpen (d : Dev) : Bool := (List.range 8).any (fun c => (d.knkCh c).win.isSome)

/-- The grid requests of channel c leave the converter's queue. -/
def Dev.knkFlush (d : Dev) (c : Nat) : Dev := let a := d.adc c; d.setAdc c { a with q := a.q.filter (fun q => q.cls != 2) }

/-- The window of channel c is shut, its record written; with none open the page commits (R297). -/
def Dev.knkShut (d : Dev) (c : Nat) : Dev :=
  let d1 := (d.knkFlush c).setKnkCh c {}
  let d2 := d1.setReg R.KNK_STAT (d1.reg R.KNK_STAT &&& ~~~(1#32 <<< c))
  if d2.knkAnyOpen then d2 else d2.knkCommit

/-- R294: the open window of channel c closes at once, as an abort. -/
def Dev.knkAbort (d : Dev) (now c : Nat) : Dev :=
  match (d.knkCh c).win with
  | some w =>
    let x := d.knkCh c
    (((d.incSat F.KNK_CNT_B_ABORT).irq P.KNK 2).knkRecord now c w x.dom x.cyl true x.lateOpen false).knkShut c
  | none => d
/-- The open windows whose channel meets a test end so. -/
def Dev.knkAborts (d : Dev) (now : Nat) (p : KnkChan → Bool) : Dev :=
  (List.range 8).foldl (fun d c => if p (d.knkCh c) then d.knkAbort now c else d) d

/-- R290, in the manner of R281: an enabled window has its next opening ahead while its domain commits. -/
def Dev.winPlace (d : Dev) (now w : Nat) : Dev :=
  let k := d.get (F.KNK_WIN_A_DOM w)
  if d.flag (F.KNK_WIN_A_EN w) && d.committing k && d.enabled P.KNK && (d.winPos w).isNone then
    d.setWinPos w (some (d.posAhead now k (d.get (F.KNK_WIN_A_OPEN w))))
  else d
/-- The next opening of window w is sought again: its EN, DOM or OPEN has changed, or its channel now takes part. -/
def Dev.winAgain (d : Dev) (now w : Nat) : Dev := (d.setWinPos w none).winPlace now w

/-- A write of `KNK_WINw_A` by `go` (R290, R294): EN 0 aborts the window while it is open; a new OPEN or DOM counts from its next opening. -/
def Dev.winAWrite (d : Dev) (now w : Nat) (go : Dev → Dev) : Dev :=
  let old := d.reg (R.KNK_WIN_A w)
  let d1 := go d
  let d2 := if d1.flag (F.KNK_WIN_A_EN w) then d1 else d1.knkAborts now (fun x => x.win == some w)
  if d2.reg (R.KNK_WIN_A w) = old then d2 else d2.winAgain now w
/-- A write of `KNK_CHEN` by `go`: a channel that begins to take part has its windows' next openings ahead (R289). -/
def Dev.chenWrite (d : Dev) (now : Nat) (go : Dev → Dev) : Dev :=
  let old := d.reg R.KNK_CHEN
  let d1 := go d
  let up := d1.reg R.KNK_CHEN &&& ~~~old
  (List.range 32).foldl (fun d w => if up.getLsbD (d.get (F.KNK_WIN_B_CH w)) then d.winAgain now w else d) d1

/-- R281, R290: the runs of SMPL, the windows of KNK take their start points (a domain begins to commit, or the page is enabled). -/
def Dev.runsPlace (d : Dev) (now : Nat) : Dev := (List.range 32).foldl (fun d i => d.runPlace now (i / 16) (i % 16)) d
def Dev.winsPlace (d : Dev) (now : Nat) : Dev := (List.range 32).foldl (fun d w => d.winPlace now w) d
def Dev.smplEnter (d : Dev) (now : Nat) : Dev := (d.runsPlace now).winsPlace now

/-- R285, R294: the domain stops committing: every occurrence and every open window aborts, the rest takes a new start point when it commits
again, and what waits for a tooth takes effect (R297). -/
def Dev.smplLeave (d : Dev) (now k : Nat) : Dev :=
  let d1 := (List.range 16).foldl (fun d r => d.runAbort now k r) d
  let d2 := d1.knkAborts now (fun x => x.win.isSome && x.dom == k)
  let d3 := (List.range 32).foldl (fun (d : Dev) w => if d.get (F.KNK_WIN_A_DOM w) = k then d.setWinPos w none else d) d2
  d3.commitSel P.SMPL (fun a => a == R.SMPL_DOM_CFG k)

/-- SMPL ENABLE written to 0 (R285, R297), and its block restart, which writes no packets. -/
def Dev.smplDisable (d : Dev) (now : Nat) : Dev :=
  ((List.range 32).foldl (fun d i => d.runAbort now (i / 16) (i % 16)) d).commit P.SMPL
def Dev.smplRestart (d : Dev) (now : Nat) : Dev :=
  let d1 := (List.range 32).foldl (fun (d : Dev) i =>
    if d.runAct (i / 16) (i % 16) || decide ((d.run (i / 16) (i % 16)).next ≠ 0) then d.cmbAbort now (i / 16) (i % 16) else d) d
  { d1 with runs := d1.runs.map (fun x => { base := x.base + 4096, emit := x.base + 4096 }) }

/-- R290: at time `now`, before the model of domain k is replaced: an opening or closing angle that a reference edge has found inside LEAD is
committed at its projected time. -/
def Dev.leadTime (d : Dev) (now k : Nat) (p : Int) : Option Nat :=
  match d.projectPos k p with
  | some (t, false) =>
    let e := d.edgeCount (d.edgeNo (now + 1) - 1)
    if (t : Int) - e - 512 ≤ (d.eff (F.SMPL_DOM_CFG_LEAD k) * 16 : Nat) then some t else none
  | _ => none
def Dev.knkFix (d : Dev) (now k : Nat) : Dev :=
  if d.committing k && d.running P.KNK then
    let at' := fun (t : Option Nat) (p : Option Int) => t.orElse (fun _ => p.bind (d.leadTime now k))
    let openAt := (Vector.range 32).map (fun w =>
      if d.get (F.KNK_WIN_A_DOM w) = k ∧ d.flag (F.KNK_WIN_A_EN w) ∧ (d.reg R.KNK_CHEN).getLsbD (d.get (F.KNK_WIN_B_CH w)) then
        at' (vGet d.knk.openAt w) (d.winPos w)
      else vGet d.knk.openAt w)
    let ch := d.knk.ch.map (fun x => if x.win.isSome ∧ x.dom = k then { x with closeAt := at' x.closeAt (some x.closePos) } else x)
    { d with knk := { d.knk with openAt := openAt, ch := ch } }
  else d

/-- KNOCK_WINDOW_OPEN (R289, R290, R294): window w opens at its committed time, or at once when its opening angle was passed. -/
def Dev.knkOpen (d : Dev) (now w : Nat) : Dev :=
  let k := d.get (F.KNK_WIN_A_DOM w)
  let c := d.get (F.KNK_WIN_B_CH w)
  let len : Int := (d.get (F.KNK_WIN_B_LEN w) * 65536 : Nat)
  match d.winPos w with
  | some p =>
    if d.flag (F.KNK_WIN_A_EN w) && d.committing k && d.running P.KNK && (d.reg R.KNK_CHEN).getLsbD c then
      let behind := fun (q : Int) => decide (q < d.posOf k (d.pred k).thk)
      let next := d.setWinPos w (some (p + (d.cycleLen k : Int)))
      let opened := fun (late : Bool) (t : Nat) =>
        let d1 := next.knkCommit
        let d2 := d1.setKnkCh c { win := some w, dom := k, cyl := d.get (F.KNK_WIN_B_CYL w), set := d1.knkSet, tO := t, closePos := p + len,
                                  lateOpen := late }
        (d2.setReg R.KNK_STAT (d2.reg R.KNK_STAT ||| (1#32 <<< c))).knkFeed now c
      let start := fun (late : Bool) (t : Nat) =>
        if (d.knkCh c).win.isSome then ((next.incSat F.KNK_CNT_A_OVERLAP).irq P.KNK 1).rep P.KNK 0x43 0 else opened late t
      match vGet d.knk.openAt w with
      | some t => if t ≤ now then start false t else d
      | none =>
      if behind p then
        if behind (p + len) then next.knkRecord now c w k (d.get (F.KNK_WIN_B_CYL w)) false true true
        else
          let d1 := d.tickFree
          let t := d.afterSetup now
          if (d.knkCh c).win.isSome then start true t else { opened true t with freeCtr := d1.freeCtr }
      else match d.projectPos k p with
        | some (t, false) => if t ≤ now then start false t else d
        | _ => d
    else d
  | none => d

/-- KNOCK_WINDOW_CLOSE (R290, R294, R295): the open window of channel c closes at its committed time, or on passing its closing angle. Grid
samples that were due and found no place are lost first. -/
def Dev.knkClose (d0 : Dev) (now c : Nat) : Dev :=
  let d := d0.knkFeed now c
  let x := d.knkCh c
  match x.win with
  | some w =>
    let shut := fun (late : Bool) => (d.knkRecord now c w x.dom x.cyl false x.lateOpen late).knkShut c
    if !d.running P.KNK then d0
    else match x.closeAt with
      | some t => if t ≤ now then shut false else d0
      | none =>
        if x.closePos < d.posOf x.dom (d.pred x.dom).thk then shut true
        else match d.projectPos x.dom x.closePos with
          | some (t, false) => if t ≤ now then shut false else d0
          | _ => d0
  | none => d0

def Dev.knkClr (d : Dev) : Dev := (d.setReg R.KNK_CNT_A 0).setReg R.KNK_CNT_B 0

/-- KNK ENABLE written to 0 (R294, R297). -/
def Dev.knkAbortAll (d : Dev) (now : Nat) : Dev :=
  let d1 := d.knkAborts now (fun _ => true)
  ((List.range 32).foldl (fun d w => d.setWinPos w none) d1).knkCommit
/-- Block restart of KNK (R294): open windows close without records. -/
def Dev.knkRestart (d : Dev) : Dev :=
  let d1 := (List.range 8).foldl (fun (d : Dev) c => d.knkFlush c) d
  { d1 with knk := {} }

end Sys2Proof.Machine
end

