-- ==== Sys2Proof/Machine/Release.lean ====
section
/-!
DEFINITION. Machine/Release.lean: the release of an edge (R32, R33, R199, R201), edge-locked actions (R125, R200), and safe ends of
channels and domains (R34, R197, R218, R220, R260).
-/

namespace Sys2Proof.Machine

/-! ## Release -/

/-- When the placer of channel c releases its pending edge (R32): at its place when it was loaded at least 30 ns before, else at the time
of this handshake held between its place or load + 8 ns, the earliest P_SETUP, and its place or load + 30 ns. None before that. `under`:
while VDDC is below 0.72 V P_SETUP has no figure (R21), and the release is at this handshake. -/
def Chan.releaseTime (c : Chan) (e : Edge) (under : Bool) (now : Nat) : Option Nat :=
  let lo := max e.place (c.loadAt + 102)
  let hi := max e.place (c.loadAt + 384)
  if under && e.act != 6 then (if max e.place c.loadAt ≤ now then some now else none)
  else if c.loadAt + 384 ≤ e.place then (if e.place ≤ now then some e.place else none)
  else if lo ≤ now then some (min now hi) else none

/-- Does the edge's slot still hold its occurrence? -/
def Dev.edgeLive (d : Dev) (e : Edge) : Bool := (d.slot e.slot).gen == e.gen && (d.slot e.slot).st != 0

/-- The slot after the release of an edge at `rel`: times and lateness (R171, R173, R176, R190). -/
def Slot.released (y : Slot) (e : Edge) (rel : Nat) : Slot :=
  let add := rel - e.decided
  let late := rel - e.target
  if e.start then
    let ends := actHasEnd y.c.act
    let y1 := { y with
      startRel := some rel, st := if y.st = 3 then 3 else if ends && y.endC then 7 else 4, t := if y.endIsAngle then y.t else none }
    if y.lateAu.isSome && !y.lateEnd then { y1 with lateTu := y.lateTu + add } else { y1 with placeLate := max y.placeLate late }
  else
    let y1 := { y with endRel := some rel }
    if y.lateEnd then { y1 with lateTu := y.lateTu + add }
    else if y.lateAu.isSome then y1 else { y1 with placeLate := max y.placeLate late }

/-- R158: a time end edge is fixed at its start's release and goes to the placer. -/
def Dev.timeEnd (d : Dev) (now chan : Nat) (e : Edge) (rel : Nat) : Dev :=
  let y := d.slot e.slot
  if e.start && d.edgeLive e && actHasEnd y.c.act && !y.endIsAngle then
    let tgt := y.endFixed.getD (rel + 16 * y.dur)
    let e' : Edge := { e with start := false, target := tgt, place := tgt, decided := rel }
    let d1 := (d.updSlot e.slot (fun z => { z with endC := true, t := some tgt })).trace now 1 e.slot true (tgt % 2 ^ 32)
    let c := d1.chan chan
    let (e2, dly) := d1.softDelay chan e'
    (d1.setChan chan { c with q := insEdge e2 c.q }).softIrq chan dly
  else d

/-- The event behind a drive edge. -/
def Dev.drvOccOf (d : Dev) (e : Edge) : DrvOcc :=
  let y := d.slot e.slot
  { has := true, slot := e.slot, gen := e.gen, recSlot := if 8 ≤ y.owner then 0x1FF else e.slot, tag := e.tag, prio := e.prio,
    policy := y.c.policy }

/-- R201: what a released edge does at its channel; `cur` is the coil current of a drive channel in units of 10 mA. -/
def Dev.edgeAct (d : Dev) (chan : Nat) (e : Edge) (rel cur : Nat) : Dev :=
  if chan < 48 then
    let o := d.drvOccOf e
    if e.start then
      (if e.act = 4 then d.drvStart rel chan { occ := o, rel := rel } cur else d.directAct rel chan e.act { occ := o, rel := rel } cur)
    else d.drvEndEdge rel chan o (e.act == 2) cur
  else if chan < 72 then
    let n := chan - 48
    let rises := e.act == 0 || (e.start && (e.act == 2 || e.act == 5))
    if rises then d.ignStart rel n (some (e.slot, e.gen)) else if (d.ign n).ended then d else d.ignSpark rel n
  else
    let n := chan - 72
    match e.act with
    | 0 => d.tapLevel rel n true
    | 1 => d.tapLevel rel n false
    | 2 => d.tapLevel rel n e.start
    | 3 => d.tapLevel rel n (!(d.chan chan).level)
    | 7 => d.tapLevel rel n e.start
    | 8 => d.trigger (0x01 + n) rel
    | _ => d

/-- R214: a spark that would fall before the minimum dwell is delayed to it under ENERGY and after a late spark's FIRE. -/
def Dev.sparkWait (d : Dev) (chan : Nat) (e : Edge) (rel : Nat) : Option Nat :=
  let n := chan - 48
  let x := d.ign n
  if e.isSpark chan && x.high && !x.ended && decide (rel < x.since + d.ignMin n)
      && (d.effB (F.IGN_CFG_SPRIO n) || (d.edgeLive e && (d.slot e.slot).minEnd)) then some (x.since + d.ignMin n)
  else none

/-- The occurrence ends with its last edge; a drive event's ends with its run (R185, R237). -/
def Dev.edgeEnds (d : Dev) (now : Nat) (e : Edge) : Dev :=
  if d.edgeLive e then
    let y := d.slot e.slot
    if y.drvBusy then d
    else if !e.start then d.occEnd now e.slot y.endRel
    else if actHasEnd y.c.act then d else d.occEnd now e.slot none
  else d

/-- EDGE_RELEASE (R32): the placer of a channel releases its pending edge, the channel acts on it, and the placer loads its next. -/
def Dev.edgeRelease (d : Dev) (now chan cur : Nat) : Dev :=
  let c := d.chan chan
  match c.pend with
  | none => d
  | some e =>
    match c.releaseTime e d.supply.under now with
    | none => d
    | some rel0 =>
      match d.sparkWait chan e rel0 with
      | some t =>
        let n := chan - 48
        let (e1, dly) := d.softDelay chan { e with place := t }
        ((d.ignFinding n (F.IGN_STAT_SHORTDW n) (F.IGN_CNT_A_SHORTDW n) 5 none).setChan chan { c with pend := some e1, loadAt := 0 }).softIrq
          chan dly
      | none =>
        let rel := rel0
        let d1 := d.setChan chan { c with pend := none, lastRel := some rel }
        let drvStart := decide (chan < 48) && e.start
        let d2 := if d1.edgeLive e then d1.updSlot e.slot (fun y => { y.released e rel with drvBusy := y.drvBusy || drvStart }) else d1
        let d3 := d2.timeEnd now chan e rel
        let d4 := (d3.edgeAct chan e rel cur).edgeEnds now e
        let k := e.dom
        let d5 := d4.setChanLoad now chan ((d4.chan chan).load now)
        d5.leadUpdate now k

/-! ## Edge-locked actions (R125, R200) -/

/-- An edge goes to the placer before every edge that is placed later. -/
def Chan.putAhead (c : Chan) (now : Nat) (e : Edge) : Chan :=
  match c.pend with
  | some p => if e.place < p.place then { c with pend := some e, q := p :: c.q, loadAt := 0 } else { c with q := insEdge e c.q }
  | none => ({ c with q := insEdge e c.q }).load now

/-- R200: the spark of an edge-locked CLEAR. One that ENERGY (R214) or a soft-off (R216, R217) does not let fall now waits at the placer. -/
def Dev.lockSpark (d : Dev) (now n : Nat) : Dev :=
  let x := d.ign n
  let chan := n + 48
  let short := d.effB (F.IGN_CFG_SPRIO n) && decide (now < x.since + d.ignMin n)
  let t := if short then x.since + d.ignMin n else now
  let e : Edge := { slot := 0x1FF, gen := 0, start := true, act := 1, dom := d.chanDom chan, target := t, place := t, prio := 0,
                    aseq := 0, decided := now }
  let (e1, dly) := d.softDelay chan e
  if !x.high || x.ended then d
  else if e1.place = now then d.ignSpark now n
  else
    let d1 := if short then d.ignFinding n (F.IGN_STAT_SHORTDW n) (F.IGN_CNT_A_SHORTDW n) 5 none else d
    (d1.setChan chan ((d1.chan chan).putAhead now e1)).softIrq chan dly

/-- An edge-locked binding acts on a channel: 0 SET, 1 CLEAR, 2 TOGGLE; TOGGLE on an ignition channel never acts. -/
def Dev.lockAct (d : Dev) (now chan act cur : Nat) : Dev :=
  if chan < 48 then
    d.directAct now chan (if act = 2 then 3 else act) { rel := now } cur
  else if chan < 72 then
    let n := chan - 48
    match act with
    | 0 => d.ignStart now n none
    | 1 => d.lockSpark now n
    | _ => d
  else if chan < 104 then
    let n := chan - 72
    match act with
    | 0 => d.tapLevel now n true
    | 1 => d.tapLevel now n false
    | _ => d.tapLevel now n (!(d.chan chan).level)
  else d

/-! ## Safe ends (R34, R197, R220) -/

/-- R34: the pending and queued edges of a channel are cancelled; each event is marked as ended by safe end. -/
def Dev.cancelEdge (d : Dev) (now : Nat) (e : Edge) : Dev :=
  if d.edgeLive e then
    let d1 := d.updSlot e.slot (fun y => { y with mark := 8 })
    let y := d1.slot e.slot
    if y.drvBusy then d1.updSlot e.slot (fun z => { z with endRel := some (z.endRel.getD now) })
    else d1.occEnd now e.slot (if y.startRel.isSome then some now else none)
  else d

def Dev.cancelEdges (d : Dev) (now chan : Nat) : Dev :=
  let c := d.chan chan
  let l := c.pend.toList ++ c.q ++ c.back
  let d1 := d.setChan chan { c with pend := none, q := [], back := [] }
  let d2 := match c.pend with
    | some e => if e.act = 6 then d1.adcWithdraw chan e.place else d1
    | none => d1
  l.foldl (fun d e => d.cancelEdge now e) d2

/-- A started event whose output has ended safely and whose angle end has not committed ends with it. -/
def Dev.cancelStarted (d : Dev) (now chan : Nat) : Dev :=
  ((d.carv.slots.filter (fun e => e.2.c.chan == chan && e.2.startRel.isSome && !e.2.endC && !e.2.drvBusy)).map (·.1)).foldl
    (fun d s => (d.updSlot s (fun y => { y with mark := 8 })).occEnd now s (some now)) d

/-- The channels that belong to a domain (R196, R197). -/
def Dev.chansOf (d : Dev) (k : Nat) : List Nat := (List.range 104).filter (fun c => d.chanDom c == k)

/-- The safe-end action of a drive or TAP channel; ignition channels end together through IGNSOFT. -/
def Dev.chanSafe (d : Dev) (now chan : Nat) : Dev :=
  let d1 := (d.cancelEdges now chan).cancelStarted now chan
  if chan < 48 then d1.drvSafe now chan
  else if chan < 72 then d1
  else d1.tapDomainEnd (chan - 72)

/-- BANK: every conducting channel ends as a safe end (R261). -/
def Dev.bankSafe (d : Dev) (now b : Nat) : Dev :=
  ((List.range 4).map (4 * b + ·)).foldl (fun d n => if (d.drv n).conducts then d.chanSafe now n else d) d

/-- DOMAIN_SAFE_END (R220): every output of domain k takes its channel type's safe-end action. -/
def Dev.domainSafeEnd (d : Dev) (now k : Nat) : Dev :=
  let l := d.chansOf k
  let d1 := l.foldl (fun d c => d.chanSafe now c) d
  d1.softDomain now ((l.filter (fun c => decide (48 ≤ c) && decide (c < 72))).map (· - 48))

/-- R252: a safe end of both domains stops the boost converters at once. -/
def Dev.boostSafe (d : Dev) : Dev := (d.bstStop 0).bstStop 1

/-- Every output off at once, as the analog die or device SAFE forces it (R23, R206, R218, R260). -/
def Dev.allOff (d : Dev) (now : Nat) : Dev :=
  let d1 := (List.range 104).foldl (fun d c => (d.cancelEdges now c).cancelStarted now c) d
  let d2 := (List.range 48).foldl (fun d n => d.drvSafe now n) d1
  let d3 := (List.range 32).foldl (fun d n => d.tapSafeEnd n) d2
  let d4 := ((d3.softForce now).bstStop 0).bstStop 1
  (List.range 12).foldl (fun d b => d.bankDrive now b) d4

end Sys2Proof.Machine
end

