-- ==== Sys2Proof/Machine/Mode.lean ====
section
/-!
DEFINITION. Machine/Mode.lean: changes of the device mode (R466 to R468, R473): inhibition of outputs, the running mode that follows
the lead domain, and what the Caravan and the sampler do when a domain begins or stops to commit (R181, R182, R281, R285).
-/

namespace Sys2Proof.Machine

/-- R467: outputs take their safe-end state; boost converters are left alone. -/
def Dev.inhibitOutputs (d : Dev) (now : Nat) : Dev :=
  let d1 := (List.range 48).foldl (fun d n => d.drvSafe now n) d
  let d2 := (d1.softForce now).tapInhibit
  (List.range 12).foldl (fun d b => d.bankDrive now b) d2

/-- Inhibition ends at the handshake that leaves the mode (R467). -/
def Dev.releaseOutputs (d : Dev) : Dev := d.softRelease.tapUninhibit

/-- Leaving device SAFE releases every TAP pin, whichever mode follows (R206). -/
def Dev.leaveSafe (d : Dev) : Dev := (List.range 32).foldl (fun d n => d.tapRelease n) d

/-- R473: a change of mode; leaving SERVICE releases the pins (R557). -/
def Dev.enterMode (d : Dev) (now m : Nat) : Dev :=
  let old := d.mode
  let d0 : Dev := if old = 9 ∧ d.get F.SEC_LC_STATE ≠ 0 then { d with jtag := { d.jtag with ctl := 0 } } else d
  let d1 := ((d0.set F.SYS_MODE_PREV old).set F.SYS_MODE_MODE m).irq P.SYS 0
  let d2 := if old = 11 ∧ m ≠ 11 then d1.leaveSafe else d1
  if !d.inhibited && d1.inhibited then d2.inhibitOutputs now
  else if d.inhibited && !d1.inhibited then d2.releaseOutputs
  else d2

/-- The running mode of R468 for the present lead domain. -/
def Dev.runningMode (d : Dev) : Nat :=
  let k := d.get F.SYS_MODE_LEAD
  if !d.enabled (P.ANG k) then 5
  else match d.angState k with
    | 0 => 5 | 6 => 5 | 1 => 6 | 2 => 6 | 3 => 7 | _ => 8

/-- R468: in a running mode the mode follows the lead domain. -/
def Dev.followMode (d : Dev) (now : Nat) : Dev :=
  let m := d.mode
  if 5 ≤ m ∧ m ≤ 8 ∧ d.runningMode ≠ m then d.enterMode now d.runningMode else d

/-- R469. -/
def Dev.stopped (d : Dev) (k : Nat) : Bool := !d.enabled (P.ANG k) || d.angState k == 0 || d.angState k == 6

/-! ## A domain begins or stops to commit -/

/-- R182, R281, R290: IDLE templates, runs and windows are placed, and every lead slot is projected again. -/
def Dev.commitBegins (d : Dev) (now k : Nat) : Dev :=
  let d1 := (d.unproject k).placeTemplates now k
  (d1.carvProcess now k false).smplEnter now

/-- R183, R285: no further commit; run occurrences abort, and what waits for a commit point takes effect at once (R194). -/
def Dev.commitEnds (d : Dev) (now k : Nat) : Dev := ((d.unproject k).smplLeave now k).carvCommit k

def Dev.domSettleOne (d : Dev) (now k : Nat) (was : Bool) : Dev :=
  if was then (if d.committing k then d else d.commitEnds now k)
  else if d.committing k then d.commitBegins now k else d

/-- After a step that may have changed whether a domain commits, `old` being the device before it. -/
def Dev.domSettle (old d : Dev) (now : Nat) : Dev := (d.domSettleOne now 0 (old.committing 0)).domSettleOne now 1 (old.committing 1)

end Sys2Proof.Machine
end

