-- ==== Sys2Proof/Machine/Ang.lean ====
section
/-!
DEFINITION. Machine/Ang.lean: the angle tracker (04_angle_tracking.md): bindings and tooth tables, the gap search, the pattern check
and repair, cam and redundant cross-checks, loss and failover, stall and resumption, synchronisation drops, direction and reverse,
the shadow tracker, edge-locked bindings, and the tooth's work in the predictor (R132 to R152).
-/

namespace Sys2Proof.Machine

/-! ## Tables and travel (R101 to R104, R120) -/

def Dev.ang (d : Dev) (k : Nat) : Ang := vGet d.angs k
def Dev.setAng (d : Dev) (k : Nat) (x : Ang) : Dev := { d with angs := vSet d.angs k x }
def Dev.updAng (d : Dev) (k : Nat) (f : Ang → Ang) : Dev := d.setAng k (f (d.ang k))

/-- Enable bit and wheel input of a role (R97). -/
def Dev.roleEn (d : Dev) (k r : Nat) : Bool := (d.reg (R.ANG_BIND k)).getLsbD (4 * r + 3)
def Dev.roleWhl (d : Dev) (k r : Nat) : Nat := wordGet (d.reg (R.ANG_BIND k)) (4 * r + 2) (4 * r)
/-- R427: does role r of domain k take its edges from beacons? -/
def Dev.follows (d : Dev) (k r : Nat) : Bool :=
  d.flag (F.BEAC_RX_EN k) && (r == 0 || (r == 2 && d.flag (F.BEAC_RX_CAM k)))
/-- N of a role's table. -/
def Dev.roleN (d : Dev) (k r : Nat) : Nat :=
  match r with
  | 0 => d.get (F.ANG_TTN_A_PRIM_N k) | 1 => d.get (F.ANG_TTN_A_RED_N k) | 2 => d.get (F.ANG_TTN_B_C0_N k)
  | 3 => d.get (F.ANG_TTN_B_C1_N k) | _ => d.get (F.ANG_TTN_C_C2_N k)
/-- The table of a role in the memory window (R101). -/
def Dev.tabMem (d : Dev) (k r : Nat) : List Nat :=
  (d.words (0x41000000 + 0x4000 * k + 0x800 * r) (d.roleN k r)).map (fun w => wordGet w 29 0)

def Dev.astern (d : Dev) (k : Nat) : Bool := d.flag (F.ANG_DIR_CMD_ACT k)
/-- The physical sense of travel: the commanded one, the other while tracking backward (R120, R122). -/
def Dev.ahead (d : Dev) (k : Nat) : Bool :=
  match (d.ang k).rev with
  | some v => if v.fwd then !d.astern k else d.astern k
  | none => !d.astern k

/-- R104 in the direction of travel. -/
def tabGap (L : Nat) (t : List Nat) (ahead : Bool) (i : Nat) : Bool :=
  decide (3 * tabCov L t ahead (tabStep t.length (!ahead) i) ≤ 2 * tabCov L t ahead i)

def halfCycle : Nat := 377487360
def Dev.fourStroke (d : Dev) (k : Nat) : Bool := d.get (F.ANG_CFG_STROKE k) == 0
/-- Primary teeth in one revolution. -/
def Dev.nRev (d : Dev) (k : Nat) : Nat := let n := (d.tab k 0).length; if d.fourStroke k then n / 2 else n
/-- An angle in the domain sense (R120). -/
def Dev.domAngle (d : Dev) (k a : Nat) : Nat := if d.astern k then (d.cycleLen k - a) % d.cycleLen k else a

/-- The role of the angle source. -/
def Dev.srcRole (d : Dev) (k : Nat) : Nat := d.get (F.ANG_STATE_SRC k)
def Dev.srcTab (d : Dev) (k : Nat) : List Nat := d.tab k (d.srcRole k)
def Dev.srcIdx (d : Dev) (k : Nat) : Nat := d.get (F.ANG_POS_INDEX k)

/-! ## Corrected angles (R150, R151) -/

/-- 4 × c(i) of the source tooth i: limited to a quarter of the smaller spacing beside it, not rounded (R130). -/
def Dev.toothOfs4 (d : Dev) (k : Nat) (t : List Nat) (i : Nat) : Int :=
  if d.effB (F.PRED_CFG_TOFS_EN k) && d.srcRole k == 0 && !d.parBad k i then
    let c := 64 * d.duneTofs k i
    let L := d.cycleLen k
    let q : Int := (min (tabCov L t true i) (tabCov L t false i) : Nat)
    clampI (if d.astern k then -c else c) (-q) q
  else 0
/-- θ of source tooth i: corrected, domain sense, in the range the domain reports, rounded once. -/
def Dev.toothAngle (d : Dev) (k : Nat) (t : List Nat) (i : Nat) : Nat :=
  let M : Int := d.angRange k
  ((((4 * d.domAngle k (t.getD i 0) : Nat) : Int) + d.toothOfs4 k t i + 2) % (4 * M) / 4).toNat
/-- s′: the corrected spacing covered in arriving at tooth i, rounded once. -/
def Dev.covOf (d : Dev) (k i : Nat) : Nat :=
  let t := d.srcTab k
  let a := d.ahead k
  let c : Int := d.toothOfs4 k t i - d.toothOfs4 k t (tabStep t.length (!a) i)
  (Rt.round ⟨4 * (tabCov (d.cycleLen k) t a i : Int) + (if a == !d.astern k then c else -c), 4⟩).toNat
/-- The entry that a parity error of this tooth is found in (R152). -/
def Dev.parAt (d : Dev) (k i : Nat) : Dev := d.updAng k (fun a => { a with parIdx := some i })

/-! ## The predictor at a tooth (R132 to R152) -/

/-- The model angle of R140 at time t, with no limit. -/
def Dev.modelAngle (d : Dev) (k t : Nat) : Nat :=
  let x := d.pred k
  if x.valid && !d.flag (F.ANG_STATE_REVERSE k) then
    (((x.thk : Int) + advanceOf x.omega x.acc x.sNext x.dNext (t - x.tk)) % (d.angRange k : Int)).toNat
  else x.rep

/-- R133: the period list is emptied and with it the model; the reported angle stands, and HELD waits for the next source tooth (R141).
The page commits at once while VALID is 0 (R155). -/
def Dev.predClear (d : Dev) (now k : Nat) : Dev :=
  let th := d.theta k now
  let x := d.pred k
  let d1 := d.setPred k { x with list := [], valid := false, rep := th, fitFull := false }
  ((d1.put (F.PRED_STAT_VALID k) false).set (F.PRED_STAT_NPER k) 0).commit (P.PRED k)

/-- ω in rpm × 16, rounded. -/
def rpm16 (omega : Nat) : Nat := (2 * (omega * 12800000000 * 960) + 2 ^ 60 * 360) / (2 * (2 ^ 60 * 360))
/-- Is the speed outside 10 to 30,000 rpm (R136)? -/
def speedBad (omega : Nat) : Bool :=
  decide (omega * 12800000000 * 60 < 10 * (2 ^ 60 * 360)) || decide (30000 * (2 ^ 60 * 360) < omega * 12800000000 * 60)

/-- R152: a dune entry read with a parity error, told by what the re-read found (`upPar` 1 passes, 2 fails); step 3 comes after the
tooth's fit and learning. -/
def Dev.dunePar (d : Dev) (k i : Nat) : Dev :=
  match (d.ang k).upPar with
  | 0 => d
  | 1 => d.rep (P.PRED k) 0x29 0
  | _ => (((d.setDune k i 0x8000 0 0).renorm k).irq (P.PRED k) 6).rep (P.PRED k) 0x29 1 i

/-- R148, R149: learning at tooth i, `p1` the period that ended there; the ps and norm are those in force before. `virt`: the tooth ends a
repair, so that the one before it is virtual. -/
def Dev.learn (d : Dev) (k i : Nat) (p1 : Nat) (hold virt : Bool) : Dev :=
  let x := d.pred k
  let norm := (d.reg (R.PRED_NORM k)).toNat
  let freeze := d.angState k != 3 || d.flag (F.ANG_STATE_REVERSE k) || d.srcRole k != 0 || virt
    || x.clamped || x.floored || hold || !x.valid || !x.fitFull || x.ps == 0 || norm == 0
    || decide (x.omega * 12800000000 * 60 < d.eff (F.PRED_DUNE_LRN_RPM_MIN k) * (2 ^ 60 * 360))
  if !d.flag (F.PRED_DUNE_LEARN k) || freeze then d.put (F.PRED_STAT_LEARNED k) false
  else
    let den := x.ps * norm
    let obs : Nat := (2 * p1 * 2 ^ 46 + den) / (2 * den)
    let r := d.duneUse k i
    let dev : Int := (obs : Int) - (r : Int)
    let mx := max (d.ang k).lrnMax dev.natAbs
    let d1 := d.updAng k (fun a => { a with lrnMax := mx })
    if d.eff (F.PRED_DUNE_DEV k) * 2 ^ 15 < dev.natAbs * 100 then
      ((d1.incSat (F.PRED_CNT_B_OUTLIER k)).irq (P.PRED k) 3).put (F.PRED_STAT_LEARNED k) false
    else
      let q := d.eff (F.PRED_DUNE_LRATE_LOG2 k)
      let r' := clampI (Rt.round ⟨(r : Int) * 2 ^ q + dev, 2 ^ q⟩) 0 65535
      let d2 := (d1.setDune k i r'.toNat (min (d.duneCnt k i + 1) 255) (bitsOf (d.duneTofs k i) 16)).renorm k
      (d2.updAng k (fun a => { a with lrnAny := true })).put (F.PRED_STAT_LEARNED k) true

/-- R148: the end of a learning cycle at a pass of index 0. -/
def Dev.learnCycle (d : Dev) (k : Nat) : Dev :=
  let a := d.ang k
  let d1 := (d.set (F.PRED_DSTAT_MAXDEV k) (min a.lrnMax 65535)).setAng k { a with lrnMax := 0, lrnAny := false }
  if a.lrnAny then (d1.incSat (F.PRED_DSTAT_LCYC k)).irq (P.PRED k) 4 else d1

/-- The periods that end at a tooth: one, or two for a repaired tooth (R132), newest first, each with its tooth. -/
structure ToothPer where
  idx : Nat
  d : Nat
  s : Nat
  sc : Nat

/-- The registers that show the model (R156). -/
def Dev.modelRegs (d : Dev) (k : Nat) : Dev :=
  let x := d.pred k
  let d1 := (d.setLH (R.PRED_TK_LO k) (R.PRED_TK_HI k) x.tk).setReg (R.PRED_THK k) (w32 x.thk)
  let d2 := (d1.setReg (R.PRED_OMG_LO k) (lo32 x.omega)).setReg (R.PRED_OMG_HI k) (w32 (x.omega / 2 ^ 32 % 65536))
  let ab := bitsOf x.acc 64
  let d3 := d2.setLH (R.PRED_ACC_LO k) (R.PRED_ACC_HI k) ab
  let d4 := (d3.setReg (R.PRED_PNEXT k) (w32 (min ((x.pNext + 8) / 16) 0xFFFFFFFF))).setReg (R.PRED_DEFF k)
    (w32 (min ((x.dNext + 16384) / 32768) 65535))
  d4.set (F.PRED_RPM_RPM k) (min (rpm16 x.omega) 524287)

/-- The predictor at source tooth i with timestamp t (R129, R132, R134 to R137, R141, R142, R148): the reported angle moves to θ_k, the
list takes the periods, and with at least two of them a new model replaces the old. -/
def Dev.predTooth (d : Dev) (now k i t : Nat) (pers : List ToothPer) (hold virt : Bool) : Dev :=
  let tab := d.srcTab k
  let x := d.pred k
  let rev := d.flag (F.ANG_STATE_REVERSE k)
  let M := d.angRange k
  let th := d.toothAngle k tab i
  let before := d.theta k now
  -- R142: forward only, but for reverse travel; a tooth that ends a period lies behind only through its correction, a jump by its place
  let near := min (tabCov M tab true i) (tabCov M tab false i) / 2
  let behind := if pers.isEmpty then decide (M / 2 ≤ angDiff M th before) else decide (angDiff M before th ≤ near)
  let rep := if !rev && behind then before else th
  let d0 := if x.valid then d.probe now 0x05 k ((t : Int) - (x.tk + x.pNext : Nat)) else d
  -- R148: an update and its normaliser first act at the next tooth
  let applies := d0.duneApplies k
  let entries := pers.map (fun p => ({ d := p.d, s := p.s, sc := p.sc, ratio := if applies then d0.duneD k p.idx else oneRatio } : Period))
  let list := (entries ++ x.list).take 8
  let d2 := (match pers with
    | p :: _ => d0.learn k i p.d hold virt
    | [] => d0.put (F.PRED_STAT_LEARNED k) false).dunePar k i
  let nfit := d.eff (F.PRED_CFG_NFIT k)
  let nxt := tabStep tab.length (d2.ahead k) i
  let sN := d2.covOf k nxt
  let st := d.angState k
  let ok := decide (2 ≤ list.length) && decide (2 ≤ st) && decide (st ≤ 5)
  let D := if applies then d0.duneD k nxt else oneRatio
  let base : Pred := { x with list := list, tk := t, thk := th, rep := rep, held := false }
  if ok then
    let f := fitOf (d.eff (F.PRED_CFG_ACC_LIM k)) (list.take nfit)
    let ps := tauRound f.omega f.acc sN oneRatio
    let fl := floorActs f.omega f.acc sN
    let p := (2 * ps * D + oneRatio) / (2 * oneRatio)
    let hold' := th + sN - sN * d.eff (F.PRED_HOLD_HOLD k) / 1000
    let bad := speedBad f.omega
    let y : Pred := { base with
      valid := true, omega := f.omega, acc := f.acc, sNext := sN, ps := ps, dNext := D, pNext := p, thHold := hold' % M,
      clamped := f.clamped, floored := fl, fitFull := decide (nfit ≤ list.length), badSpeed := bad }
    let d3 := (d2.setPred k y).modelRegs k
    let d4 := (((((((d3.put (F.PRED_STAT_VALID k) true).set (F.PRED_STAT_NPER k) list.length).put (F.PRED_STAT_HOLDOVER k) hold).put
      (F.PRED_STAT_FLOOR k) fl).put (F.PRED_STAT_DUNE_ACT k) applies).put (F.PRED_STAT_CLAMPED k) f.clamped).put
      (F.PRED_STAT_HELD k) false).irq (P.PRED k) 0
    let d5 := if f.clamped then (d4.incSat (F.PRED_CNT_A_CLAMP k)).irq (P.PRED k) 2 else d4
    let d6 := if fl then d5.incSat (F.PRED_CNT_B_FLOOR k) else d5
    let d7 := if bad && !x.badSpeed then (d6.irq (P.PRED k) 5).rep (P.PRED k) 0x27 0 else d6
    d7.commit (P.PRED k)
  else
    let d3 := d2.setPred k { base with valid := false }
    ((((d3.put (F.PRED_STAT_VALID k) false).set (F.PRED_STAT_NPER k) list.length).put (F.PRED_STAT_HOLDOVER k) hold).put
      (F.PRED_STAT_HELD k) false).commit (P.PRED k)

/-- R84, R139: the predicted period the qualifier of a wheel in role r holds, as a fraction: the source's is stored in tu, the others' are
exact (R130); none when pred_valid is 0. -/
def Dev.predFor (d : Dev) (k r : Nat) : Option (Nat × Nat) :=
  let x := d.pred k
  let st := d.angState k
  if x.valid && decide (2 ≤ st) && decide (st ≤ 5) then
    (if r = d.srcRole k then some (x.pNext, 1) else if (vGet (d.ang k).idx r).isSome then vGet (d.ang k).per r else none)
  else none

/-- R139: s_w ÷ ω for a wheel that is not the source, at its accepted edge. -/
def Dev.notePer (d : Dev) (k r : Nat) : Dev :=
  let x := d.pred k
  d.updAng k (fun a =>
    let p := match vGet a.idx r with
      | some i =>
        let t := d.tab k r
        let s := tabCov (d.cycleLen k) t (d.ahead k) (tabStep t.length (d.ahead k) i)
        if x.valid && x.omega != 0 then some (s * 2 ^ 40, x.omega) else none
      | none => none
    { a with per := vSet a.per r p })

/-! ## State changes (R106, R116, R117, R121) -/

/-- R121: the commanded direction commits: one-shots are flushed, templates go IDLE, and the domain waits for N_FWD teeth. -/
def Dev.dirCommit (d : Dev) (now k : Nat) : Dev :=
  if d.get (F.ANG_DIR_CMD k) = d.get (F.ANG_DIR_CMD_ACT k) ∨ d.flag (F.PCTL_SHDW_HOLD (P.ANG k)) then d
  else
    let L := d.cycleLen k
    let d1 := (d.flush now k).idleTemplates k
    let d2 := d1.predClear now k
    let x := d2.pred k
    let d3 := ((d2.set (F.ANG_DIR_CMD_ACT k) (d.get (F.ANG_DIR_CMD k))).setPred k { x with rep := (L - x.rep % L) % L }).bumpGen (P.ANG k)
    -- what turned backward turns forward now, and the other way round
    let d4 := (d3.updAng k (fun a => { a with
      cmdAct := true, fwdLeft := d.eff (F.ANG_DIR_N_FWD k), tSrc := none, dSrc := none,
      rev := a.rev.map (fun v => { v with fwd := !v.fwd }) })).renorm k
    let i := d4.srcIdx k
    let th := d4.domAngle k ((d4.srcTab k).getD i 0)
    ((d4.setReg (R.ANG_TANGLE k) (w32 th)).set (F.ANG_STATE_RFWD k) 0).setFront k x.rep (d4.trav k)

/-- What the tracker forgets when it loses its place: indexes, the travel counters, reverse, a running N_FWD count starts again. -/
def Dev.angForget (d : Dev) (k : Nat) : Dev :=
  let n := d.eff (F.ANG_DIR_N_FWD k)
  let d1 := d.updAng k (fun a => { a with
    idx := Vector.replicate 5 none, per := Vector.replicate 5 none, tSrc := none, dSrc := none, rev := none,
    fwdLeft := if a.cmdAct then n else 0, ratio1 := none, ratio2 := none })
  ((((d1.set (F.ANG_STATE_SRC k) 0).put (F.ANG_STATE_PHASE_OK k) false).set (F.ANG_STATE_RFWD k) 0).put
    (F.ANG_STATE_REVERSE k) false).set (F.ANG_POS_REP_CYC k) 0

/-- The domain enters a state. -/
def Dev.angSet (d : Dev) (now k st : Nat) : Dev :=
  let prev := d.angState k
  let d1 := if st = 0 ∨ st = 6 then d.predClear now k else d
  let d2 := d1.set (F.ANG_STATE_STATE k) st
  let d3 := if st = 0 ∨ (st = 1 ∧ prev = 6) then d2.angForget k else d2
  let d4 := if st = 1 ∨ st = 5 then d3.updAng k (fun a => { a with gs := {} }) else d3
  let d5 := if st = 3 ∧ prev ≠ 3 then
      let e := (d4.irq (P.ANG k) 1).put (F.ANG_STATE_PHASE_OK k) true
      if prev = 6 then e else e.setReg (R.ANG_CYC k) 0
    else if st = 4 ∧ prev ≠ 4 then d4.irq (P.ANG k) 7
    else if st = 5 ∧ prev ≠ 5 then (d4.irq (P.ANG k) 7).put (F.ANG_STATE_PHASE_OK k) true
    else if st = 2 then (d4.irq (P.ANG k) 8).updAng k (fun a => { a with phaseAt := a.run, phaseTold := false })
    else if st = 6 then d4.irq (P.ANG k) 5
    else d4
  let d6 := if st = 0 ∨ st = 6 then d5.dirCommit now k else d5
  let d7 := if st = 0 ∨ st = 1 ∨ st = 5 ∨ st = 6 then d6.commit (P.ANG k) else d6
  let d8 := if st ≤ 2 then d7.idleTemplates k else d7
  d8.followMode now

/-- A synchronisation drop of domain k with a cause code (R117, R119, R567); `kind` is reported, class U, where there is one. -/
def Dev.syncDrop (d : Dev) (now k cause : Nat) (kind : Option Nat) : Dev :=
  let d1 := d.domainSafeEnd now k
  if !d.enabled (P.ANG k) || d.angState k == 0 then d1
  else
    let d2 := d1.flush now k
    let d3 := (((d2.set (F.ANG_STATE_LAST_DROP k) cause).put (F.ANG_STATE_WAIT_REACQ k) (d.effB (F.ANG_CFG_REACQ_MAN k))).irq
      (P.ANG k) 2).incSat (F.ANG_CNT_A_DROP k)
    let d4 := d3.angSet now k 0
    match kind with
    | some n => d4.rep (P.ANG k) n 1
    | none => d4

/-- The drops of R119 that the tracker makes itself: kinds 0x1D to 0x26 stand for causes 1 to 10 and 11. -/
def Dev.drop (d : Dev) (now k cause : Nat) : Dev :=
  d.syncDrop now k cause (some (match cause with
    | 1 => 0x1D | 2 => 0x1E | 3 => 0x1F | 4 => 0x20 | 5 => 0x21 | 6 => 0x22 | 7 => 0x23 | 8 => 0x18 | 9 => 0x24 | 10 => 0x25 | _ => 0x26))

/-! ## Edge-locked bindings (R125) -/

def Dev.elock (d : Dev) (now k i cur : Nat) : Dev :=
  let st := d.angState k
  if (st == 3 || st == 4) && !d.flag (F.ANG_STATE_REVERSE k) && !d.inhibited then
    ((List.range 8).filter (fun b => d.flag (F.ANG_ELOCK_EN k b) && d.get (F.ANG_ELOCK_INDEX k b) == i)).foldl
      (fun d b => d.lockAct now (d.get (F.ANG_ELOCK_CHAN k b)) (d.get (F.ANG_ELOCK_ACT k b)) cur) d
  else d

/-! ## Taking a source tooth (R37) -/

/-- A pass of index 0: cycle count, repairs, a clean redundant cycle, the learning cycle (R109, R114, R128, R148). -/
def Dev.passZero (d : Dev) (k : Nat) : Dev :=
  let st := d.angState k
  let d1 := d.set (F.ANG_POS_REP_CYC k) 0
  let d2 := if 3 ≤ st ∧ st ≤ 5 then d1.setReg (R.ANG_CYC k) (d1.reg (R.ANG_CYC k) + 1) else d1
  let d3 := match (d2.ang k).redCyc with
    | some 0 => d2.updAng k (fun a => { a with redCyc := some 1 })
    | some _ => (d2.updAng k (fun a => { a with redCyc := none })).put (F.ANG_STATE_RED_OK k) true
    | none => d2
  d3.learnCycle k

/-- The index shown in PRESYNC stays within one revolution (R131). -/
def Dev.foldIdx (d : Dev) (k i : Nat) : Nat :=
  if d.angState k = 2 ∧ d.fourStroke k then i % (max (d.nRev k) 1) else i

/-- The registers of a tooth (R128); an accepted primary tooth pulses trigger source 0x69 + k (R207). -/
def Dev.showTooth (d : Dev) (k i t : Nat) (hold : Bool) : Dev :=
  let d1 := ((d.set (F.ANG_POS_INDEX k) i).setReg (R.ANG_TANGLE k) (w32 (d.domAngle k ((d.srcTab k).getD i 0)))).put
    (F.ANG_STATE_HOLDOVER k) hold
  let d2 := d1.updAng k (fun a => { a with idx := vSet a.idx (d.srcRole k) (some i) })
  if d.srcRole k = 0 then (d2.irq (P.ANG k) 0).trigger (0x69 + k) t else d2

/-- R124: the shadow tracker steps its own index on its own tables; `jump` places it. -/
def Dev.shadowStep (d : Dev) (k : Nat) (steps : Nat) (jump : Bool) : Dev :=
  let a := d.ang k
  let t := vGet a.shTabs (d.srcRole k)
  let i0 := if jump then d.srcIdx k
    else (List.range steps).foldl (fun i _ => tabStep t.length (d.ahead k) i) a.shIdx
  let i := d.foldIdx k i0
  d.setAng k { a with shIdx := i, shTh := d.toothAngle k t i }
/-- Does the shadow tracker differ? -/
def Dev.shadowBad (d : Dev) (k : Nat) : Bool :=
  let a := d.ang k
  a.upShadow || a.shIdx != d.srcIdx k || a.shTh != d.toothAngle k (d.srcTab k) (d.srcIdx k)

/-- R121: a qualified tooth of the source counts toward N_FWD. -/
def Dev.countFwd (d : Dev) (k : Nat) : Dev :=
  let a := d.ang k
  let st := d.angState k
  if a.cmdAct && decide (3 ≤ st) && decide (st ≤ 5) && !d.flag (F.ANG_STATE_REVERSE k) then
    let n := a.fwdLeft - 1
    if n = 0 then (d.setAng k { a with cmdAct := false, fwdLeft := 0 }).set (F.ANG_STATE_RFWD k) 0
    else (d.setAng k { a with fwdLeft := n }).set (F.ANG_STATE_RFWD k) (d.eff (F.ANG_DIR_N_FWD k) - n)
  else d

/-- Take source tooth i at time t in forward travel. `pers` the periods it ends, `steps` the teeth it advances (2 for a repaired one), `jump`
an index set outright, `ratio` the RATIO of R82, `checked` the pattern check passed. -/
def Dev.takeTooth (d : Dev) (now k i t : Nat) (pers : List ToothPer) (steps : Nat) (jump : Bool) (ratio : Nat) (hold checked : Bool)
    (cur : Nat) : Dev :=
  let d := d.knkFix now k
  let zero := i == 0 || (steps == 2 && tabStep (d.srcTab k).length (!d.ahead k) i == 0)
  let virt := decide (2 ≤ steps)
  let dist := (pers.map (·.s)).foldl (· + ·) 0
  let prim := d.srcRole k == 0
  let d1 := (d.parAt k i).showTooth k i t hold
  let d2 := d1.updAng k (fun a => { a with
    run := a.run + dist, tSrc := some t,
    dSrc := match pers with | p :: _ => some p.d | [] => none,
    ratio2 := if prim then (if virt then none else a.ratio1) else a.ratio2,
    ratio1 := if prim then some ratio else a.ratio1 })
  let d3 := if zero then (d2.passZero k).trigger (0x6B + k) t else d2
  let d4 := if checked then d3.countFwd k else d3
  let d5 := if prim then d4.elock now k i cur else d4
  let d6 := d5.shadowStep k steps jump
  if d6.shadowBad k then ((d6.incSat (F.ANG_CNT_C_SHADOW k)).drop now k 9)
  else
    ((d6.predTooth now k i t pers hold virt).carvProcess now k true).smplTooth now k

/-- The period that ends at tooth i, measured from the last source tooth. -/
def Dev.perTo (d : Dev) (k i t : Nat) : List ToothPer :=
  match (d.ang k).tSrc with
  | some p => [{ idx := i, d := t - p, s := tabCov (d.cycleLen k) (d.srcTab k) (d.ahead k) i, sc := d.covOf k i }]
  | none => []

/-! ## The gap search (R107, R108) -/

/-- The largest expected ratio of the primary table as a fraction. -/
def Dev.rGap (d : Dev) (k : Nat) : Nat × Nat :=
  let t := d.tab k 0
  let L := d.cycleLen k
  let a := d.ahead k
  (List.range t.length).foldl (fun m i =>
    let r := (tabCov L t a i, tabCov L t a (tabStep t.length (!a) i))
    if m.1 * r.2 < r.1 * m.2 then r else m) (0, 1)

/-- Gap teeth of one revolution in the order of travel. -/
def Dev.gapList (d : Dev) (k : Nat) : List Nat :=
  let t := d.tab k 0
  let a := d.ahead k
  let l := (List.range (d.nRev k)).filter (fun i => tabGap (d.cycleLen k) t a i)
  if a then l else l.reverse
/-- Teeth from the j-th gap to the next. -/
def gapCount (n : Nat) (ahead : Bool) (g : List Nat) (j : Nat) : Nat :=
  let x := g.getD j 0
  let y := g.getD ((j + 1) % (max g.length 1)) 0
  let c := if ahead then (y + n - x) % (max n 1) else (x + n - y) % (max n 1)
  if c = 0 then n else c

/-- The match of a confirmed gap against the table: positions left and the run of unique ones. -/
def Dev.gapMatch (d : Dev) (k : Nat) (gs : GapS) (e : Nat) : GapS :=
  let g := d.gapList k
  let all := List.range g.length
  let nxt := match gs.prev with
    | some p => (gs.pos.filter (fun j => gapCount (d.nRev k) (d.ahead k) g j == e - p)).map (fun j => (j + 1) % (max g.length 1))
    | none => []
  let restart := nxt.isEmpty
  let pos := if restart then all else nxt
  let u := if restart then 0 else gs.uniq
  { gs with prev := some e, pos := pos, uniq := if pos.length = 1 then u + 1 else 0 }

/-- The domain has found its place from gap tooth g (R107, R114): `tb`, `tg`, `t` the teeth before, at and after the gap. -/
def Dev.gapLeave (d : Dev) (now k g tb tg t : Nat) (hold : Bool) (cur : Nat) : Dev :=
  let n := d.nRev k
  let kc := tabStep n (d.ahead k) g
  if d.angState k = 5 then
    let al := d.modelAngle k t
    let L := d.cycleLen k
    let dist := fun i => let x := angDiff L (d.domAngle k ((d.tab k 0).getD i 0)) al; min x (L - x)
    let i := if d.fourStroke k && decide (dist (kc + n) < dist kc) then kc + n else kc
    if d.eff (F.ANG_TOL_CAM_TOL k) * 65536 < dist i then d.drop now k 6
    else
      let d1 := (d.set (F.ANG_STATE_SRC k) 0).put (F.ANG_STATE_PRIM_OK k) true
      let d2 := (d1.predClear now k).angSet now k 3
      let d3 := d2.updAng k (fun a => { a with idx := vSet a.idx 0 (some i) })
      (d3.set (F.ANG_POS_INDEX k) i).takeTooth now k i t [] 1 true 0 hold false cur
  else
    let d1 := d.angSet now k (if d.fourStroke k then 2 else 3)
    let per := { idx := g, d := tg - tb, s := tabCov (d1.cycleLen k) (d1.srcTab k) (d1.ahead k) g, sc := d1.covOf k g : ToothPer }
    let x := d1.pred k
    let i := d1.foldIdx k kc
    let d2 := d1.setPred k { x with list := [], valid := false, rep := d1.toothAngle k (d1.srcTab k) i }
    let d3 := ((d2.parAt k i).updAng k (fun a => { a with tSrc := some tg })).set (F.ANG_POS_INDEX k) i
    let pers := d3.perTo k i t ++ [per]
    let here := (pers.map (·.s)).foldl (· + ·) (d3.ang k).run
    (d3.updAng k (fun a => { a with phaseAt := here, camAt := Vector.replicate 3 here, camLost := Vector.replicate 3 false })).takeTooth
      now k i t pers 1 true 0 hold false cur

/-- A primary edge in GAPSEARCH, or of the background search of LIMP_CAM. -/
def Dev.gapEdge (d : Dev) (now k t : Nat) (hold : Bool) (cur : Nat) : Dev :=
  let a := d.ang k
  let gs : GapS := { a.gs with n := a.gs.n + 1, ts := (t :: a.gs.ts).take 3 }
  match gs.ts with
  | [t0, t1, t2] =>
    let dt := t0 - t1
    let dp := t1 - t2
    let f := d.eff (F.ANG_PAT_GAP_FIND k)
    let (rn, rd) := d.rGap k
    match gs.cand with
    | some (e, tg, tb) =>
      let gs1 := { gs with cand := none }
      if dt * f * rn ≤ 100 * dp * rd then
        let gs2 := d.gapMatch k gs1 e
        let d1 := d.setAng k { a with gs := gs2 }
        if d.eff (F.ANG_CFG_CONFIRM_GAPS k) < gs2.uniq then
          d1.gapLeave now k ((d.gapList k).getD (gs2.pos.getD 0 0) 0) tb tg t hold cur
        else d1
      else d.setAng k { a with gs := gs1 }
    | none =>
      if f * rn * dp ≤ dt * 100 * rd then d.setAng k { a with gs := { gs with cand := some (gs.n, t0, t1) } }
      else d.setAng k { a with gs := gs }
  | _ => d.setAng k { a with gs := gs }

/-- GAP_NOTFOUND (R108), once per entry. -/
def Dev.gapNotFound (d : Dev) (k : Nat) : Dev :=
  let a := d.ang k
  if d.angState k == 1 && !a.gs.told && decide (2 * d.nRev k ≤ a.gs.n) then
    (d.setAng k { a with gs := { a.gs with told := true } }).rep (P.ANG k) 0x16 0
  else d

/-! ## The pattern check (R109, R110) -/

inductive PatRes where
  | next
  | repair
  | drop (cause : Nat)

/-- R109 for the edge `e` after index i; repair is disabled in LIMP_CAM and in reverse. -/
def Dev.patCheck (d : Dev) (k : Nat) (i : Nat) (e : WEdge) (mayRepair : Bool) : PatRes :=
  let t := d.srcTab k
  let L := d.cycleLen k
  let a := d.ahead k
  let n1 := tabStep t.length a i
  let n2 := tabStep t.length a n1
  let gap := tabGap L t a n1
  if !e.late then
    if gap && e.ratio != 0 && (decide (e.ratio * 100 < d.eff (F.ANG_PAT_GAP_MIN k) * 4096)
        || decide (d.eff (F.ANG_PAT_GAP_MAX k) * 4096 < e.ratio * 100)) then .drop 1
    else .next
  else if gap then .drop 1
  else
    let s1 := tabCov L t a n1
    let s2 := tabCov L t a n2
    let x := e.ratio * s1 * 100
    let y := 4096 * (s1 + s2)
    if x < d.eff (F.ANG_PAT2_REP_LO k) * y ∨ d.eff (F.ANG_PAT_REP_HI k) * y < x then .drop 2
    else if tabGap L t a n2 then .drop 4
    else if !mayRepair || decide (d.eff (F.ANG_CFG_REP_MAX k) ≤ d.get (F.ANG_POS_REP_CYC k)) then .drop 3
    else .repair

/-- R127: the page commits when the check of a primary gap tooth completes. -/
def Dev.gapCommit (d : Dev) (k i : Nat) : Dev :=
  if d.srcRole k == 0 && tabGap (d.cycleLen k) (d.srcTab k) (d.ahead k) i then d.commit (P.ANG k) else d

/-- R110: the virtual tooth and the real one, with two periods fitted once. -/
def Dev.repairTooth (d : Dev) (now k : Nat) (e : WEdge) (cur : Nat) : Dev :=
  let t := d.srcTab k
  let L := d.cycleLen k
  let a := d.ahead k
  let n1 := tabStep t.length a (d.srcIdx k)
  let n2 := tabStep t.length a n1
  let s1 := tabCov L t a n1
  let s2 := tabCov L t a n2
  let t0 := (d.ang k).tSrc.getD e.t
  let tv := t0 + (2 * (e.t - t0) * s1 + (s1 + s2)) / (2 * (s1 + s2))
  let rc := d.get (F.ANG_POS_REP_CYC k)
  let d := d.parAt k (d.foldIdx k n2)
  let p2 : ToothPer := { idx := d.foldIdx k n2, d := e.t - tv, s := s2, sc := d.covOf k n2 }
  let p1 : ToothPer := { idx := d.foldIdx k n1, d := tv - t0, s := s1, sc := d.covOf k n1 }
  let zero := d.foldIdx k n1 == 0 || d.foldIdx k n2 == 0
  let d1 := d.takeTooth now k (d.foldIdx k n2) e.t [p2, p1] 2 false e.ratio e.hold true cur
  if d1.angState k = 0 then d1
  else (((d1.set (F.ANG_POS_REP_CYC k) (if zero then 1 else rc + 1)).irq (P.ANG k) 3).incSat (F.ANG_CNT_A_REPAIR k)).rep (P.ANG k) 0x17 0

/-! ## Reverse rotation (R122, R123) -/

/-- The effects of a detection that repeat at each new one. -/
def Dev.revTold (d : Dev) (now k : Nat) : Dev :=
  (((d.incSat (F.ANG_CNT_B_REV k)).irq (P.ANG k) 4).rep (P.ANG k) 0x1C 1).domainSafeEnd now k

/-- A tooth taken while REVERSE is 1: the index and the angle step, the list takes the period. -/
def Dev.revTooth (d : Dev) (now k i t : Nat) (pers : List ToothPer) (e : WEdge) : Dev :=
  let d1 := (d.parAt k i).showTooth k i t e.hold
  let prim := d.srcRole k == 0
  let d2 := d1.updAng k (fun a => { a with
    tSrc := some t, dSrc := match pers with | p :: _ => some p.d | [] => none,
    ratio2 := if prim then a.ratio1 else a.ratio2, ratio1 := if prim then some e.ratio else a.ratio1 })
  let d3 := d2.shadowStep k 1 true
  if d3.shadowBad k then ((d3.incSat (F.ANG_CNT_C_SHADOW k)).drop now k 9)
  else d3.predTooth now k i t pers e.hold false

/-- R122: reverse rotation is detected; `again` is false for a redundant crank that is not the source. -/
def Dev.revDetect (d : Dev) (now k : Nat) (e : WEdge) (prov : Bool) (isSrc : Bool) : Dev :=
  let a := d.ang k
  let i := d.srcIdx k
  let per := match a.dSrc with
    | some p => some (p, tabCov (d.cycleLen k) (d.srcTab k) (d.ahead k) i)
    | none => none
  let d1 := (d.predClear now k).put (F.ANG_STATE_REVERSE k) true
  let d2 := (d1.set (F.ANG_STATE_RFWD k) 0).updAng k (fun a => { a with
    rev := some { fwd := false, again := !isSrc, prov := if prov then 2 else 0, per := per } })
  let d5 := ((d2.dirCommit now k).revTold now k).blockSlots k
  if isSrc then d5.revTooth now k i e.t [] e else d5

/-- R123: release. -/
def Dev.revRelease (d : Dev) (now k i : Nat) (e : WEdge) (cur : Nat) : Dev :=
  let d1 := (d.updAng k (fun a => { a with rev := none, tSrc := none })).predClear now k
  let d2 := ((d1.put (F.ANG_STATE_REVERSE k) false).set (F.ANG_STATE_RFWD k) 0).irq (P.ANG k) 9
  (d2.unblockSlots k).takeTooth now k i e.t [] 1 true e.ratio e.hold false cur

/-- Does a raw period fit the one before, scaled by the spacings, within [REP_LO, REP_HI]? -/
def Dev.rawFits (d : Dev) (k : Nat) (per : Option (Nat × Nat)) (dt s : Nat) : Bool :=
  match per with
  | some (p, q) => decide (d.eff (F.ANG_PAT2_REP_LO k) * s * p ≤ 100 * dt * q) && decide (100 * dt * q ≤ d.eff (F.ANG_PAT_REP_HI k) * s * p)
  | none => true

/-- Is the wheel of role r a direction-coded sensor? Beacon roles are (R427). -/
def Dev.pwdir (d : Dev) (k r : Nat) : Bool := d.follows k r || d.eff (F.WHL_CFG_TYPE (d.roleWhl k r)) == 2

/-- A source edge while REVERSE is 1. -/
def Dev.revEdge (d : Dev) (now k : Nat) (v : Rev) (e : WEdge) (cur : Nat) : Dev :=
  let pw := d.pwdir k (d.srcRole k)
  let fwd := if pw then e.dir == d.astern k else v.fwd
  let turn := v.again || fwd != v.fwd
  let i := d.srcIdx k
  let dt := e.t - (d.ang k).tSrc.getD e.t
  let move := fun (d : Dev) (v : Rev) (i : Nat) (pers : List ToothPer) (told : Bool) =>
    let d0 := d.updAng k (fun a => { a with rev := some v })
    let d1 := if told then (((d0.set (F.ANG_STATE_RFWD k) 0).dirCommit now k).revTold now k).blockSlots k else d0
    let n := if v.fwd && v.prov == 0 then d.get (F.ANG_STATE_RFWD k) + 1 else 0
    let d1 := d1.set (F.ANG_STATE_RFWD k) n
    if v.fwd && decide (d.eff (F.ANG_DIR_N_FWD k) ≤ n) then d1.revRelease now k i e cur
    else d1.revTooth now k i e.t pers e
  -- the tooth last passed, passed again in the other sense
  let passAgain := fun (d : Dev) (fwd' : Bool) =>
    if v.prov ≠ 0 then d.drop now k 10
    else move (d.predClear now k) { v with fwd := fwd', again := false, per := none } i [] (!fwd' && v.fwd)
  if turn then passAgain d fwd
  else
    let t := d.srcTab k
    let j := d.foldIdx k (tabStep t.length (d.ahead k) i)
    let s := tabCov (d.cycleLen k) t (d.ahead k) j
    let ok := if v.prov ≠ 0 then d.rawFits k v.per dt s
      else match d.patCheck k i e false with | .next => true | _ => false
    if ok then
      let d := d.parAt k j
      move (d.gapCommit k j) { v with prov := v.prov - 1, per := some (dt, s) } j (d.perTo k j e.t) false
    else if pw || v.prov != 0 || fwd then d.drop now k 10
    else passAgain d true

/-! ## Edges of the source -/

/-- An accepted edge of the angle source in PRESYNC, SYNC, LIMP_CRANK and LIMP_CAM. -/
def Dev.sourceEdge (d : Dev) (now k : Nat) (e : WEdge) (cur : Nat) : Dev :=
  match (d.ang k).rev with
  | some v => d.revEdge now k v e cur
  | none =>
    let src := d.srcRole k
    if decide (src ≤ 1) && d.pwdir k src && e.dir != d.astern k then d.revDetect now k e false true
    else match d.patCheck k (d.srcIdx k) e (d.angState k != 5) with
      | .next =>
        let i := d.foldIdx k (tabStep (d.srcTab k).length (d.ahead k) (d.srcIdx k))
        let d := d.parAt k i
        (d.gapCommit k i).takeTooth now k i e.t (d.perTo k i e.t) 1 false e.ratio e.hold true cur
      | .repair => d.repairTooth now k e cur
      | .drop c => if d.effB (F.ANG_CFG_REV_PAT k) then d.revDetect now k e true true else d.drop now k c

/-! ## Cams and the redundant crank (R111, R114) -/

/-- The entry of a role's table nearest to angle `al` within `tol` au. -/
def Dev.hit (d : Dev) (k r al tol : Nat) : Option Nat :=
  let L := d.cycleLen k
  let t := d.tab k r
  let dist := fun i => let x := angDiff L (d.domAngle k (t.getD i 0)) al; min x (L - x)
  ((List.range t.length).foldl (fun (m : Option Nat) i =>
    if tol < dist i then m else match m with
      | some j => if dist i < dist j then some i else m
      | none => some i) none)

def Dev.camOk (d : Dev) (k c : Nat) (b : Bool) : Dev :=
  let w := d.get (F.ANG_STATE_CAM_OK k)
  d.set (F.ANG_STATE_CAM_OK k) (if b then w ||| 2 ^ c else w &&& (7 - 2 ^ c))
def Dev.setIdx (d : Dev) (k r i : Nat) : Dev := d.updAng k (fun a => { a with idx := vSet a.idx r (some i) })

/-- The domain angle `al` is found to lie in the first (`false`) or second revolution of the cycle: index and angle move to their places,
forward only (R111, R131, R142). Where the angle has passed 0 since tooth k, that tooth lies one revolution before it. -/
def Dev.fixPhase (d : Dev) (now k al : Nat) (second : Bool) : Dev :=
  let t := d.srcTab k
  let n := d.nRev k
  let L := d.cycleLen k
  let x := d.pred k
  let thk := (al % halfCycle + (if second then halfCycle else 0) + L - angDiff halfCycle al x.thk) % L
  let dist := fun i => let z := angDiff L (d.domAngle k (t.getD i 0)) thk; min z (L - z)
  let i := d.srcIdx k % (max n 1)
  let j := if dist (i + n) < dist i then i + n else i
  let place := fun a => (thk + angDiff halfCycle a x.thk) % L
  let d1 := d.setPred k { x with thk := thk, rep := place (d.theta k now), thHold := place x.thHold }
  let d2 := (d1.set (F.ANG_POS_INDEX k) j).setReg (R.ANG_TANGLE k) (w32 (d1.domAngle k (t.getD j 0)))
  let d3 := d2.setReg (R.PRED_THK k) (w32 thk)
  d3.updAng k (fun a => { a with idx := vSet a.idx (d.srcRole k) (some j), shIdx := j })

/-- A cam edge in PRESYNC, SYNC or LIMP_CRANK. -/
def Dev.camEdge (d : Dev) (now k r : Nat) (e : WEdge) : Dev :=
  let L := d.cycleLen k
  let tol := d.eff (F.ANG_TOL_CAM_TOL k) * 65536
  let al := d.modelAngle k e.t
  let h0 := d.hit k r al tol
  let h1 := if d.fourStroke k then d.hit k r ((al + halfCycle) % L) tol else none
  let st := d.angState k
  if st = 2 then
    match h0, h1 with
    | some i, none => (((d.fixPhase now k al false).setIdx k r i).camOk k (r - 2) true).angSet now k 3
    | none, some i => (((d.fixPhase now k al true).setIdx k r i).camOk k (r - 2) true).angSet now k 3
    | some _, some _ => d
    | none, none => (d.incSat (F.ANG_CNT_B_CAMERR k)).irq (P.ANG k) 6
  else
    match h0 with
    | some i =>
      let d1 := (d.setIdx k r i).camOk k (r - 2) true
      if st = 4 ∧ h1 = none then d1.angSet now k 3 else d1
    | none =>
      let d1 := (d.incSat (F.ANG_CNT_B_CAMERR k)).irq (P.ANG k) 6
      d1.drop now k (if st = 4 ∧ h1.isSome then 6 else 5)

/-- The table index of a wheel that is not checked at this edge, once known, keeps step with its edges (R139). -/
def Dev.stepIdx (d : Dev) (k r : Nat) : Dev :=
  match vGet (d.ang k).idx r with
  | some i => d.setIdx k r (tabStep (d.tab k r).length (d.ahead k) i)
  | none => d
/-- A cam edge in LIMP_CAM whose cam is not the source: it is no check (R111), and the first that matches gives the index (R139). -/
def Dev.sideCam (d : Dev) (k r : Nat) (e : WEdge) : Dev :=
  if (vGet (d.ang k).idx r).isSome then d.stepIdx k r
  else match d.hit k r (d.modelAngle k e.t) (d.eff (F.ANG_TOL_CAM_TOL k) * 65536) with
    | some i => d.setIdx k r i
    | none => d

/-- A redundant crank edge in SYNC, LIMP_CRANK or LIMP_CAM (R114). -/
def Dev.redEdge (d : Dev) (k : Nat) (e : WEdge) : Dev :=
  match d.hit k 1 (d.modelAngle k e.t) (d.eff (F.ANG_TOL_RED_TOL k) * 65536) with
  | some i =>
    let d1 := d.setIdx k 1 i
    if (d.ang k).redSeen then d1
    else (d1.updAng k (fun a => { a with redSeen := true })).put (F.ANG_STATE_RED_OK k) true
  | none =>
    let d1 := (((d.put (F.ANG_STATE_RED_OK k) false).incSat (F.ANG_CNT_C_REDERR k)).irq (P.ANG k) 11).rep (P.ANG k) 0x1A 1
    (d1.stepIdx k 1).updAng k (fun a => { a with redCyc := some 0 })

/-! ## Stall and resumption (R116, R118) -/

/-- STALL: no accepted edge on any bound wheel within STALL_T. -/
def Dev.stall (d : Dev) (now k : Nat) : Dev :=
  let a := d.ang k
  let st := d.angState k
  if d.running (P.ANG k) && decide (1 ≤ st) && decide (st ≤ 5) && decide (a.tAny + d.eff (F.ANG_STALL_STALL_T k) * 1280000 ≤ now) then
    -- R118: a domain that stalls with REVERSE at 1 resumes backward
    let d1 := d.setAng k { a with
      held := st, rsIdx := d.srcIdx k, rsT := none, rsD := none, rsFit := 0,
      rev := a.rev.map (fun v => { v with fwd := false }) }
    let d2 := d1.angSet now k 6
    d2.updAng k (fun a => { a with tSrc := none, dSrc := none })
  else d

/-- R118: gap search starts from STALLED; one-shots are flushed. `feed` gives it this primary edge. -/
def Dev.searchAgain (d : Dev) (now k : Nat) (e : WEdge) (feed : Bool) (cur : Nat) : Dev :=
  let d1 := (d.flush now k).angSet now k 1
  if feed then d1.gapEdge now k e.t e.hold cur else d1

/-- R118: an edge of the source held before the stall. -/
def Dev.resumeEdge (d : Dev) (now k : Nat) (e : WEdge) (cur : Nat) : Dev :=
  let a := d.ang k
  let t := d.srcTab k
  let L := d.cycleLen k
  let ah := d.ahead k
  let i := tabStep t.length ah a.rsIdx
  let dt := match a.rsT with | some p => some (e.t - p) | none => none
  let fits := match dt, a.rsD with
    | some x, some y => some (d.rawFits k (some (y, tabCov L t ah a.rsIdx)) x (tabCov L t ah i))
    | _, _ => none
  match fits with
  | some false => d.searchAgain now k e (d.srcRole k == 0) cur
  | _ =>
    let n := if fits = some true then a.rsFit + 1 else a.rsFit
    let d1 := d.setAng k { a with rsIdx := i, rsT := some e.t, rsD := dt, rsFit := n }
    if d.eff (F.ANG_DIR_N_FWD k) ≤ n then
      let d2 := d1.angSet now k a.held
      let j := d2.foldIdx k i
      let d3 := (d2.set (F.ANG_POS_INDEX k) j).updAng k (fun a => { a with tSrc := none })
      match a.rev with
      | some v =>
        let d4 := (d3.updAng k (fun a => { a with rev := some { v with prov := 0, per := none } })).set (F.ANG_STATE_RFWD k) 0
        d4.revTooth now k j e.t [] e
      | none => d3.takeTooth now k j e.t [] 1 true e.ratio e.hold false cur
    else d1

/-! ## An accepted edge reaches the tracker (R35) -/

/-- An accepted edge of the wheel in role r of domain k; `cur` is the coil current an edge-locked drive channel finds. -/
def Dev.angEdge (d : Dev) (now k r : Nat) (e : WEdge) (cur : Nat) : Dev :=
  let d1 := d.updAng k (fun a => { a with
    last := vSet a.last r (some (e.t, e.hold)), tAny := max a.tAny e.t,
    camAt := if 2 ≤ r then vSet a.camAt (r - 2) a.run else a.camAt,
    camLost := if 2 ≤ r then vSet a.camLost (r - 2) false else a.camLost })
  let src := d1.srcRole k
  let st := d1.angState k
  let d2 := if r = 0 ∧ src = 0 then d1.put (F.ANG_STATE_PRIM_OK k) true else d1
  let d3 :=
    if st = 0 then
      if r == 0 && !d2.flag (F.ANG_STATE_WAIT_REACQ k) && !(d2.get F.FCOL_DHOLD_HOLD).testBit k then
        (d2.angSet now k 1).gapEdge now k e.t e.hold cur
      else d2
    else if st = 6 then
      if d2.effB (F.ANG_CFG_STALL_RESUME k) && (d2.ang k).held != 1 then
        (if r = src then d2.resumeEdge now k e cur else d2)
      else if r = 0 then d2.searchAgain now k e true cur else d2
    else if st = 1 then (if r = 0 then d2.gapEdge now k e.t e.hold cur else d2)
    else if r = src then d2.sourceEdge now k e cur
    else if r ≤ 1 then
      let t := if (d2.ang k).rev.isNone && d2.pwdir k r && e.dir != d2.astern k then d2.revDetect now k e false false else d2
      if t.angState k ≠ st then t
      else if r = 1 then (if st = 2 then t else t.redEdge k e)
      else if st = 5 then t.gapEdge now k e.t e.hold cur else t
    else if st = 5 then d2.sideCam k r e
    else d2.camEdge now k r e
  (if r = d3.srcRole k then d3 else d3.notePer k r).updAng k (fun a => { a with upShadow := false, upPar := 0, parIdx := none })

/-! ## Losses (R112 to R114) -/

/-- CAM_LOST (R112): CAM_LOSS_CYC cycles of travel since cam c's last accepted edge. -/
def Dev.camLostEv (d : Dev) (now k c : Nat) : Dev :=
  let a := d.ang k
  let st := d.angState k
  if d.roleEn k (c + 2) && decide (2 ≤ st) && decide (st ≤ 5) && !vGet a.camLost c
      && decide (vGet a.camAt c + d.eff (F.ANG_LOSS_CAM_LOSS_CYC k) * d.cycleLen k ≤ a.run) then
    let d1 := ((d.setAng k { a with camLost := vSet a.camLost c true }).camOk k c false).rep (P.ANG k) 0x18 1
    let allLost := (List.range 3).all (fun c => !d1.roleEn k (c + 2) || vGet (d1.ang k).camLost c)
    if allLost && st == 3 && d.fourStroke k then
      (if d.effB (F.ANG_CFG_LIMP_CRANK_EN k) then d1.angSet now k 4 else d1.drop now k 8)
    else d1
  else d

/-- PHASE_UNKNOWN (R113). -/
def Dev.phaseUnknown (d : Dev) (now k : Nat) : Dev :=
  let a := d.ang k
  if d.angState k == 2 && !a.phaseTold && decide (a.phaseAt + d.eff (F.ANG_LOSS_PHASE_TO k) * halfCycle ≤ a.run) then
    let d1 := (d.setAng k { a with phaseTold := true }).rep (P.ANG k) 0x19 0
    if d.effB (F.ANG_CFG_LIMP_CRANK_EN k) && d.effB (F.ANG_CFG_GUESS_EN k) then
      (d1.fixPhase now k (d1.theta k now) (d.effB (F.ANG_CFG_GUESS_PH k))).angSet now k 4
    else d1
  else d

/-- The angle jumps to the last tooth of a new source (R114): no period ends there. -/
def Dev.jumpTo (d : Dev) (now k r i cur : Nat) : Dev :=
  let (t, hold) := (vGet (d.ang k).last r).getD (now, false)
  let d1 := (d.set (F.ANG_POS_INDEX k) i).updAng k (fun a => { a with tSrc := none })
  d1.takeTooth now k i t [] 1 true 0 hold false cur

/-- The OK cam with the most teeth whose index is known, the lowest number on a tie. -/
def Dev.bestCam (d : Dev) (k : Nat) : Option Nat :=
  let ok := fun r => (d.get (F.ANG_STATE_CAM_OK k)).testBit (r - 2) && (vGet (d.ang k).idx r).isSome
  [2, 3, 4].foldl (fun m r => if !ok r then m else match m with
    | some q => if (d.tab k q).length < (d.tab k r).length then some r else m
    | none => some r) none

/-- PRIM_LOST (R114): no edge of the crank that is the source within CRANK_LOSS × p. -/
def Dev.primLost (d : Dev) (now k cur : Nat) : Dev :=
  let a := d.ang k
  let st := d.angState k
  let src := d.srcRole k
  match a.tSrc, d.predFor k src with
  | some t, some (p, _) =>
    -- a primary that is lost no longer has a known index (R139)
    let lose := fun (d : Dev) => d.updAng k (fun a => { a with idx := vSet a.idx 0 none })
    if d.running (P.ANG k) && decide (2 ≤ st) && decide (st ≤ 4) && decide (src ≤ 1)
        && decide (t + d.eff (F.ANG_LOSS_CRANK_LOSS k) * p ≤ now) then
      match src, st, vGet a.idx 1, d.flag (F.ANG_STATE_RED_OK k) with
      | 0, 3, some i, true | 0, 4, some i, true =>
        let d1 := ((lose (d.put (F.ANG_STATE_PRIM_OK k) false)).rep (P.ANG k) 0x1B 1).predClear now k
        (d1.set (F.ANG_STATE_SRC k) 1).jumpTo now k 1 i cur
      | _, _, _, _ =>
        match d.bestCam k with
        | some r =>
          if st ≠ 2 ∧ d.effB (F.ANG_CFG_LIMP_CAM_EN k) then
            let i := (vGet a.idx r).getD 0
            let d1 := ((lose d).predClear now k).set (F.ANG_STATE_SRC k) r
            (d1.angSet now k 5).jumpTo now k r i cur
          else d.drop now k 7
        | none => d.drop now k 7
    else d
  | _, _ => d

/-! ## Enabling and disabling (R99, R103) -/

/-- R103 condition 1: the lowest role involved in a wrong binding. -/
def Dev.bindFault (d : Dev) (k : Nat) : Option Nat :=
  let used := (List.range 5).filter (fun r => d.roleEn k r && !d.follows k r)
  let other := fun w => d.get (F.WHL_BIND_ROLE w) != 0 && d.get (F.WHL_BIND_DOMAIN w) != k
  if !d.roleEn k 0 then some 0
  else used.find? (fun r => other (d.roleWhl k r) || used.any (fun q => q != r && d.roleWhl k q == d.roleWhl k r))

/-- The first entry of a table that meets a test. -/
def firstBad (n : Nat) (f : Nat → Bool) : Option Nat := (List.range n).find? f

/-- R107: does the gap sequence identify a unique position within one revolution? -/
def gapsUnique (n : Nat) (g : List Nat) : Bool :=
  let c := (List.range g.length).map (gapCount n true g)
  (List.range g.length).all (fun j => j == 0 || c.rotateLeft j != c)

/-- R103: the first failing condition as code, role, entry; the spec names no single entry for a binding, a count, an odd N, a table
without gap or an ambiguous one. -/
def Dev.ttCheck (d : Dev) (k : Nat) : Option (Nat × Nat × Option Nat) :=
  let L := d.cycleLen k
  let roles := (List.range 5).filter (fun r => d.roleEn k r)
  let scan := fun (code : Nat) (f : Nat → Option (Option Nat)) =>
    roles.findSome? (fun r => (f r).map (fun e => (code, r, e)))
  match d.bindFault k with
  | some r => some (1, r, none)
  | none =>
    let t := fun r => d.tabMem k r
    let p := t 0
    let n := if d.fourStroke k then p.length / 2 else p.length
    let gaps := (List.range n).filter (fun i => tabGap L p true i)
    (scan 2 (fun r => if d.roleN k r < 2 ∨ 512 < d.roleN k r then some none else none)).orElse (fun _ =>
    (scan 3 (fun r => (firstBad (t r).length (fun i => decide (L ≤ (t r).getD i 0))).map some)).orElse (fun _ =>
    (scan 4 (fun r => (firstBad (t r).length (fun i => i != 0 && decide ((t r).getD i 0 ≤ (t r).getD (i - 1) 0))).map some)).orElse (fun _ =>
    (scan 5 (fun r => if d.fourStroke k && decide (r ≤ 1) then
        (if (t r).length % 2 = 1 then some none
         else (firstBad ((t r).length / 2) (fun i => (t r).getD (i + (t r).length / 2) 0 != (t r).getD i 0 + halfCycle)).map
           (fun i => some (i + (t r).length / 2)))
      else none)).orElse (fun _ =>
    (if gaps.isEmpty then some (6, 0, none) else none).orElse (fun _ =>
    if gapsUnique n gaps then none else some (7, 0, none))))))

/-- ANG_ENABLE (R99): validation, then the wheels are bound and the domain enters NOSYNC; PREDd is enabled with it (R155). -/
def Dev.angEnable (d : Dev) (now k : Nat) : Dev :=
  match d.ttCheck k with
  | some (code, role, entry) =>
    (((if entry.isSome then d else d.tickFree).setReg (R.ANG_TTSTAT k)
        (w32 (code * 65536 + role * 8192 + entry.getD d.fresh % 512))).irq (P.ANG k) 10).rep (P.ANG k) 0x14 0
  | none =>
    let tabs : Vector (List Nat) 5 := (Vector.range 5).map (fun r => if d.roleEn k r then d.tabMem k r else [])
    let a : Ang := { tabs := tabs, shTabs := tabs, tAny := now, cmdAct := (d.ang k).cmdAct, fwdLeft := d.eff (F.ANG_DIR_N_FWD k) }
    let d1 := ((d.setReg (R.ANG_TTSTAT k) 0).put (F.PCTL_ENABLE (P.ANG k)) true).put (F.PCTL_ENABLE (P.PRED k)) true
    let d2 := (List.range 5).foldl (fun (d : Dev) r => if d.roleEn k r && !d.follows k r then
      (d.set (F.WHL_BIND_ROLE (d.roleWhl k r)) (r + 1)).set (F.WHL_BIND_DOMAIN (d.roleWhl k r)) k else d) d1
    let d3 := ((d2.setReg (R.ANG_STATE k) 0).setAng k a).setReg (R.ANG_POS k) 0
    ((d3.renorm k).angSet now k 0)

/-- ENABLE written to 0, or a block restart begins (R99): the outputs end as for a drop and the wheels are unbound. -/
def Dev.angStop (d : Dev) (now k : Nat) : Dev :=
  let d1 := (d.domainSafeEnd now k).flush now k
  let d2 := (List.range 8).foldl (fun (d : Dev) w =>
    if d.get (F.WHL_BIND_ROLE w) ≠ 0 ∧ d.get (F.WHL_BIND_DOMAIN w) = k then d.setReg (R.WHL_BIND w) 0 else d) d1
  ((d2.angSet now k 0).put (F.PCTL_ENABLE (P.ANG k)) false).followMode now

/-- SW_DROP (R117, R119): ANG_CTL.SYNC_DROP. -/
def Dev.swDrop (d : Dev) (now k : Nat) : Dev := d.drop now k 11
/-- REACQ (R117). -/
def Dev.reacq (d : Dev) (k : Nat) : Dev := d.put (F.ANG_STATE_WAIT_REACQ k) false
def Dev.angClr (d : Dev) (k : Nat) : Dev := ((d.setReg (R.ANG_CNT_A k) 0).setReg (R.ANG_CNT_B k) 0).setReg (R.ANG_CNT_C k) 0
/-- ANG_POS_READ (R128): the latches of one tooth. -/
def Dev.angLatch (d : Dev) (who : Initiator) (k : Nat) : Dev :=
  d.setLatches who [(R.ANG_TANGLE k, d.reg (R.ANG_TANGLE k)), (R.ANG_CYC k, d.reg (R.ANG_CYC k))]

/-! ## Predictor commands -/

/-- HOLD_LIMIT (R141): the model angle reaches θ_hold. -/
def Dev.holdLimit (d : Dev) (now k : Nat) : Dev :=
  let x := d.pred k
  let M := d.angRange k
  if x.valid && !x.held && !d.flag (F.ANG_STATE_REVERSE k)
      && decide ((angDiff M x.thHold x.thk : Int) ≤ advanceOf x.omega x.acc x.sNext x.dNext (now - x.tk)) then
    (((d.setPred k { x with held := true }).put (F.PRED_STAT_HELD k) true).incSat (F.PRED_CNT_A_HOLD k)).irq (P.PRED k) 1
  else d

/-- PRED_ANGLE_READ (R140 to R142): the value and its time; the domain shows θ of the latest tooth without a model (R131). -/
def Dev.predAngleRead (d : Dev) (now : Nat) (who : Initiator) (k : Nat) : Dev × Word :=
  let v := d.theta k now
  (d.setLatches who [(R.PRED_ATS_LO k, lo32 now), (R.PRED_ATS_HI k, hi32 now)], w32 v)

/-- PRED_TK_LO_READ (R156). -/
def Dev.predLatch (d : Dev) (who : Initiator) (k : Nat) : Dev :=
  d.setLatches who ([R.PRED_TK_HI k, R.PRED_THK k, R.PRED_OMG_LO k, R.PRED_OMG_HI k, R.PRED_ACC_LO k, R.PRED_ACC_HI k, R.PRED_PNEXT k,
    R.PRED_DEFF k].map (fun a => (a, d.reg a)))

/-- DUNE_RESET (R156). -/
def Dev.duneReset (d : Dev) (k : Nat) : Dev :=
  if d.flag (F.PRED_DUNE_LEARN k) then d.rep (P.PRED k) 0x28 0
  else ((List.range 512).foldl (fun d i => d.setDune k i 0x8000 0 (bitsOf (d.duneTofs k i) 16)) d).renorm k
def Dev.predClr (d : Dev) (k : Nat) : Dev := ((d.setReg (R.PRED_CNT_A k) 0).setReg (R.PRED_CNT_B k) 0).setReg (R.PRED_DSTAT k) 0

/-- R146: is a write of word `a` of the profile of domain k denied? -/
def Dev.duneBars (d : Dev) (k a : Nat) : Bool := decide (a % 8 < 4) && d.flag (F.PRED_DUNE_LEARN k)
/-- DUNE_PROFILE_WRITE (R145, R146): word `a` of the profile of domain k, permitted. -/
def Dev.duneWrite (d : Dev) (k a : Nat) (w : Word) : Dev :=
  let i := a % 0x1000 / 8
  if a % 8 < 4 then
    (d.setDune k i (clampN (wordGet w 31 16) 0x4000 0xC000) (wordGet w 15 8) (bitsOf (d.duneTofs k i) 16)).renorm k
  else d.setDune k i (d.duneRatio k i) (d.duneCnt k i) (wordGet w 15 0)

/-- A block restart of PREDd (R155). -/
def Dev.predRestart (d : Dev) (now k : Nat) : Dev :=
  let d1 := if d.enabled (P.ANG k) then d.syncDrop now k 11 (some 0x26) else d
  (d1.setPred k { rep := (d1.pred k).rep }).renorm k

end Sys2Proof.Machine
end

