-- ==== Sys2Proof/Machine/Whl.lean ====
section
/-!
DEFINITION. Machine/Whl.lean: wheel inputs (03_wheel_inputs.md): front ends and glitch filter (R72 to R80), pulse-width direction (R76, R77),
the qualifier (R82 to R87), the holding queue (R86, R566), commits (R89), sensor checks (R93).
-/

namespace Sys2Proof.Machine

def Dev.whl (d : Dev) (n : Nat) : Whl := vGet d.whls n
def Dev.setWhl (d : Dev) (n : Nat) (x : Whl) : Dev := { d with whls := vSet d.whls n x }

/-- Does the front end capture (R91, R566)? -/
def Dev.captures (d : Dev) (n : Nat) : Bool := d.running (P.WHL n)
def Dev.glitchTu (d : Dev) (n : Nat) : Nat := max (d.eff (F.WHL_FILT_GLITCH n)) 32 * 16
/-- The edge's timestamp: the comparator's less DLY (R79). -/
def Dev.edgeTs (d : Dev) (n t : Nat) : Nat := t - d.eff (F.WHL_DLY_DLY n)

/-- R73: is a half-wave of this peak (2^-16 mV) above the arming threshold? -/
def Dev.arms (d : Dev) (n peak : Nat) : Bool :=
  decide (d.eff (F.WHL_VR_FLOOR n) * 65536 < peak) && decide (d.eff (F.WHL_VR_ARM_PCT n) * (d.whl n).peak < peak * 100)

/-- Does EDGE take a transition to this level (R72)? In VR the level is the sign of the signal. -/
def Dev.takesEdge (d : Dev) (n : Nat) (lvl : Bool) : Bool :=
  match d.eff (F.WHL_CFG_EDGE n) with
  | 0 => !lvl | 1 => lvl | _ => true

/-- LEVEL after the front end's setting goes from `old` to `new` (R89): INVERT acts in DIG and PWDIR. What another comparator (VR against the
thresholds of DIG_LVL, or one pair of thresholds against the other) sees of the present signal no command carries: it is free. -/
def Dev.levelUnder (d : Dev) (n : Nat) (old new : Word) : Bool :=
  let vr := fun (w : Word) => wordGet w 10 8 == 0
  let inv := fun (w : Word) => !vr w && w.getLsbD 16
  if vr old != vr new || (!vr new && old.getLsbD 15 != new.getLsbD 15) then d.fresh % 2 == 1
  else xor (d.flag (F.WHL_STAT_LEVEL n)) (inv old != inv new)

/-- R59, R89: a commit of the page; one that changes TYPE, EDGE, INVERT or DIG_LVL starts the front end afresh. -/
def Dev.whlCommit (d : Dev) (n : Nat) : Dev :=
  let mask : Word := 0x00019F00
  let old := d.committed (R.WHL_CFG n) &&& mask
  let d1 := d.commit (P.WHL n)
  let new := d1.committed (R.WHL_CFG n) &&& mask
  let d2 := d1.setWhl n { d1.whl n with commitBy := if d1.flag (F.PCTL_SHDW_HOLD (P.WHL n)) then (d1.whl n).commitBy else none }
  if old = new then d2
  else
    let lvl := d2.levelUnder n old new
    ((d2.tickFree.put (F.WHL_STAT_LEVEL n) lvl).put (F.WHL_STAT_ARMED n) false).setWhl n
      { d2.whl n with kept := lvl, cand := none, more := [], halfPeak := 0, lead := none, width := none }

/-- R73: has a half-wave of this peak (2^-16 mV) passed the hysteresis band, HYST × 5 mV? -/
def Dev.pastBand (d : Dev) (n peak : Nat) : Bool := decide (d.eff (F.WHL_VR_HYST n) * 5 * 65536 < peak)

/-- The glitch filter of DIG and PWDIR (R79) at a transition: a candidate whose level lasted less than GLITCH is discarded; one that lasted stays
to be confirmed, and the new transition stands behind it. The result: the candidates in order, and whether one was discarded. -/
def filterStep (now glitch : Nat) : List Nat → List Nat × Bool
  | [] => ([now], false)
  | [c] => if now < c + glitch then ([], true) else ([c, now], false)
  | c :: r => let q := filterStep now glitch r; (c :: q.1, q.2)

/-- WHEEL_TRANSITION (R73, R75, R79): the comparator of input n goes to `pin`; in VR mode `pin` is the sign of the signal and `peak` the peak of
the half-wave that ends (2^-16 mV): whether that half-wave armed, and whether it passed the hysteresis band, follows from it. -/
def Dev.wheelTransition (d : Dev) (now n : Nat) (pin : Bool) (peak : Nat) : Dev :=
  let x := d.whl n
  let vr := d.eff (F.WHL_CFG_TYPE n) == 0
  let lvl := if vr then pin else xor pin (d.effB (F.WHL_CFG_INVERT n))
  let d0 := d.put (F.WHL_STAT_LEVEL n) lvl
  if !d.captures n then d0.setWhl n { x with kept := lvl, cand := none, more := [] }
  else if vr then
    let band := d.pastBand n peak
    let early := match x.cand with | some c => decide (now < c + d.glitchTu n) | none => false
    let d1 := if x.cand.isSome && early && band then d0.incSat (F.WHL_CNT_MISC_GLITCH n) else d0
    let cand := if early || !band then none else x.cand
    let y := { x with kept := lvl, cand := cand }
    let armed := d.flag (F.WHL_STAT_ARMED n) || d.arms n peak
    if d.takesEdge n lvl && armed && cand.isNone then
      (d1.setWhl n { y with cand := some now, halfPeak := max x.halfPeak peak }).put (F.WHL_STAT_ARMED n) true
    else d1.setWhl n y
  else
    let l := x.cand.toList ++ x.more
    if lvl = xor x.kept (l.length % 2 == 1) then d0
    else
      let q := filterStep now (d.glitchTu n) l
      let d1 := if q.2 then d0.incSat (F.WHL_CNT_MISC_GLITCH n) else d0
      d1.setWhl n { x with cand := q.1.head?, more := q.1.tail }

/-! ## The qualifier -/

inductive Verdict where
  | accept (ratio : Nat) (late : Bool)
  | short
  | noise
  deriving DecidableEq, Repr

/-- R82 for an edge at t, with the wheel's last accepted edge and its predicted period, a fraction in tu. -/
def qualify (t : Nat) (tLast : Option Nat) (p : Option (Nat × Nat)) (mint wmin wmax : Nat) (bypass : Bool) : Verdict :=
  match tLast with
  | none => .accept 0 p.isSome
  | some l =>
    let dt := t - l
    if dt < mint then .short
    else match p, bypass with
      | some (p, q), false =>
        if dt * 100 * q ≤ wmin * p then .noise
        else .accept (if p = 0 then 0xFFFF else min (dt * 4096 * q / p) 0xFFFF) (decide (wmax * p < dt * 100 * q))
      | _, _ => .accept 0 false

/-- R472: an edge accepted on a bound wheel ends SERVICE, after an activation in progress. -/
def Dev.serviceExit (d : Dev) (now : Nat) : Dev :=
  if d.mode = 9 then
    (if d.flag F.UPD_ASTAT_PEND then { d with sys := { d.sys with svcExit := true } } else d.enterMode now d.runningMode)
  else d

/-- The edges a step hands to trackers: domain, role, edge. -/
abbrev Handed := List (Nat × Nat × WEdge)

/-- Deliver one edge of wheel n to its tracker; the page commits after it (R89). -/
def Dev.whlDeliver (d : Dev) (now n : Nat) (e : WEdge) (cur : Nat) : Dev × Handed :=
  let role := d.get (F.WHL_BIND_ROLE n)
  if role = 0 then (d, [])
  else
    let k := d.get (F.WHL_BIND_DOMAIN n)
    (((d.angEdge now k (role - 1) e cur).serviceExit now).whlCommit n, [(k, role - 1, e)])

/-- Edges held for domain k on wheels that are not frozen, each with its wheel, in timestamp order, then by role (R35). -/
def Dev.heldEdges (d : Dev) (k : Nat) : List (Nat × WEdge) :=
  let l := (List.range 8).flatMap (fun n =>
    if d.get (F.WHL_BIND_ROLE n) ≠ 0 ∧ d.get (F.WHL_BIND_DOMAIN n) = k ∧ !d.frozen (P.WHL n) then (d.whl n).q.map (fun e => (n, e)) else [])
  sortBy (fun a b => decide (a.2.t < b.2.t)
    || (a.2.t == b.2.t && decide (d.get (F.WHL_BIND_ROLE a.1) < d.get (F.WHL_BIND_ROLE b.1)))) l

/-- HOLDING_QUEUE_DELIVER (R86). -/
def Dev.holdingDeliver (d : Dev) (now k : Nat) : Dev × Handed :=
  if d.frozen (P.ANG k) || d.restarting (P.ANG k) then (d, [])
  else
    let l := d.heldEdges k
    let d1 := (List.range 8).foldl (fun (d : Dev) n => if l.any (fun e => e.1 == n) then d.setWhl n { d.whl n with q := [] } else d) d
    l.foldl (fun s e => let r := s.1.whlDeliver now e.1 e.2 0; (r.1, s.2 ++ r.2)) (d1, [])

/-- R87: a W_MIN discard; the report comes once in a block, at the first that leaves the block's count above LIMIT. -/
def Dev.noiseEdge (d : Dev) (n : Nat) : Dev :=
  let x := d.whl n
  let lim := d.get (F.WHL_NOISE_LIM_LIMIT n)
  let tell := decide (lim ≠ 0) && decide (lim < x.blkNoise + 1) && !x.blkTold
  let d1 := ((d.incSat (F.WHL_CNT_NOISE_NOISE n)).irq (P.WHL n) 1).setWhl n { x with blkNoise := x.blkNoise + 1, blkTold := x.blkTold || tell }
  if tell then (d1.irq (P.WHL n) 3).rep (P.WHL n) 0x11 0 else d1

/-- The books of an accepted edge (R82, R87, R92). -/
def Dev.acceptEdge (d : Dev) (now n : Nat) (e : WEdge) : Dev :=
  let x := d.whl n
  let wrap := x.blkAcc + 1 = 256
  let d1 := d.setWhl n { x with tLast := some e.t, blkAcc := if wrap then 0 else x.blkAcc + 1,
                                blkNoise := if wrap then 0 else x.blkNoise, blkTold := !wrap && x.blkTold }
  let d2 := ((d1.setLH (R.WHL_LAST_LO n) (R.WHL_LAST_HI n) e.t).setReg (R.WHL_RATIO n)
    (w32 (e.hold.toNat * 0x40000 + e.dir.toNat * 0x20000 + e.late.toNat * 0x10000 + e.ratio))).put (F.WHL_STAT_DIR n) e.dir
  let d3 := (d2.inc (F.WHL_CNT_ACC_ACC n)).irq (P.WHL n) 0
  let d4 := if e.late then (d3.incSat (F.WHL_CNT_MISC_LATE n)).irq (P.WHL n) 2 else d3
  d4.probe now 0x06 n e.ratio

/-- An edge that survived the glitch filter meets the qualifier, once what the tracker holds back is delivered and refitted (R84, R86). While the
tracker is frozen or restarting no refit can run, and edges are compared with the prediction formed last before that
(notes/assumptions/83.md). An edge that finds the holding queue full is discarded: it leaves t_last and the block's books as they are
(R83), so that the next one is late (notes/assumptions/33.md). `up` and `par` are upsets its tooth meets (R124, R152), `cur` the coil current an
edge-locked drive channel finds. -/
def Dev.whlQualify (d : Dev) (now n t : Nat) (dir : Bool) (up : Bool) (par cur : Nat) : Dev × Handed :=
  let role := d.get (F.WHL_BIND_ROLE n)
  let k := d.get (F.WHL_BIND_DOMAIN n)
  let (d, h1) := if role = 0 then (d, []) else d.holdingDeliver now k
  let x := d.whl n
  let p := if role = 0 then none else d.predFor k (role - 1)
  let d0 := d.put (F.WHL_STAT_PRED_VALID n) p.isSome
  match qualify t x.tLast p (d.eff (F.WHL_FILT_QUAL_MINT n) * 4096) (d.eff (F.WHL_QUAL_W_MIN n)) (d.eff (F.WHL_QUAL_W_MAX n))
      (d.effB (F.WHL_QUAL_QBYPASS n)) with
  | .short => (d0.incSat (F.WHL_CNT_NOISE_SHORT n), h1)
  | .noise => (d0.noiseEdge n, h1)
  | .accept ratio late =>
    let e : WEdge := { t := t, ratio := ratio, late := late, dir := dir, hold := d.flag F.TB_STAT_HOLDOVER, prev := x.tLast }
    if role = 0 then ((d0.acceptEdge now n e).whlCommit n, [])
    else if d.frozen (P.ANG k) || d.restarting (P.ANG k) then
      if x.q.length < 4 then let d1 := d0.acceptEdge now n e; (d1.setWhl n { d1.whl n with q := x.q ++ [e] }, [])
      else (((d0.incSat (F.WHL_CNT_DIAG_OVF n)).irq (P.WHL n) 4).rep (P.WHL n) 0x10 1, [])
    else
      let d2 := (d0.acceptEdge now n e).updAng k (fun a => { a with upShadow := up, upPar := par })
      let (d3, h2) := d2.whlDeliver now n e cur
      (d3, h1 ++ h2)

/-- The timestamp of an edge of input m that stands ready for the tracker: in DIG a candidate that has lasted GLITCH, in PWDIR a pulse whose
direction is known. In VR the pass of the band comes with the command that confirms. -/
def Dev.readyEdge (d : Dev) (now m : Nat) : Option Nat :=
  let x := d.whl m
  let thr := d.eff (F.WHL_DIR_PW_THR m) * 1280
  if !d.captures m then none
  else match d.eff (F.WHL_CFG_TYPE m) with
    | 0 => none
    | 1 => match x.cand with
      | some c => if c + d.glitchTu m ≤ now ∧ d.takesEdge m (!x.kept) = true then some (d.edgeTs m c) else none
      | none => none
    | _ => match x.lead, x.width with
      | some c, some w => if !x.given && decide (w < max (d.eff (F.WHL_DIR_PW_MAX m) * 1280) (thr + 1280)) then some (d.edgeTs m c) else none
      | some c, none => if !x.given && x.cand.isNone && decide (c + thr < now) then some (d.edgeTs m c) else none
      | none, _ => none

/-- R35: within a domain edges enter the tracker in timestamp order, by role at equal timestamps: is it the turn of the edge of input n with
timestamp t? Where it is not, the edge waits, and its command is sent again after the other's. -/
def Dev.itsTurn (d : Dev) (now n t : Nat) : Bool :=
  let role := d.get (F.WHL_BIND_ROLE n)
  let k := d.get (F.WHL_BIND_DOMAIN n)
  role == 0 || (List.range 8).all (fun m =>
    m == n || d.get (F.WHL_BIND_ROLE m) == 0 || d.get (F.WHL_BIND_DOMAIN m) != k || (match d.readyEdge now m with
      | some t' => decide (t < t') || (t == t' && decide (role < d.get (F.WHL_BIND_ROLE m)))
      | none => true))

/-- WHEEL_EDGE_CONFIRM (R73, R79, R80): the glitch filter confirms the candidate transition of input n; in VR mode `dip` is how far the signal has
gone since the crossing (mV), and the confirmation waits until it has passed the hysteresis band. -/
def Dev.wheelConfirm (d : Dev) (now n dip : Nat) (up : Bool) (par cur : Nat) : Dev × Handed :=
  let x := d.whl n
  match x.cand with
  | none => (d, [])
  | some c =>
    if !d.captures n || decide (now < c + d.glitchTu n) then (d, [])
    else
      let lvl := !x.kept
      let y := { x with cand := x.more.head?, more := x.more.tail, kept := lvl }
      match d.eff (F.WHL_CFG_TYPE n) with
      | 0 =>
       if !d.pastBand n (dip * 65536) || !d.itsTurn now n (d.edgeTs n c) then (d, [])
       else
        let lg := d.eff (F.WHL_VR_PK_AVG_LOG2 n)
        let avg := (Int.ofNat x.peak + Int.fdiv (Int.ofNat x.halfPeak - Int.ofNat x.peak) (2 ^ lg : Nat)).toNat
        let fl := 2 * d.eff (F.WHL_VR_FLOOR n) * 65536
        let d1 := ((d.setWhl n { x with cand := none, halfPeak := 0, peak := avg }).put (F.WHL_STAT_ARMED n) false).set (F.WHL_STAT_PEAK n)
          (min (avg / 65536) 4095)
        let d2 := if fl ≤ x.peak ∧ avg < fl then d1.irq (P.WHL n) 6 else d1
        d2.whlQualify now n (d.edgeTs n c) false up par cur
      | 1 =>
        if !d.takesEdge n lvl then (d.setWhl n y, [])
        else if !d.itsTurn now n (d.edgeTs n c) then (d, [])
        else (d.setWhl n y).whlQualify now n (d.edgeTs n c) false up par cur
      | _ =>
        if lvl then (d.setWhl n { y with lead := some c, width := none, given := false }, [])
        else (d.setWhl n { y with width := x.lead.map (c - ·) }, [])

/-- PWDIR_CLASSIFY (R76, R77): the pulse of input n ends, or its width has passed PW_THR (a trailing edge that the glitch filter still holds
ends the pulse where it stands). -/
def Dev.pwdirClassify (d : Dev) (now n : Nat) (up : Bool) (par cur : Nat) : Dev × Handed :=
  let x := d.whl n
  let thr := d.eff (F.WHL_DIR_PW_THR n) * 1280
  let mx := max (d.eff (F.WHL_DIR_PW_MAX n)) (d.eff (F.WHL_DIR_PW_THR n) + 1) * 1280
  let inv := d.effB (F.WHL_DIR_DIR_INV n)
  if !(match x.lead with | some c => x.given || (match x.width with | some w => decide (mx ≤ w) | none => false) || d.itsTurn now n (d.edgeTs n c) | none => true) then (d, [])
  else match x.lead, x.width with
  | some c, some w =>
    let d1 := d.setWhl n { x with lead := none, width := none, given := false }
    let d2 := if mx ≤ w then (d1.incSat (F.WHL_CNT_DIAG_DIAG n)).irq (P.WHL n) 5 else d1
    if !d.captures n || x.given || decide (mx ≤ w) then (d2, [])
    else d2.whlQualify now n (d.edgeTs n c) (xor (decide (thr < w)) inv) up par cur
  | some c, none =>
    let expired := match x.cand with
      | some tf => decide (c + thr < tf)
      | none => decide (c + thr < now)
    if d.captures n && !x.given && expired then
      (d.setWhl n { x with given := true }).whlQualify now n (d.edgeTs n c) (xor true inv) up par cur
    else (d, [])
  | none, _ => (d, [])

/-! ## Timers, sensor checks, controls -/

/-- WHL_COMMIT_TIMEOUT (R89). -/
def Dev.whlCommitTimeout (d : Dev) (now n : Nat) : Dev :=
  match (d.whl n).commitBy with
  | some t => if t ≤ now then d.whlCommit n else d
  | none => d

/-- WHL_OPEN and WHL_SHORT (R93): a condition present for 50 ms in VR mode. The check runs in VR mode while the front end captures; a status bit
found stays until SENSOR_CLEAR when TYPE leaves VR or the page is disabled or frozen, which the manual leaves open
(notes/assumptions/83.md). -/
def Dev.sensorFault (d : Dev) (n : Nat) (short : Bool) : Dev :=
  let f := if short then F.WHL_STAT_SENS_SHORT n else F.WHL_STAT_SENS_OPEN n
  if d.eff (F.WHL_CFG_TYPE n) = 0 ∧ d.captures n ∧ !d.flag f then
    ((d.put f true).irq (P.WHL n) 7).rep (P.WHL n) (if short then 0x13 else 0x12) 1
  else d
/-- SENSOR_CLEAR (R93). -/
def Dev.sensorClear (d : Dev) (n : Nat) (short : Bool) : Dev :=
  d.put (if short then F.WHL_STAT_SENS_SHORT n else F.WHL_STAT_SENS_OPEN n) false

/-- WHL_LAST_LO_READ (R92). -/
def Dev.whlLatch (d : Dev) (who : Initiator) (n : Nat) : Dev :=
  d.setLatches who [(R.WHL_LAST_HI n, d.reg (R.WHL_LAST_HI n)), (R.WHL_RATIO n, d.reg (R.WHL_RATIO n))]

/-- WHL_CLR (R92). -/
def Dev.whlClr (d : Dev) (n : Nat) : Dev :=
  (((d.setReg (R.WHL_CNT_ACC n) 0).setReg (R.WHL_CNT_NOISE n) 0).setReg (R.WHL_CNT_MISC n) 0).setReg (R.WHL_CNT_DIAG n) 0

/-- Capture stops (R91): the queue is discarded, t_last is invalid and the filter starts afresh. The peak average and the counts of the noise
block stay over ENABLE 0 and 1, of which the manual says nothing (notes/assumptions/83.md). -/
def Dev.whlStop (d : Dev) (n : Nat) : Dev :=
  let x := d.whl n
  (d.setWhl n { peak := x.peak, blkAcc := x.blkAcc, blkNoise := x.blkNoise, blkTold := x.blkTold, kept := d.flag (F.WHL_STAT_LEVEL n) }).put (F.WHL_STAT_ARMED n) false
/-- R51, R92: after the registers of a restarted page are reset, LEVEL shows the present level under the reset configuration; the peak
average and the noise block begin afresh. `old` is the device before the restart. -/
def Dev.whlRestarted (old d : Dev) (n : Nat) : Dev :=
  let lvl := if old.eff (F.WHL_CFG_TYPE n) = 0 then old.flag (F.WHL_STAT_LEVEL n) else d.fresh % 2 == 1
  (d.tickFree.setWhl n { kept := lvl }).put (F.WHL_STAT_LEVEL n) lvl
/-- Capture resumes after FREEZE (R566): t_last is invalid, the queue stays. -/
def Dev.whlThaw (d : Dev) (n : Nat) : Dev :=
  d.setWhl n { d.whl n with tLast := none, cand := none, more := [], lead := none, width := none, kept := d.flag (F.WHL_STAT_LEVEL n) }

end Sys2Proof.Machine
end

