-- ==== Sys2Proof/Machine/Sys.lean ====
section
/-!
DEFINITION. Machine/Sys.lean: the time base and stage meter (R17 to R31), the core supply (R21, R22), mode commands, the lead domain, the
safe state and its acknowledgement, and the ordered shutdown (R466 to R482).
-/

namespace Sys2Proof.Machine

/-! ## The error pin (R449) -/

/-- ERRn follows SWLVL outside MINW and SAFE. -/
def Dev.errPin (d : Dev) : Dev :=
  d.put F.FCOL_ERRPIN_PIN (d.flag F.FCOL_ERRPIN_SWLVL && d.fcol.minwEnd.isNone && d.mode != 11)

/-- An error event: ERRn goes low, SWLVL := 0 and MINW restarts. -/
def Dev.errEvent (d : Dev) (now : Nat) : Dev :=
  let d1 := d.put F.FCOL_ERRPIN_SWLVL false
  ({ d1 with fcol := { d1.fcol with minwEnd := some (now + d.get F.FCOL_ERRPIN_MINW * 12800) } }).errPin

/-! ## The safe state (R474, R475) -/

/-- PEND of `SYS_MODESTAT`: a shutdown or an update activation is in progress. -/
def Dev.sysPend (d : Dev) : Dev := d.put F.SYS_MODESTAT_PEND (d.sys.shut != 0 || d.sys.act)

/-- A cause of SAFE: `cause` names its bit. Entry ends every output, drops every domain without a report and latches the time. -/
def Dev.safeEnter (d : Dev) (now : Nat) (cause : Fld) : Dev :=
  if d.mode = 11 then d.put cause true
  else
    let d1 := (d.allOff now).enterMode now 11
    let d2 := (d1.syncDrop now 0 11 none).syncDrop now 1 11 none
    let d3 := if d2.sys.shut = 1 then { d2 with sys := { d2.sys with shut := 2 } } else d2
    let d4 := ((d3.put cause true).put F.SYS_SAFE_PREBOOT (!d.flag F.SYS_MODE_BOOTED)).setLH R.SYS_SAFE_TS_LO R.SYS_SAFE_TS_HI now
    ((d4.incSat F.SYS_CNT_A_SAFE).irq P.SYS 2).errEvent now

/-- R475: are the cause bits that are set all clear? -/
def Dev.causesClear (d : Dev) (now : Nat) : Bool :=
  let b := !d.flag F.SYS_SAFE_BROWNOUT || (match d.supply.vddcGoodSince with
    | some t => decide (t + 12800000 ≤ now)
    | none => false)
  let f := !d.flag F.SYS_SAFE_FCOL || d.fcol.src.all (fun e => e.2.act != 3 || !e.2.unack)
  b && f

/-- A refusal by SYS: kind MODE_REFUSED with a code. -/
def Dev.sysRefuse (d : Dev) (code : Nat) : Dev := d.rep P.SYS 0x01 0 code

def Dev.ackRes (d : Dev) (res : Nat) : Dev :=
  let d1 := ((d.put F.SYS_SAFEACK_FIRST false).set F.SYS_SAFEACK_OWNER 7).set F.SYS_SAFEACK_RES res
  if res = 0 then d1 else (d1.irq P.SYS 7).sysRefuse res

/-- SAFEACK_WRITE (R476). -/
def Dev.safeAck (d : Dev) (now : Nat) (who : Initiator) (w : Word) : Dev :=
  let first := d.flag F.SYS_SAFEACK_FIRST
  if w = 0x5AF0 ∧ !first then (d.put F.SYS_SAFEACK_FIRST true).set F.SYS_SAFEACK_OWNER who.code
  else if w = 0x0FA5 ∧ first ∧ d.get F.SYS_SAFEACK_OWNER = who.code then
    if d.mode ≠ 11 then d.ackRes 5
    else if !d.causesClear now then d.ackRes 1
    else if !(d.flag F.TB_STAT_REF_OK && d.flag F.TB_STAT_CAL_LOCK && !d.supply.vddaLow && !d.supply.vbLow) then d.ackRes 3
    else if !(d.stopped 0 && d.stopped 1) then d.ackRes 2
    else
      let d1 := ((d.put F.SYS_SAFE_BROWNOUT false).put F.SYS_SAFE_FCOL false).put F.SYS_SAFE_SW false
      let d2 := d1.enterMode now (if d.flag F.SYS_MODE_BOOTED then d.runningMode else 3)
      ((d2.ackRes 0).irq P.SYS 3).errPin
  else d.ackRes 4

/-! ## Mode commands (R470, R471) -/

/-- R471: is the command permitted from the present mode? -/
def Dev.modeFrom (d : Dev) (cmd : Nat) : Bool :=
  let m := d.mode
  match cmd with
  | 4 => m == 5 || m == 9
  | 5 => m == 4 || m == 9 || (m == 10 && d.flag F.SYS_SHUT_DONE && !d.flag F.SYS_SHUT_PWROFF)
  | 9 => m == 5
  | 10 => decide (4 ≤ m) && decide (m ≤ 9)
  | 11 => decide (3 ≤ m) && decide (m ≤ 10)
  | _ => false

/-- The first refusal found: 0 none. -/
def Dev.modeCheck (d : Dev) (key cmd : Nat) : Nat :=
  if key ≠ 0x4D ∨ !(cmd == 4 || cmd == 5 || cmd == 9 || cmd == 10 || cmd == 11) then 6
  else if d.flag F.SYS_MODESTAT_PEND then 5
  else if !d.modeFrom cmd then 1
  else if cmd = 9 ∧ !d.flag F.SYS_SVC_ALLOW then 4
  else if cmd = 5 ∧ d.mode = 4 ∧ !d.enabled (P.ANG (d.get F.SYS_MODE_LEAD)) then 3
  else if (cmd = 4 ∨ cmd = 9) ∧ !(d.stopped 0 && d.stopped 1) then 2
  else 0

/-- R481 step 1. -/
def Dev.shutStart (d : Dev) (now : Nat) : Dev :=
  let d1 := d.put F.SYS_SHUT_DONE false
  let d2 : Dev := { d1 with sys := { d1.sys with shut := 1, shutBy := now + clampN (d.get F.SYS_SHUT_SHUT_T) 1 10000 * 12800000 } }
  d2.sysPend.enterMode now 10

/-- A write of `SYS_MODECMD`. -/
def Dev.modeCmd (d : Dev) (now key cmd : Nat) : Dev :=
  let d0 := d.set F.SYS_MODESTAT_LASTCMD cmd
  let code := d.modeCheck key cmd
  if code ≠ 0 then (((d0.set F.SYS_MODESTAT_REFUSE code).incSat F.SYS_MODESTAT_REFUSED).irq P.SYS 1).sysRefuse code
  else
    let d1 := d0.set F.SYS_MODESTAT_REFUSE 0
    match cmd with
    | 4 => d1.enterMode now 4
    | 5 => d1.enterMode now d1.runningMode
    | 9 => d1.enterMode now 9
    | 10 => d1.shutStart now
    | _ => d1.safeEnter now F.SYS_SAFE_SW

/-- LEAD_WRITE (R468). -/
def Dev.leadWrite (d : Dev) (now k : Nat) : Dev := (d.set F.SYS_MODE_LEAD k).followMode now

/-- Is every DRV and IGN channel idle, with no committed edge waiting for its release (R481)? -/
def Dev.outputsIdle (d : Dev) : Bool :=
  d.drvs.all (fun x => x.st == 0 && x.waits.isEmpty) && d.igns.all (fun x => !x.high) &&
    (List.range 72).all (fun c => (d.chan c).pend.isNone && (d.chan c).q.isEmpty && (d.chan c).back.isEmpty)

/-- SHUTDOWN_DRAIN_END (R481 step 2): all channels idle, or SHUT_T elapsed. -/
def Dev.drainEnd (d : Dev) (now : Nat) : Dev :=
  if d.sys.shut = 1 ∧ (d.outputsIdle = true ∨ d.sys.shutBy ≤ now) then
    let d1 := ((d.syncDrop now 0 11 none).syncDrop now 1 11 none).boostSafe
    let d2 : Dev := { d1 with sys := { d1.sys with shut := 2 } }
    d2.inhibitOutputs now
  else d

/-- SHUTDOWN_DONE (R481 steps 3 to 5). -/
def Dev.shutDone (d : Dev) : Dev :=
  if d.sys.shut = 2 then
    let d1 : Dev := { d with sys := { d.sys with shut := 0 } }
    let d2 := if d.flag F.SYS_SHUT_PWROFF then d1.put F.OPWR_WAKE_SYSHOLD false else d1
    (((d2.put F.SYS_SHUT_DONE true).sysPend).incSat F.SYS_CNT_A_SHUTDOWN).irq P.SYS 6
  else d

/-- BOOT_FAIL (R480). -/
def Dev.bootFail (d : Dev) (code : Nat) : Dev :=
  if d.mode = 3 ∧ d.sys.booting then
    ({ d.set F.SYS_BOOTSTAT_CODE code with sys := { d.sys with booting := false } }).sysRefuse code
  else d
/-- REBOOT (R480): boot again from step 3. -/
def Dev.reboot (d : Dev) : Dev :=
  if d.mode = 3 then { d.set F.SYS_BOOTSTAT_CODE 0 with sys := { d.sys with booting := true } } else d
/-- BOOT_COMPLETE (R479): the images present start, and the mode is READY or CONFIG by AUTOREADY. It waits for the time base. -/
def Dev.bootComplete (d : Dev) (now : Nat) (auto : Bool) (us : Nat) : Dev :=
  if d.mode = 3 ∧ d.sys.booting ∧ d.flag F.TB_STAT_CAL_LOCK then
    let d1 := (d.set F.SYS_BOOTSTAT_TIME (min us 65535)).put F.SYS_MODE_BOOTED true
    let d2 : Dev := { d1 with sys := { d1.sys with booting := false } }
    (d2.enterMode now (if auto then d2.runningMode else 4)).irq P.SYS 5
  else d
/-- SYS_CLR (R482). -/
def Dev.sysClr (d : Dev) : Dev := (d.setReg R.SYS_CNT_A 0).set F.SYS_MODESTAT_REFUSED 0

/-! ## Stage meter (R17 to R20) -/

/-- The mean of the readings, rounded half up. -/
def meanOf (l : List Nat) : Nat := if l = [] then 0 else (2 * l.foldl (· + ·) 0 + l.length) / (2 * l.length)

/-- STAGE_METER_WINDOW: `stage` the window's stage time in ps × 16, `mv` the core supply (R18). Two points are the model's: STAGE is the
moving mean of the latest 2^AVG_LOG2 windows, of fewer while there are not so many; CLR acts at the window's end before that window's own
reading enters MIN and MAX (notes/assumptions/82.md). -/
def Dev.stageWindow (d : Dev) (now stage mv : Nat) : Dev :=
  let n := 2 ^ min (d.get F.SYS_STGM_CTL_AVG_LOG2) 10
  let h := (min stage 0xFFFFF :: d.supply.stgHist).take 1024
  let v := meanOf (h.take n)
  let d1 : Dev := { d with supply := { d.supply with stgHist := h } }
  let d2 := if d.flag F.SYS_STGM_CTL_CLR then
      ((d1.setReg R.SYS_STGM_MIN 0xFFFFF).setReg R.SYS_STGM_MAX 0).put F.SYS_STGM_CTL_CLR false
    else d1
  let d3 := ((d2.setReg R.SYS_STGM_NOW (w32 v)).setReg R.SYS_STGM_MIN (w32 (min v (d2.reg R.SYS_STGM_MIN).toNat))).setReg
    R.SYS_STGM_MAX (w32 (max v (d2.reg R.SYS_STGM_MAX).toNat))
  let d4 := if decide (16 * d.get F.SYS_STGM_CTL_LIMIT < v) && !d.flag F.SYS_STGM_STAT_SLOW then
      (d3.put F.SYS_STGM_STAT_SLOW true).irq P.SYS 4
    else d3
  let d5 := d4.set F.SYS_VMON_VDDC (min mv 4095)
  (d5.probe now 0x07 0 v).probe now 0x08 0 (min mv 4095 : Nat)

/-- STGM_CLR: the bit stands until the window's end. -/
def Dev.stgmClr (d : Dev) : Dev := d.put F.SYS_STGM_CTL_CLR true

/-! ## Core supply (R21, R22) -/

def Dev.vddcUnder (d : Dev) : Dev :=
  if d.supply.under then d
  else
    let d1 := (d.put F.SYS_STGM_STAT_UNDERSPEC true).put F.SYS_VMON_UNDERSPEC true
    ({ d1 with supply := { d1.supply with under := true } }).rep P.SYS 0x08 1

/-- VDDC_UNDERSPEC: VDDC has fallen to `mv`, below 0.72 V. -/
def Dev.vddcFall (d : Dev) (mv : Nat) : Dev :=
  if mv < 720 then
    let d1 : Dev := if mv < 680 then { d with supply := { d.supply with vddcGoodSince := none } } else d
    d1.vddcUnder
  else d

/-- BROWNOUT: VDDC has fallen through 0.65 V. -/
def Dev.brownout (d : Dev) (now : Nat) : Dev :=
  if d.supply.brown then d
  else
    let d0 := d.vddcUnder
    let d1 : Dev := { d0 with supply := { d0.supply with brown := true, vddcGoodSince := none } }
    ((d1.put F.SYS_VMON_BROWNOUT true).rep P.SYS 0x09 2).safeEnter now F.SYS_SAFE_BROWNOUT

/-- VDDC_RECOVER: VDDC has risen to `mv`; each rising threshold stands 30 mV above its falling one. -/
def Dev.vddcRecover (d : Dev) (now mv : Nat) : Dev :=
  let d1 : Dev := if 680 ≤ mv then
      { d with supply := { d.supply with brown := false, vddcGoodSince := some (d.supply.vddcGoodSince.getD now) } }
    else d
  if 750 ≤ mv then
    let d2 := (d1.put F.SYS_STGM_STAT_UNDERSPEC false).put F.SYS_VMON_UNDERSPEC false
    { d2 with supply := { d2.supply with under := false } }
  else d1

/-! ## The time base (R26 to R31) -/

/-- The count goes on in holdover. `ok`: edges still arrive, as while a restart of TBASE calibrates anew (R28); `told`: it is a loss, which a
change of source is not (R31). -/
def Dev.refLoss (d : Dev) (ok told : Bool) : Dev :=
  let d1 := (((d.put F.TB_STAT_REF_OK ok).put F.TB_STAT_HOLDOVER true).put F.TB_STAT_CAL_LOCK false).put F.TB_STAT_SLEW false
  let d2 := d1.setReg R.TB_SLEW 0
  if told then (d2.incSat F.TB_LOSS_LOSS_CNT).rep P.TBASE 0x0A 2 else d2

/-- REFERENCE_LOSS (R26): edges that arrived arrive no more, whether or not a calibration was running. -/
def Dev.referenceLoss (d : Dev) : Dev := if d.flag F.TB_STAT_REF_OK then d.refLoss false true else d

/-- The count the reference implies: the nearest multiple of 512, the higher of two. -/
def impliedCount (now : Nat) : Nat := (now + 256) / 512 * 512

/-- REFERENCE_RELOCK (R26): the device and the count, which steps forward or slews; `span` the raw span as the calibrator has it
at the lock. `TB_STAT.REF_SRC`, the source in use, changes here and not at the write of REFSEL: between them no source is in use, and the
manual does not say what the bit shows (notes/assumptions/81.md). -/
def Dev.relock (d : Dev) (now span : Nat) : Dev × Nat :=
  if d.flag F.TB_STAT_HOLDOVER then
    let i := impliedCount now
    let d1 := (((d.put F.TB_STAT_REF_OK true).put F.TB_STAT_HOLDOVER false).put F.TB_STAT_CAL_LOCK true).set F.TB_STAT_RAW_SPAN span
    let d2 := d1.set F.TB_STAT_REF_SRC (d.get F.TB_CTL_REFSEL)
    let d3 : Dev := { d2 with supply := { d2.supply with refselBy := none, slewAt := now } }
    if now ≤ i then (d3, i)
    else ((d3.put F.TB_STAT_SLEW true).setReg R.TB_SLEW (w32 (now - i)), now)
  else (d, now)

/-- `TB_SLEW` at `now`: one tu of the offset is absorbed in 15 counted tu. -/
def Dev.slewOfs (d : Dev) (now : Nat) : Word :=
  if d.flag F.TB_STAT_SLEW then w32 ((d.reg R.TB_SLEW).toNat - (now - d.supply.slewAt) / 15) else 0

/-- SLEW_END (R26). -/
def Dev.slewEnd (d : Dev) (now : Nat) : Dev :=
  if d.flag F.TB_STAT_SLEW && d.slewOfs now == 0 then (d.put F.TB_STAT_SLEW false).setReg R.TB_SLEW 0 else d

/-- REFSEL_WRITE (R31): a new value of REFSEL. -/
def Dev.refselWrite (d : Dev) (now v : Nat) : Dev :=
  if v = d.get F.TB_CTL_REFSEL then d
  else if d.mode ≠ 4 ∧ d.mode ≠ 9 then d.modeRefused P.TBASE
  else
    let d1 := (d.set F.TB_CTL_REFSEL v).refLoss false false
    { d1 with supply := { d1.supply with refselBy := some (now + 128000000) } }

/-- REFSEL_RELOCK_TIMEOUT (R31). -/
def Dev.refselTimeout (d : Dev) (now : Nat) : Dev :=
  match d.supply.refselBy with
  | some t =>
    if t ≤ now then ({ d with supply := { d.supply with refselBy := none } }).refLoss false true else d
  | none => d

/-- CALIBRATOR_FIRST_LOCK (R27): true when it is the first, and the count starts at 0. -/
def Dev.firstLock (d : Dev) (span : Nat) : Dev × Bool :=
  if d.supply.started then (d, false)
  else
    let d1 := ((d.put F.TB_STAT_REF_OK true).put F.TB_STAT_CAL_LOCK true).set F.TB_STAT_RAW_SPAN span
    ({ d1 with supply := { d1.supply with started := true } }, true)

/-! ## The analog die (R452) -/

/-- A fault message of source 0x0E3. -/
def Dev.analog (d : Dev) (kind cls arg : Nat) : Dev := d.report { src := 0xE3, kind := kind, cls := cls, detail := 0, arg := arg }

/-- VDDA_LOW: `low` tells entry from leaving; `mv` the measured voltage. -/
def Dev.vddaEvent (d : Dev) (low : Bool) (mv : Nat) : Dev :=
  let d1 : Dev := { d with supply := { d.supply with vddaLow := low } }
  if low && !d.supply.vddaLow then d1.analog 0x0B 1 mv else d1
/-- VB_LOW. -/
def Dev.vbEvent (d : Dev) (low : Bool) (mv : Nat) : Dev :=
  let d1 : Dev := { d with supply := { d.supply with vbLow := low } }
  if low && !d.supply.vbLow then d1.analog 0x0C 1 mv else d1

/-- D2D_COMMAND_FAIL: a command to channel `chan` passed after repetition, or failed and the analog die holds its outputs. -/
def Dev.d2dFail (d : Dev) (now chan : Nat) (passed : Bool) : Dev :=
  if passed then
    let d1 : Dev := { d with supply := { d.supply with forcedOff := false } }
    let d2 := if d.supply.forcedOff && !d.inhibited then d1.softRelease else d1
    d2.analog 0x0D 0 chan
  else
    let d1 := ((d.softForceNow now).allOff now).analog 0x0E 2 chan
    { d1 with supply := { d1.supply with forcedOff := true } }

end Sys2Proof.Machine
end

