-- ==== Sys2Proof/Machine/Sec.lean ====
section
/-!
DEFINITION. Machine/Sec.lean: lifecycle and owner commands, staging, the decision of an activation, and MRAM writes by software
(17_identity_update.md). Whether a signature verifies reaches the model as an operand; random bits, digests and signatures the device makes are
free values (notes/assumptions/62.md).
-/

namespace Sys2Proof.Machine

/-! ## SEC (R483 to R494) -/

def Dev.lifecycle (d : Dev) : Nat := d.get F.SEC_LC_STATE
def mramAt (o : Nat) : Nat := 0x60000000 + o

/-- `n` free words at consecutive memory addresses, most significant byte first. -/
def Dev.freeWords (d : Dev) (a : Nat) : Nat → Dev
  | 0 => d
  | n + 1 => ((d.setWord a (w32 d.fresh)).tickFree).freeWords (a + 4) n

/-- A word stored most significant byte first. -/
def Dev.setBE (d : Dev) (a : Nat) (w : Word) : Dev :=
  (((d.setByte a (w.extractLsb' 24 8)).setByte (a + 1) (w.extractLsb' 16 8)).setByte (a + 2) (w.extractLsb' 8 8)).setByte (a + 3) (w.extractLsb' 0 8)
def Dev.setBEs (d : Dev) (a : Nat) : List Word → Dev
  | [] => d
  | w :: r => (d.setBE a w).setBEs (a + 4) r

/-- A restart of SUP from its boot ROM (R371, R490). -/
def Dev.supRestart (d : Dev) : Dev :=
  let d1 : Dev := (List.range 4).foldl (fun (d : Dev) i => d.setReg (R.SEC_CHAL i) 0) { d with sec := { d.sec with chal := false } }
  d1.coreRestart 0 0 true

/-- Slot base address and size of an image kind (R495); `b` picks slot B. -/
def slotBase (kind : Nat) (b : Bool) : Nat :=
  mramAt (match kind with
    | 0 => if b then 0x40000 else 0x20000
    | 1 => if b then 0x200000 else 0x100000
    | 2 => if b then 0x400000 else 0x300000
    | _ => if b then 0x580000 else 0x500000)
def slotSize (kind : Nat) : Nat := match kind with
  | 0 => 0x20000
  | 3 => 0x80000
  | _ => 0x100000

def Dev.activeB (d : Dev) (kind : Nat) : Bool := (d.get F.UPD_SLOT_ACTIVE_B).testBit kind
def Dev.slotSt (d : Dev) (kind : Nat) (b : Bool) : Nat := let s := vGet d.upd.slots kind; if b then s.2 else s.1
def Dev.setSlotSt (d : Dev) (kind : Nat) (b : Bool) (v : Nat) : Dev :=
  let s := vGet d.upd.slots kind
  { d with upd := { d.upd with slots := vSet d.upd.slots kind (if b then (s.1, v) else (v, s.2)) } }
def Dev.setBit (d : Dev) (f : Fld) (k : Nat) (v : Bool) : Dev :=
  let x := d.get f
  d.set f (if v = x.testBit k then x else if v then x + 2 ^ k else x - 2 ^ k)
/-- A kind is absent when both its slots are EMPTY (R499). -/
def Dev.absent (d : Dev) (kind : Nat) : Bool := d.slotSt kind false == 0 && d.slotSt kind true == 0

/-- The 320 bytes of a quote (R493). -/
def Dev.quote (d : Dev) (now buf : Nat) : Dev :=
  let o := buf + 0x200
  let w1 := d.lifecycle * 0x1000000 + d.mode * 0x100000 + d.get F.UPD_SLOT_ACTIVE_B * 0x10000 + d.get F.UPD_SLOT_TRIAL * 0x1000
    + d.get F.UPD_SLOT_STAGED * 0x100
  let act := fun k => slotBase k (d.activeB k)
  let d1 := (d.setBEs o [0x51544531, w32 w1]).setBEs (o + 8) ([96, 64, 32, 0].map (fun i => Config.deviceUid.extractLsb' i 32))
  let d2 := (d1.setBytes (o + 0x18) (d.bytes buf 32)).setBEs (o + 0x38) [hi32 now, lo32 now]
  let d3 := d2.setBEs (o + 0x40) ((List.range 4).map (fun k => d.reg (R.UPD_RBC k)))
  let d4 := d3.setBEs (o + 0x50) ((List.range 4).map (fun k => if d.absent k then 0 else d.word (act k + 8)))
  let d5 := d4.setBEs (o + 0x60) ((List.range 4).flatMap (fun k => (List.range 8).map (fun i => if d.absent k then 0 else d.word (act k + 32 + 4 * i))))
  let d6 := if d.flag F.SEC_LC_OWNER_KEY then d5.freeWords (o + 0xE0) 8 else d5.setBEs (o + 0xE0) (List.replicate 8 0)
  d6.freeWords (o + 0x100) 16

/-- Is the command signed by the owner (R489)? -/
def Dev.secSigned (d : Dev) (cmd : Nat) : Bool :=
  cmd == 5 || cmd == 6 || (cmd == 3 && d.lifecycle == 2) || (cmd == 7 && d.flag F.SEC_LC_OWNER_KEY)

/-- The lifecycle column of R489. -/
def Dev.secState (d : Dev) (cmd : Nat) : Bool :=
  let l := d.lifecycle
  match cmd with
  | 1 => l != 4
  | 2 => l == 1 || l == 2 || l == 3
  | 3 => l == 1 || l == 2
  | 4 => l == 2
  | 5 => l == 2
  | 6 => l == 3
  | _ => l == 1 || l == 2 || l == 3

/-- The mode column of R489. -/
def Dev.secMode (d : Dev) (cmd : Nat) : Bool :=
  if cmd = 3 then d.mode == 4 || d.mode == 9
  else if 5 ≤ cmd then d.mode == 4 && d.stopped 0 && d.stopped 1
  else true

/-- The status a command ends with (R490): the first failure decides. `fmt`: its input is in range; `sig`: its signature or endorsement verifies. -/
def Dev.secStatus (d : Dev) (cmd : Nat) (fmt sig : Bool) : Nat :=
  let a := (d.reg R.SEC_ARG).toNat
  if a % 32 ≠ 0 ∨ a < 0x20000000 ∨ 0x20100000 < a + 1024 then 7
  else if cmd = 0 ∨ 7 < cmd ∨ !fmt ∨ (d.sec.rngBad ∧ cmd ≤ 2) then 6
  else if d.flag F.UPD_ASTAT_PEND then 5
  else if !d.secState cmd then 1
  else if !d.secMode cmd then 4
  else if d.secSigned cmd && !d.sec.chal then 3
  else if (d.secSigned cmd || cmd == 4) && !sig then 2
  else 0

/-- The effect of a command that passed its checks (R484, R485, R489, R491, R494). -/
def Dev.secEffect (d : Dev) (now cmd : Nat) : Dev :=
  let buf := (d.reg R.SEC_ARG).toNat
  match cmd with
  | 1 => (List.range 4).foldl (fun (d : Dev) i => (d.setReg (R.SEC_CHAL i) (w32 d.fresh)).tickFree) { d with sec := { d.sec with chal := true } }
  | 2 => (d.quote now buf).incSat F.SEC_CNT_QUOTES
  | 3 =>
    let d1 := (d.setBytes (mramAt 0x1800) (d.bytes buf 64)).put F.SEC_LC_OWNER_KEY true
    let d2 := if d.lifecycle = 2 then (d1.setBytes (mramAt 0x1840) (List.replicate 64 0)).put F.SEC_LC_ENDORSED false else d1
    d2.set F.SEC_LC_STATE 2
  | 4 => (d.setBytes (mramAt 0x1840) (d.bytes buf 64)).put F.SEC_LC_ENDORSED true
  | 5 => (d.set F.SEC_LC_STATE 3).put F.SYS_SVC_ALLOW false
  | 6 => (d.set F.SEC_LC_STATE 2).put F.SYS_SVC_ALLOW true
  | _ =>
    let d1 := (d.setBytes (mramAt 0x1800) (List.replicate 128 0)).put F.SEC_LC_OWNER_KEY false
    let d2 := ((d1.put F.SEC_LC_ENDORSED false).set F.SEC_LC_STATE 4).put F.SYS_SVC_ALLOW false
    ((d2.supRestart).set F.SYS_BOOTSTAT_CODE 5).sysRefuse 5

/-- Harts a transition closes to debug are resumed first (R394). -/
def Dev.closeDebug (d : Dev) (cmd : Nat) : Dev :=
  if cmd = 5 ∨ cmd = 7 then
    { d with harts := d.harts.map (fun h => if h.halted then h.resumed else h), dm := {} }
  else d

/-- A SEC command runs (R488 to R494); it is complete with its step. -/
def Dev.secCmd (d : Dev) (now : Nat) (who : Initiator) (cmd : Nat) (fmt sig : Bool) : Dev :=
  let st := d.secStatus cmd fmt sig
  let d0 := if st = 0 then (d.closeDebug cmd).secEffect now cmd else d
  let d1 := if d.secSigned cmd then
      (List.range 4).foldl (fun (d : Dev) i => d.setReg (R.SEC_CHAL i) 0) { d0 with sec := { d0.sec with chal := false } }
    else d0
  let d2 := (((d1.set F.SEC_STAT_OWNER who.code).set F.SEC_STAT_STATUS st).set F.SEC_STAT_LASTCMD cmd).irq P.SEC 0
  if st = 0 then d2.intcRefresh
  else
    let d3 := (d2.incSat F.SEC_STAT_FAILS).irq P.SEC 1
    if st = 2 then (d3.incSat F.SEC_CNT_SIGFAIL).rep P.SEC 0x67 1 0 cmd else d3.rep P.SEC 0x66 0 st cmd

/-- RANDOM_GENERATOR_HEALTH_TEST (R513). -/
def Dev.rngTest (d : Dev) (pass : Bool) : Dev :=
  let d1 : Dev := { d with sec := { d.sec with rngBad := !pass } }
  if pass then d1 else d1.rep P.SEC 0x68 1

/-! ## Images (R496 to R498) -/

/-- R496, R498: is the record sequence well formed? `n` counts the words left. -/
def cfgOk (d : Dev) : Nat → Nat → Nat → Bool
  | 0, _, _ => false
  | f + 1, a, n =>
    if n = 0 then false
    else
      let w := d.word a
      let ty := wordGet w 31 24
      let cnt := wordGet w 23 0
      if ty = 0 then true
      else if ty ≠ 1 ∨ n < 2 + cnt then false
      else
        let ad := (d.word (a + 4)).toNat
        let inPages := decide (0x40000000 ≤ ad) && decide (ad + 4 * cnt ≤ 0x40100000)
        let inWin := decide (0x41000000 ≤ ad) && decide (ad + 4 * cnt ≤ 0x41400000)
        (inPages || inWin) && cfgOk d f (a + 8 + 4 * cnt) (n - 2 - cnt)

/-- The first failing test of R497 for the image in a slot: 0 none, 5 FORMAT, 6 SIG, 7 ROLLBACK. -/
def Dev.imageCheck (d : Dev) (kind : Nat) (b : Bool) (sig : Bool) : Nat :=
  let base := slotBase kind b
  let w := fun i => d.word (base + 4 * i)
  let la := (w 3).toNat
  let lb := (w 4).toNat
  let lens := match kind with
    | 0 => la % 4 == 0 && decide (la ≤ 0x18000) && lb == 0
    | 3 => la % 4 == 0 && decide (la ≤ 0x80000 - 256) && decide (lb ≤ 1)
    | _ => la % 4 == 0 && lb % 4 == 0 && decide (la ≤ 0x40000) && decide (lb ≤ 0x40000)
  let signer := if kind = 0 ∨ d.lifecycle ≤ 1 then 0 else 1
  if w 0 ≠ 0x544C4931 ∨ wordGet (w 1) 31 24 ≠ kind ∨ wordGet (w 1) 23 16 ≠ 1 ∨ !lens then 5
  else if kind = 3 ∧ !cfgOk d (la / 4 + 1) (base + 256) (la / 4) then 5
  else if (w 6).toNat ≠ signer ∨ !sig then 6
  else if (w 2).toNat < (d.reg (R.UPD_RBC kind)).toNat then 7
  else 0

/-! ## Staging (R500) -/

/-- A staging command ends with a status. -/
def Dev.stageEnd (d : Dev) (kind st : Nat) : Dev :=
  let d1 := (d.set F.UPD_SSTAT_STATUS st).set F.UPD_SSTAT_KIND kind
  if st = 0 then d1.irq P.UPD 0 else (d1.irq P.UPD 1).rep P.UPD 0x69 0 st kind

def Dev.stageOpen (d : Dev) (kind : Nat) : Bool := (d.get F.UPD_SSTAT_OPEN).testBit kind

/-- The checks all operations share: LOCKED, BUSY, SEQ. -/
def Dev.stageCheck (d : Dev) (kind : Nat) (begin_ : Bool) : Nat :=
  if 3 ≤ d.lifecycle then 1
  else if d.flag F.UPD_ASTAT_PEND || (d.get F.UPD_SLOT_TRIAL).testBit kind then 2
  else if d.stageOpen kind == begin_ then 3
  else 0

def Dev.stageBegin (d : Dev) (kind : Nat) : Dev :=
  let st := d.stageCheck kind true
  if st ≠ 0 then d.stageEnd kind st
  else (((d.setSlotSt kind (!d.activeB kind) 2).setBit F.UPD_SLOT_STAGED kind false).setBit F.UPD_SSTAT_OPEN kind true).stageEnd kind 0

/-- WRITE; `mram` tells that a word write failed after its retries, `rep` that one needed repetition, at the MRAM offset `off`. -/
def Dev.mramWr (d : Dev) (rep : Nat) (fail : Bool) (off : Nat) : Dev :=
  let d1 := if rep ≠ 0 then d.incSat F.MRAMC_CNT_WR_REP else d
  if fail then d1.rep P.MRAMC 0x6E 1 0 off else if rep ≠ 0 then d1.rep P.MRAMC 0x6E 0 0 off else d1

def Dev.stageWrite (d : Dev) (kind rep : Nat) (fail : Bool) : Dev :=
  let st := d.stageCheck kind false
  let ofs := (d.reg R.UPD_OFS).toNat
  let src := (d.reg R.UPD_SRC).toNat
  let len := d.get F.UPD_LEN_LEN
  if st ≠ 0 then d.stageEnd kind st
  else if slotSize kind < ofs + len ∨ src < 0x20000000 ∨ 0x20100000 < src + len ∨ len < 4 ∨ 65536 < len ∨ len % 4 ≠ 0 ∨ ofs % 4 ≠ 0 ∨ src % 4 ≠ 0 then
    d.stageEnd kind 4
  else
    let base := slotBase kind (!d.activeB kind)
    let d1 := (d.setBytes (base + ofs) (d.bytes src len)).mramWr rep fail ((base + ofs) % 0x10000000)
    d1.stageEnd kind (if fail then 8 else 0)

def Dev.stageFinish (d : Dev) (kind : Nat) (sig fail : Bool) : Dev :=
  let st := d.stageCheck kind false
  if st ≠ 0 then d.stageEnd kind st
  else
    let b := !d.activeB kind
    let c := d.imageCheck kind b sig
    let st := if c ≠ 0 then c else if fail then 8 else 0
    let d1 := d.setBit F.UPD_SSTAT_OPEN kind false
    if st = 0 then ((d1.setSlotSt kind b 1).setBit F.UPD_SLOT_STAGED kind true).stageEnd kind 0 else d1.stageEnd kind st

def Dev.stageAbort (d : Dev) (kind : Nat) : Dev :=
  let st := d.stageCheck kind false
  if st ≠ 0 then d.stageEnd kind st else (d.setBit F.UPD_SSTAT_OPEN kind false).stageEnd kind 0

/-! ## Activation: its decision (R501, R502, R507) -/

/-- `UPD_MOVE`. -/
def Dev.updMove (d : Dev) (now : Nat) : Nat := min ((now - d.upd.moveAt) / 12800000) 0xFFFFFFFF

/-- The first refusal found; 0 accepted. `rev` takes STAGED as 1. -/
def Dev.actCheck (d : Dev) (now mask : Nat) (rev : Bool) : Nat :=
  if d.flag F.UPD_ASTAT_PEND || d.sys.shut != 0 || d.flag F.SEC_STAT_PEND then 1
  else if 3 ≤ d.lifecycle then 2
  else if d.mode ≠ 4 ∧ d.mode ≠ 9 then 3
  else if !rev && !((List.range 4).all (fun k => !mask.testBit k || (d.get F.UPD_SLOT_STAGED).testBit k)) then 4
  else if d.updMove now < 2000 then 5
  else if d.get (F.BST_VB_VB 0) < d.get F.UPD_CFG_VBMIN then 6
  else if d.oasis.low240 then 7
  else 0

/-- R503 step 1: each application core in MASK stops. -/
def Dev.stopApps (d : Dev) (mask : Nat) : Dev :=
  [1, 2].foldl (fun (d : Dev) k =>
    if mask.testBit k && d.enabled (P.CORE k) then (d.put (F.PCTL_ENABLE (P.CORE k)) false).coreStop k else d) d

/-- A request for activation; accepted, its first step is taken at once. -/
def Dev.activate (d : Dev) (now mask : Nat) (rev : Bool) : Dev :=
  if mask % 16 = 0 then d
  else
    let r := d.actCheck now mask rev
    let d0 := (d.set F.UPD_ASTAT_MASK mask).set F.UPD_ASTAT_REASON r
    if r ≠ 0 then ((d0.incSat F.UPD_ASTAT_REFUSED).irq P.UPD 3).rep P.UPD 0x6A 0 r mask
    else
      let d1 := (d0.put F.UPD_ASTAT_PEND true).put F.UPD_ASTAT_DONE false
      let d2 : Dev := { d1 with sys := { d1.sys with act := true }, upd := { d1.upd with rev := rev, trial := d.flag F.UPD_CFG_TRIAL } }
      d2.sysPend.stopApps mask

/-- The rollback counter of a kind is raised to its active image's ROLLBACK (R495, R503). -/
def Dev.raiseRbc (d : Dev) (kind : Nat) : Dev :=
  let v := d.word (slotBase kind (d.activeB kind) + 8)
  if (d.reg (R.UPD_RBC kind)).toNat < v.toNat then (d.setReg (R.UPD_RBC kind) v).setWord (mramAt (0x1920 + 4 * kind)) v else d

/-- CONFIRM (R507): the kinds in `mask`. -/
def Dev.updConfirm (d : Dev) (mask : Nat) : Dev :=
  (List.range 4).foldl (fun (d : Dev) k =>
    if mask.testBit k && (d.get F.UPD_SLOT_TRIAL).testBit k then (d.setBit F.UPD_SLOT_TRIAL k false).raiseRbc k else d) d

/-- REVERT (R507): accepted, it is told for each kind. -/
def Dev.updRevert (d : Dev) (now mask : Nat) : Dev :=
  let d1 := d.activate now mask true
  if mask % 16 ≠ 0 ∧ d1.get F.UPD_ASTAT_REASON = 0 then
    (List.range 4).foldl (fun (d : Dev) k => if mask.testBit k then d.rep P.UPD 0x6C 0 0 k else d) (d1.irq P.UPD 5)
  else d1

/-! ## MRAM writes by software (R508 to R512) -/

/-- MRAM_DIRECT_WRITE: a write of `MRAMC_WDHI`. -/
def Dev.mramDirect (d : Dev) (hi : Word) : Dev :=
  if d.flag F.MRAMC_WSTAT_PEND then d.set F.MRAMC_WSTAT_STATUS 2
  else
    let d1 := d.setReg R.MRAMC_WDHI hi
    let a := d.get F.MRAMC_WADDR_ADDR
    if a < 0x600000 ∨ 0x7FFFF8 < a ∨ a % 8 ≠ 0 then d1.set F.MRAMC_WSTAT_STATUS 1
    else
      let d2 := (d1.put F.MRAMC_WSTAT_PEND true).set F.MRAMC_WSTAT_REP 0
      { d2 with mramc := { d2.mramc with wr := some (a, d1.reg R.MRAMC_WDLO, hi) } }

/-- The highest block count and its block. -/
def wearMax : SMap Nat → Nat × Nat
  | [] => (0, 0)
  | (b, c) :: r => let m := wearMax r; if m.1 ≤ c then (c, b) else m

/-- R509: one more write of a block. -/
def Dev.countWear (d : Dev) (blk : Nat) : Dev :=
  let c := smGetD d.mramc.wear blk 0 + 1
  let wear := smPut d.mramc.wear blk c 0
  let m := wearMax wear
  let d1 := ((({ d with mramc := { d.mramc with wear := wear } }).setReg R.MRAMC_WMAX (w32 m.1)).set F.MRAMC_WBLK_BLK m.2)
  let d2 := if c % 4096 = 0 then d1.setWord (mramAt (0x2000 + 4 * blk)) (w32 c) else d1
  if 900000000 ≤ m.1 ∧ !d.mramc.told then
    (({ d2 with mramc := { d2.mramc with told := true } }).rep P.MRAMC 0x6F 0 0 (0x600000 + m.2 * 4096)).irq P.MRAMC 2
  else d2

/-- MRAM_WRITE_DONE: after `rep` repetitions the word reads back equal, or (`fail`) still does not and holds a value that is open. -/
def Dev.mramDone (d : Dev) (rep : Nat) (fail : Bool) : Dev :=
  match d.mramc.wr with
  | none => d
  | some (a, lo, hi) =>
    let d0 : Dev := { d with mramc := { d.mramc with wr := none } }
    let d1 := if fail then d0.freeWords (mramAt a) 2 else (d0.setWord (mramAt a) lo).setWord (mramAt a + 4) hi
    let d2 := ((d1.put F.MRAMC_WSTAT_PEND false).set F.MRAMC_WSTAT_REP rep).set F.MRAMC_WSTAT_STATUS (if fail then 3 else 0)
    let d3 := ((d2.mramWr rep fail a).countWear ((a + 0xA00000) % 0x1000000 / 4096)).irq P.MRAMC 0
    if fail then d3.irq P.MRAMC 3 else d3

/-- LOG_APPEND: a write of `MRAMC_LAPP`. -/
def Dev.logAppend (d : Dev) (src : Nat) : Dev :=
  if d.flag F.MRAMC_LSTAT_PEND then d.set F.MRAMC_LSTAT_STATUS 2
  else if src % 32 ≠ 0 ∨ src < 0x20000000 ∨ 0x20100000 < src + 32 then d.set F.MRAMC_LSTAT_STATUS 1
  else ({ d with mramc := { d.mramc with app := some (d.words src 8) } }).put F.MRAMC_LSTAT_PEND true

/-- LOG_APPEND_DONE (R512, R516). -/
def Dev.logDone (d : Dev) (rep : Nat) (fail : Bool) : Dev :=
  match d.mramc.app with
  | none => d
  | some ws =>
    let h := (d.reg R.MRAMC_LHEAD).toNat
    let o := 0x800000 + h % 262144 * 32
    let d0 : Dev := { d with mramc := { d.mramc with app := none } }
    let d1 := if fail then d0.freeWords (mramAt o) 8 else d0.setWords (mramAt o) ws
    let d2 := (d1.setReg R.MRAMC_LHEAD (w32 (h + 1))).put F.MRAMC_LSTAT_PEND false
    let d3 := if (h + 1) % 4096 = 0 then d2.setWord (mramAt 0x2800) (w32 (h + 1)) else d2
    let d4 := ((d3.set F.MRAMC_LSTAT_STATUS (if fail then 3 else 0)).mramWr rep fail o).irq P.MRAMC 1
    if fail then d4.irq P.MRAMC 3 else d4

/-- At ordered shutdown the counts and the log head are stored (R509, R516). -/
def Dev.mramcStore (d : Dev) : Dev :=
  let d1 := d.mramc.wear.foldl (fun (d : Dev) e => d.setWord (mramAt (0x2000 + 4 * e.1)) (w32 e.2)) d
  d1.setWord (mramAt 0x2800) (d.reg R.MRAMC_LHEAD)

/-- R481 step 3: nothing is left to log, and no MRAM write is in progress. -/
def Dev.flushed (d : Dev) : Bool := d.fcol.awaiting.isEmpty && d.mramc.wr.isNone && d.mramc.app.isNone

/-- SHUTDOWN_DONE (R481): pending log records and MRAM writes complete first. -/
def Dev.shutdownDone (d : Dev) : Dev := if d.sys.shut = 2 ∧ d.flushed = true then d.mramcStore.shutDone else d

/-- MRAMC after a power-on: what MRAM holds (R509, R516). -/
def Dev.mramcRestore (d : Dev) : Dev :=
  let wear := (List.range 512).foldl (fun (m : SMap Nat) b => smPut m b (d.word (mramAt (0x2000 + 4 * b))).toNat 0) []
  let m := wearMax wear
  ((({ d with mramc := { wear := wear, told := decide (900000000 ≤ m.1) } }).setReg R.MRAMC_WMAX (w32 m.1)).set F.MRAMC_WBLK_BLK m.2).setReg
    R.MRAMC_LHEAD (d.word (mramAt 0x2800))

def Dev.mramcClr (d : Dev) : Dev := d.setReg R.MRAMC_CNT 0

end Sys2Proof.Machine
end

