-- ==== Sys2Proof/Machine/Oasis.lean ====
section
/-!
DEFINITION. Machine/Oasis.lean: the Oasis domain (18_oasis_domain.md): transfers, the calendar, retained RAM, the sentinel, wake causes and
VBAT. Its pages keep their contents through a power-on; `Dev.eff` reads a field as the domain acts with it while a write waits.
-/

namespace Sys2Proof.Machine

/-- The page of a kind of R535, and its class. -/
def oasisKind (k : Nat) : Nat × Nat :=
  match k with
  | 0x70 => (P.RTC, 1) | 0x73 => (P.OPWR, 1) | 0x75 => (P.SENT, 0) | 0x76 => (P.SENT, 1) | _ => (P.OPWR, 0)

def Dev.updOasis (d : Dev) (f : Oasis → Oasis) : Dev := { d with oasis := f d.oasis }

/-- Reported at once while VDDC is in range, else held for the next core supply good (R531, R536). -/
def Dev.oasisRep (d : Dev) (kind arg : Nat) : Dev :=
  if d.sys.good then d.rep (oasisKind kind).1 kind (oasisKind kind).2 0 arg
  else d.updOasis (fun o => { o with rep := o.rep ++ [(kind, arg)] })

/-- What was held is reported, in code order (R531, R536), with the Oasis start that has not been told. -/
def Dev.oasisTell (d : Dev) : Dev :=
  let l := if d.oasis.lostTold then d.oasis.rep else (0x71, 0) :: d.oasis.rep
  let l' := sortBy (fun (a b : Nat × Nat) => decide (a.1 ≤ b.1)) l
  l'.foldl (fun (d : Dev) e => d.oasisRep e.1 e.2) (d.updOasis (fun o => { o with rep := [], lostTold := true }))

/-- A wake cause (R532): its bit of `OPWR_WCAUSE`. -/
def Dev.wakeCause (d : Dev) (f : Fld) : Dev := (d.put f true).put F.OPWR_WAKE_PEND true

/-- The level WAKEn is driven to (R532): true high. -/
def Dev.wakePin (d : Dev) : Bool := !(d.flag F.OPWR_WAKE_SYSHOLD || d.effB F.OPWR_WAKE_SWHOLD || d.flag F.OPWR_WAKE_PEND)

/-! ## Calendar (R521 to R526) -/

/-- The alarm (R524). -/
def Dev.rtcAlarm (d : Dev) : Dev :=
  let d1 := (d.put F.RTC_STAT_ALARM true).irq P.RTC 1
  if d1.effB F.RTC_CTL_AWAKE then d1.wakeCause F.OPWR_WCAUSE_ALARM else d1

/-- SEC enters a value. -/
def Dev.secEnters (d : Dev) (v : Word) : Dev :=
  let d1 := d.setReg R.RTC_SEC v
  if d1.effB F.RTC_CTL_AEN && d1.committed R.RTC_ALARM == v then d1.rtcAlarm else d1

/-- R521: the accumulator at a second boundary, and what the next cycle counts. -/
def trimStep (acc trim : Int) : Int × Nat :=
  let a := acc + trim * 32768
  if 10000000 ≤ a then (a - 10000000, 2) else if a ≤ -10000000 then (a + 10000000, 0) else (a, 1)

/-- RTC_SECOND. -/
def Dev.rtcSecond (d : Dev) (now : Nat) : Dev :=
  let r := trimStep d.oasis.acc (signedOf (d.eff F.RTC_TRIM_TRIM) 12)
  let d1 := (d.updOasis (fun o => { o with acc := r.1, corr := r.2 })).setReg R.RTC_SUB 0
  let v := d.reg R.RTC_SEC + 1
  let d2 := (d1.secEnters v).irq P.RTC 0
  if d.sys.good then (d2.setLH R.RTC_TB_LO R.RTC_TB_HI now).setReg R.RTC_TB_SEC v else d2

/-- RTC_XTAL and XTAL_RECOVER (R525). -/
def Dev.rtcXtal (d : Dev) : Dev :=
  if d.flag F.RTC_STAT_XTAL_FAIL then d else ((d.put F.RTC_STAT_XTAL_FAIL true).irq P.RTC 2).oasisRep 0x70 0
def Dev.xtalRecover (d : Dev) : Dev := d.put F.RTC_STAT_XTAL_FAIL false

/-- RTC_SUB_READ: SUB stands at `sub`. -/
def Dev.rtcSubRead (d : Dev) (who : Initiator) (sub : Nat) : Dev :=
  (d.set F.RTC_SUB_SUB sub).setLatch who R.RTC_SEC (d.reg R.RTC_SEC)
def Dev.rtcTbLatch (d : Dev) (who : Initiator) : Dev :=
  (d.setLatch who R.RTC_TB_HI (d.reg R.RTC_TB_HI)).setLatch who R.RTC_TB_SEC (d.reg R.RTC_TB_SEC)

/-! ## Transfers (R520) -/

/-- A write of an Oasis register is buffered: `rw` is its word with the RW fields as written (none: it has none), `ones` the W1C bits or the value
of `RTC_SET`. -/
def Dev.oasisBuffer (d : Dev) (a : Nat) (rw : Option Word) (ones : Word) : Dev :=
  let d1 : Dev := match rw with
    | none => d
    | some w => { (d.setReg a w) with shadow := smIns d.shadow a (d.committed a) }
  if a = R.RTC_SET then d1.updOasis (fun o => { o with buf := smIns o.buf a ones })
  else if ones = 0 then d1
  else d1.updOasis (fun o => { o with buf := smIns o.buf a (smGetD o.buf a 0 ||| ones) })

/-- `PSTAT.BUSY` of an Oasis page. -/
def Dev.oasisBusy (d : Dev) (pg : Nat) : Bool :=
  d.shadow.any (fun e => pageOf e.1 == pg) || d.oasis.buf.any (fun e => pageOf e.1 == pg)

/-- OASIS_WRITE_TRANSFER of the register at address a. -/
def Dev.oasisTransfer (d : Dev) (a : Nat) : Dev :=
  let waits := (smGet d.shadow a).isSome
  let d1 : Dev := { d with shadow := smDel d.shadow a }
  let d2 := if waits && a == R.RTC_ALARM && decide ((d1.reg R.RTC_ALARM).toNat ≤ (d1.reg R.RTC_SEC).toNat) then d1.put F.RTC_STAT_APAST true else d1
  match smGet d.oasis.buf a with
  | none => d2
  | some v =>
    let d3 := d2.updOasis (fun o => { o with buf := smDel o.buf a })
    if a = R.RTC_SET then
      (((d3.updOasis (fun o => { o with acc := 0, corr := 1 })).setReg R.RTC_SUB 0).put F.RTC_STAT_VALID true).secEnters v
    else d3.setReg a (d3.reg a &&& ~~~v)

/-! ## Retained RAM (R527) -/

/-- OASIS_RAM_READ of word w; `bad` is the byte whose parity fails. -/
def Dev.oasisRamRead (d : Dev) (w : Nat) (bad : Option Nat) : Dev :=
  match bad with
  | none => d
  | some b => ((d.put F.OPWR_STAT_RAM_PERR true).irq P.OPWR 2).oasisRep 0x74 (4 * w + b)

/-! ## The sentinel (R528 to R531) -/

/-- The recording of an event of input n (8: rotation). -/
def Dev.sentRecord (d : Dev) (n tcnt : Nat) : Dev :=
  let d1 := (d.setBit F.SENT_EVT_EVT n true).set F.SENT_LAST_SRC n
  let d2 := d1.setReg R.SENT_LASTSEC (d.reg R.RTC_SEC)
  if n = 8 then ((d2.incSat F.SENT_CNT_ROT).irq P.SENT 1).oasisRep 0x76 tcnt
  else ((d2.incSat F.SENT_CNT_IN).irq P.SENT 0).oasisRep 0x75 n

/-- R528: the condition of input n; VAL is taken for an analog one. -/
def Dev.sentCond (d : Dev) (n : Nat) (lvl : Bool) (val : Nat) : Dev × Bool :=
  if d.effB (F.SENT_IN_CFG_TYPE n) then
    (d.set (F.SENT_IN_THR_VAL n) val, decide (d.eff (F.SENT_IN_THR_HI n) < val) || decide (val < d.eff (F.SENT_IN_THR_LO n)))
  else (d, lvl == d.effB (F.SENT_IN_CFG_ACTIVE n))

/-- One sample of input n. -/
def Dev.sentSample (d : Dev) (n : Nat) (lvl : Bool) (val : Nat) : Dev :=
  if !d.effB (F.SENT_IN_CFG_EN n) || d.oasis.tick % max 1 (d.eff (F.SENT_IN_CFG_EVERY n)) != 0 then d
  else
    let (d1, c) := d.sentCond n lvl val
    if !c then d1.updOasis (fun o => { o with cons := vSet o.cons n 0, seen := vSet o.seen n false })
    else
      let k := vGet d1.oasis.cons n + 1
      let d2 := d1.updOasis (fun o => { o with cons := vSet o.cons n k })
      if vGet d.oasis.seen n || decide (k < d.eff (F.SENT_IN_CFG_NCONS n)) then d2
      else
        let d3 := d2.updOasis (fun o => { o with seen := vSet o.seen n true })
        let d4 := if d.effB (F.SENT_IN_CFG_REC n) then d3.sentRecord n 0 else d3
        if d.effB (F.SENT_IN_CFG_WAKE n) then d4.wakeCause F.OPWR_WCAUSE_SENT else d4

/-- The decision on rotation at a tick (R530). -/
def Dev.sentRotation (d : Dev) : Dev :=
  let t := d.get F.SENT_TCNT_TCNT
  if !d.effB F.SENT_SSC_EN then d
  else if d.effB F.SENT_CFG_ROT_GATE && d.sys.good then d.updOasis (fun o => { o with prevT := t })
  else if d.eff F.SENT_SSC_ROT_CNT ≤ t then
    let d1 := (d.set F.SENT_TCNT_TCNT 0).updOasis (fun o => { o with prevT := 0 })
    let d2 := if d.effB F.SENT_SSC_REC then d1.sentRecord 8 t else d1
    if d.effB F.SENT_SSC_WAKE then d2.wakeCause F.OPWR_WCAUSE_ROT else d2
  else if t ≤ d.oasis.prevT then (d.set F.SENT_TCNT_TCNT 0).updOasis (fun o => { o with prevT := 0 })
  else d.updOasis (fun o => { o with prevT := t })

/-- SENTINEL_TICK: the levels of OSI0 to OSI7 and their analog values. -/
def Dev.sentTick (d : Dev) (lvl : BitVec 8) (vals : List Nat) : Dev :=
  if !d.enabled P.SENT || d.oasis.halted then d
  else
    let d1 := d.updOasis (fun o => { o with tick := o.tick + 1 })
    let d2 := (List.range 8).foldl (fun (d : Dev) n => d.sentSample n (lvl.getLsbD n) (min (vals.getD n 0) 255)) d1
    d2.sentRotation

/-- `SENT_PCTL.ENABLE`: the tick count starts at 0 (R528). -/
def Dev.sentEnable (d : Dev) : Dev :=
  d.updOasis (fun o => { o with tick := 0, cons := Vector.replicate 8 0, seen := Vector.replicate 8 false, prevT := 0 })

/-- STANDSTILL_CROSSING (R94, R530): a negative-going crossing (`neg`) is counted; a positive-going one only turns the comparator's output. -/
def Dev.standstill (d : Dev) (neg : Bool) : Dev :=
  if d.effB F.SENT_SSC_EN && !d.oasis.halted then
    let d1 := d.updOasis (fun o => { o with sscLvl := !neg })
    if neg then d1.incSat F.SENT_TCNT_TCNT else d1
  else d

/-- SENT_EVT_CLEAR: through `SENT_EVT` the clear waits for its transfer; through `WHL_SSC` bit 8 is cleared. -/
def Dev.sentEvtClear (d : Dev) (whl : Bool) (bits : Word) : Dev :=
  if whl then (if bits.getLsbD 2 then d.setBit F.SENT_EVT_EVT 8 false else d)
  else d.oasisBuffer R.SENT_EVT none (bits &&& 0x1FF)

/-! ## VBAT and supply (R517 to R519) -/

/-- VBAT_MEASURE: `mv` as the domain measures it. -/
def Dev.vbatMeasure (d : Dev) (mv : Nat) : Dev :=
  let v := min mv 8191
  let low := d.eff F.OPWR_CFG_LOW * 10
  let o := d.oasis
  let d1 := (d.set F.OPWR_VBAT_VBAT v).updOasis (fun o => { o with
    low240 := if v < 2400 then true else if 2450 ≤ v then false else o.low240,
    lowest := some (match o.lowest with | none => v | some m => min m v) })
  let d2 :=
    if v < low then (if d.flag F.OPWR_STAT_VBAT_LOW then d1 else ((d1.put F.OPWR_STAT_VBAT_LOW true).irq P.OPWR 0).oasisRep 0x72 v)
    else if low + 50 ≤ v then d1.put F.OPWR_STAT_VBAT_LOW false else d1
  if v < 2000 ∧ !o.halted then
    (((d2.put F.OPWR_STAT_VBAT_CRIT true).irq P.OPWR 1).updOasis (fun o => { o with halted := true })).oasisRep 0x73 (d2.oasis.lowest.getD v)
  else if 2050 ≤ v then d2.updOasis (fun o => { o with halted := false })
  else d2

/-- OASIS_SUPPLY_CHANGEOVER. -/
def Dev.oasisSource (d : Dev) (vddio : Bool) : Dev := d.put F.OPWR_STAT_SRC vddio

def isOasis (a : Nat) : Bool := decide (0x400E0000 ≤ a) && decide (a < 0x400E3000)

/-- OASIS_START (R519): every kept field takes its bracketed value. -/
def Dev.oasisStart (d : Dev) : Dev :=
  let gone := fun (a : Nat) => isOasis a && (decide (0x40 ≤ a % 0x1000) || a == R.PCTL P.SENT)
  { d with regs := d.regs.filter (fun e => !gone e.1), shadow := d.shadow.filter (fun e => !isOasis e.1), oasis := {} }

/-- The mode while the main supplies are off (R473, R518): 1 OASIS, 2 SENTINEL. -/
def Dev.offMode (d : Dev) : Nat := if d.enabled P.SENT && !d.oasis.halted then 2 else 1

end Sys2Proof.Machine
end

