-- ==== Sys2Proof/Machine/PioIsa.lean ====
section
/-!
DEFINITION. Machine/PioIsa.lean: the instruction set of the pin engines (R345, R348): the 16-bit word read into an instruction, and an
instruction written as a word.
-/

namespace Sys2Proof.Machine

inductive PioCond where
  | always | loop | azero | altb | inhi | inlo | dry | txfull
  deriving DecidableEq, Repr

inductive XferOp where
  | fill | deliver | txa | arx
  deriving DecidableEq, Repr

inductive CalcFn where
  | addImmA | addImmB | add | sub | band | bxor | shr | shl
  deriving DecidableEq, Repr

inductive TakeSrc where
  | pin | a | b | zero
  deriving DecidableEq, Repr

inductive MoveDst where
  | a | b | lc | pins | dirs | send | take | pc
  deriving DecidableEq, Repr

inductive MoveSrc where
  | a | b | lc | inputs | send | take | sc | imm
  deriving DecidableEq, Repr

inductive AwaitEv where
  | low | high | falling | rising
  deriving DecidableEq, Repr

/-- A pin-engine instruction. `illegal` keeps the operation code that is reserved: 0 to 3 for XFER 4 to 7, 4 and 5 for CTRL 6 and 7. -/
inductive PioInstr where
  | goto (c : PioCond) (addr : BitVec 5)
  | drive (dirs half : Bool) (mask val : BitVec 4)
  | emit (toA : Bool) (n : BitVec 5)
  | take (src : TakeSrc) (n : BitVec 5)
  | xfer (op : XferOp) (nowait : Bool)
  | calc (fn : CalcFn) (operand : BitVec 9)
  | move (dst : MoveDst) (src : MoveSrc) (imm : BitVec 7)
  | ticks (n : BitVec 8)
  | await (ev : AwaitEv) (trig cap : Bool)
  | signal (irq pulse : Bool)
  | stop
  | reva
  | nota
  | illegal (code : Fin 6)
  deriving DecidableEq, Repr

def PioCond.of (c : BitVec 3) : PioCond :=
  match c.toNat with
  | 0 => .always | 1 => .loop | 2 => .azero | 3 => .altb | 4 => .inhi | 5 => .inlo | 6 => .dry | _ => .txfull
def PioCond.code : PioCond → BitVec 3
  | .always => 0 | .loop => 1 | .azero => 2 | .altb => 3 | .inhi => 4 | .inlo => 5 | .dry => 6 | .txfull => 7

def XferOp.code : XferOp → BitVec 3
  | .fill => 0 | .deliver => 1 | .txa => 2 | .arx => 3

def CalcFn.of (c : BitVec 3) : CalcFn :=
  match c.toNat with
  | 0 => .addImmA | 1 => .addImmB | 2 => .add | 3 => .sub | 4 => .band | 5 => .bxor | 6 => .shr | _ => .shl
def CalcFn.code : CalcFn → BitVec 3
  | .addImmA => 0 | .addImmB => 1 | .add => 2 | .sub => 3 | .band => 4 | .bxor => 5 | .shr => 6 | .shl => 7

def TakeSrc.of (c : BitVec 2) : TakeSrc :=
  match c.toNat with
  | 0 => .pin | 1 => .a | 2 => .b | _ => .zero
def TakeSrc.code : TakeSrc → BitVec 2
  | .pin => 0 | .a => 1 | .b => 2 | .zero => 3

def MoveDst.of (c : BitVec 3) : MoveDst :=
  match c.toNat with
  | 0 => .a | 1 => .b | 2 => .lc | 3 => .pins | 4 => .dirs | 5 => .send | 6 => .take | _ => .pc
def MoveDst.code : MoveDst → BitVec 3
  | .a => 0 | .b => 1 | .lc => 2 | .pins => 3 | .dirs => 4 | .send => 5 | .take => 6 | .pc => 7

def MoveSrc.of (c : BitVec 3) : MoveSrc :=
  match c.toNat with
  | 0 => .a | 1 => .b | 2 => .lc | 3 => .inputs | 4 => .send | 5 => .take | 6 => .sc | _ => .imm
def MoveSrc.code : MoveSrc → BitVec 3
  | .a => 0 | .b => 1 | .lc => 2 | .inputs => 3 | .send => 4 | .take => 5 | .sc => 6 | .imm => 7

def AwaitEv.of (c : BitVec 2) : AwaitEv :=
  match c.toNat with
  | 0 => .low | 1 => .high | 2 => .falling | _ => .rising
def AwaitEv.code : AwaitEv → BitVec 2
  | .low => 0 | .high => 1 | .falling => 2 | .rising => 3

def bit1 (b : Bool) : BitVec 1 := BitVec.ofBool b

/-- R345: bits shown as 0 are ignored; a reserved operation is illegal. -/
def pioDecode (w : BitVec 16) : PioInstr :=
  let op := w.extractLsb' 10 3
  match (w.extractLsb' 13 3).toNat with
  | 0 => .goto (PioCond.of op) (w.extractLsb' 0 5)
  | 1 => .drive (w.getLsbD 12) (w.getLsbD 11) (w.extractLsb' 4 4) (w.extractLsb' 0 4)
  | 2 => .emit (w.getLsbD 12) (w.extractLsb' 0 5)
  | 3 => .take (TakeSrc.of (w.extractLsb' 11 2)) (w.extractLsb' 0 5)
  | 4 =>
    (match op.toNat with
     | 0 => .xfer .fill (w.getLsbD 9)
     | 1 => .xfer .deliver (w.getLsbD 9)
     | 2 => .xfer .txa (w.getLsbD 9)
     | 3 => .xfer .arx (w.getLsbD 9)
     | 4 => .illegal 0
     | 5 => .illegal 1
     | 6 => .illegal 2
     | _ => .illegal 3)
  | 5 => .calc (CalcFn.of op) (w.extractLsb' 0 9)
  | 6 => .move (MoveDst.of op) (MoveSrc.of (w.extractLsb' 7 3)) (w.extractLsb' 0 7)
  | _ =>
    (match op.toNat with
     | 0 => .ticks (w.extractLsb' 0 8)
     | 1 => .await (AwaitEv.of (w.extractLsb' 8 2)) (w.getLsbD 7) (w.getLsbD 6)
     | 2 => .signal (w.getLsbD 9) (w.getLsbD 8)
     | 3 => .stop
     | 4 => .reva
     | 5 => .nota
     | 6 => .illegal 4
     | _ => .illegal 5)

/-- The word of an instruction, every bit shown as 0 at 0. -/
def pioEncode : PioInstr → BitVec 16
  | .goto c a => (0#3 ++ c.code ++ 0#5 ++ a)
  | .drive d h m v => (1#3 ++ bit1 d ++ bit1 h ++ 0#3 ++ m ++ v)
  | .emit a n => (2#3 ++ bit1 a ++ 0#7 ++ n)
  | .take s n => (3#3 ++ s.code ++ 0#6 ++ n)
  | .xfer o nw => (4#3 ++ o.code ++ bit1 nw ++ 0#9)
  | .calc f x => (5#3 ++ f.code ++ 0#1 ++ x)
  | .move d s i => (6#3 ++ d.code ++ s.code ++ i)
  | .ticks n => (7#3 ++ 0#3 ++ 0#2 ++ n)
  | .await e t c => (7#3 ++ 1#3 ++ e.code ++ bit1 t ++ bit1 c ++ 0#6)
  | .signal i p => (7#3 ++ 2#3 ++ bit1 i ++ bit1 p ++ 0#8)
  | .stop => (7#3 ++ 3#3 ++ 0#10)
  | .reva => (7#3 ++ 4#3 ++ 0#10)
  | .nota => (7#3 ++ 5#3 ++ 0#10)
  | .illegal c => match c.val with
    | 0 => (4#3 ++ 4#3 ++ 0#10)
    | 1 => (4#3 ++ 5#3 ++ 0#10)
    | 2 => (4#3 ++ 6#3 ++ 0#10)
    | 3 => (4#3 ++ 7#3 ++ 0#10)
    | 4 => (7#3 ++ 6#3 ++ 0#10)
    | _ => (7#3 ++ 7#3 ++ 0#10)

end Sys2Proof.Machine
end

