-- ==== Sys2Proof/Machine/Pio.lean ====
section
/-!
DEFINITION. Machine/Pio.lean: the pin engines (12_pio_engines.md): step times, the instructions, the data registers, halt, resume and
restart, and the group commands.
-/

namespace Sys2Proof.Machine

def Dev.eng (d : Dev) (n : Nat) : Pio := vGet d.pio n
def Dev.setEng (d : Dev) (n : Nat) (x : Pio) : Dev := { d with pio := vSet d.pio n x }
def Dev.updEng (d : Dev) (n : Nat) (f : Pio → Pio) : Dev := d.setEng n (f (d.eng n))

/-- The step period, 2 × DIVRAW tu (R341). -/
def Dev.pioPeriod (d : Dev) (n : Nat) : Nat := 2 * (d.eff (F.PIO_DIV_INT n) * 256 + d.eff (F.PIO_DIV_FRAC n))
/-- 0 HALTED, 1 RUNNING, 2 STALLED. -/
def Dev.pioState (d : Dev) (n : Nat) : Nat := d.get (F.PIO_STAT_STATE n)
def Dev.pioPc (d : Dev) (n : Nat) : Nat := d.get (F.PIO_STAT_PC n)
def Dev.onum (d : Dev) (n : Nat) : Nat := clampN (d.get (F.PIO_PINS_ONUM n)) 1 8
def Dev.wlen (d : Dev) (n : Nat) : Nat := let w := d.eff (F.PIO_CFG_WLEN n); if w = 0 then 32 else w
/-- lanes of R345. -/
def Dev.lanes (d : Dev) (n : Nat) : Nat := min (2 ^ d.eff (F.PIO_CFG_LANES n)) (d.onum n)
/-- A length code: 0 means 32. -/
def len32 (n : BitVec 5) : Nat := if n = 0 then 32 else n.toNat

/-! ## Time (R341, R352, R354, R355) -/

/-- The first step time after `now`, with its step number. -/
def Pio.stepAfter (x : Pio) (now p : Nat) : Nat × Nat :=
  if now < x.next ∨ p = 0 then (x.next, x.sc) else (x.next + ((now - x.next) / p + 1) * p, x.sc + (now - x.next) / p + 1)

/-- R355: the directions and levels the engine drives, by TAP pin. -/
def Dev.pioDriven (d : Dev) (n : Nat) : Word × Word :=
  let x := d.eng n
  (List.range (d.onum n)).foldl (fun (w : Word × Word) j =>
    let b : Word := 1#32 <<< ((d.get (F.PIO_PINS_OBASE n) + j) % 32)
    (if x.dir.getLsbD j then w.1 ||| b else w.1, if x.lvl.getLsbD j then w.2 ||| b else w.2)) (0, 0)

/-- The divider's next step after `now`, from which a newly committed DIVRAW governs (R357). -/
def Dev.pioRebase (d : Dev) (now n : Nat) : Dev :=
  let x := d.eng n
  if d.enabled (P.PIO n) then let s := x.stepAfter now (d.pioPeriod n); d.setEng n { x with next := s.1, sc := s.2 } else d
/-- The page's RWS fields commit at `now` on a HALTED engine (R357). -/
def Dev.pioCommit (d : Dev) (now n : Nat) : Dev := (d.pioRebase now n).commit (P.PIO n)

/-- The engine halts with a cause (R352): `PIO_PROGGEN` is kept in `PIO_HGEN`. A halt still to come meets a HALTED engine and is discarded. -/
def Dev.pioHaltNow (d : Dev) (n cause : Nat) : Dev :=
  let d1 := ((d.set (F.PIO_STAT_STATE n) 0).set (F.PIO_STAT_CAUSE n) cause).put (F.PIO_STAT_WAITING n) false
  (d1.setReg (R.PIO_HGEN n) (d1.reg (R.PIO_PROGGEN n))).updEng n (fun x => { x with halt := none })

/-- What has fallen due by `now`: pins placed at a step, a halt at its step with its commit, the common time of a DSYNC, at which the
divider restarts (R354). -/
def Dev.pioSettle (d : Dev) (now n : Nat) : Dev :=
  let x := d.eng n
  let d1 := match x.outAt with
    | some t => if t ≤ now then let w := d.pioDriven n; d.setEng n { x with outAt := none, dirs := w.1, lvls := w.2 } else d
    | none => d
  let d2 := match x.halt with
    | some (h, c) => if h ≤ now then (d1.pioHaltNow n c).pioCommit h n else d1
    | none => d1
  match x.go with
  | some t =>
    if t ≤ now then (d2.updEng n (fun y => { y with go := none, next := t, sc := 0, smp := none })).set (F.PIO_STAT_STATE n) 1 else d2
  | none => d2
def Dev.pioSettleAll (d : Dev) (now : Nat) : Dev := (List.range 8).foldl (fun d n => d.pioSettle now n) d

/-- `PIO_SC` at `now` (R340). -/
def Dev.pioSc (d : Dev) (now n : Nat) : Word :=
  let x := d.eng n
  if d.enabled (P.PIO n) then BitVec.ofNat 32 ((x.stepAfter now (d.pioPeriod n)).2 - 1) else BitVec.ofNat 32 (x.sc - 1)

/-- The level of every TAP pin, `ext` being what stands on the pins that nothing in the device drives. -/
def Dev.pinLevels (d : Dev) (ext : Word) : Word :=
  (List.range 32).foldl (fun (w : Word) n =>
    let b := match d.tapPin n with | .low => false | .high => true | .hiZ => ext.getLsbD n
    if b then w ||| (1#32 <<< n) else w) 0

/-! ## Data registers (R350, R351) -/

def Dev.txEmpty (d : Dev) (n : Nat) : Dev := (d.put (F.PIO_STAT_TXF n) false).irq (P.PIO n) 1
def Dev.rxFill (d : Dev) (n : Nat) (w : Word) : Dev :=
  ((d.updEng n (fun x => { x with rx := w })).put (F.PIO_STAT_RXF n) true).irq (P.PIO n) 0
def Dev.clearTake (d : Dev) (n : Nat) : Dev := (d.setReg (R.PIO_TAKE n) 0).set (F.PIO_SHST_TGOT n) 0

/-- RX := TAKE, TAKE := 0, TGOT := 0. -/
def Dev.pioDeliver (d : Dev) (n : Nat) : Dev := (d.rxFill n (d.reg (R.PIO_TAKE n))).clearTake n
/-- SEND := TX, SLEFT := WLEN, TX empty. -/
def Dev.fillSend (d : Dev) (n : Nat) : Dev :=
  ((d.setReg (R.PIO_SEND n) (d.eng n).tx).set (F.PIO_SHST_SLEFT n) (d.wlen n)).txEmpty n

/-- PIO_TX_WRITE. -/
def Dev.pioTxWrite (d : Dev) (n : Nat) (w : Word) : Dev :=
  if d.flag (F.PIO_STAT_TXF n) then
    ((d.put (F.PIO_STAT_TX_OVF n) true).irq (P.PIO n) 5).incSat (F.PIO_CNT_OVF n)
  else (d.updEng n (fun x => { x with tx := w })).put (F.PIO_STAT_TXF n) true
/-- PIO_RX_READ: the device after it and the word. -/
def Dev.pioRxRead (d : Dev) (n : Nat) : Dev × Word :=
  if d.flag (F.PIO_STAT_RXF n) then (d.put (F.PIO_STAT_RXF n) false, (d.eng n).rx)
  else ((d.put (F.PIO_STAT_RX_UNF n) true).irq (P.PIO n) 9, 0)

/-! ## Instructions -/

def Dev.pioNext (d : Dev) (n : Nat) : Dev := d.set (F.PIO_STAT_PC n) (d.pioPc n + 1)
def Dev.pioRun (d : Dev) (n : Nat) (st : Nat) : Dev := d.set (F.PIO_STAT_STATE n) st

/-- GOTO (R345). -/
def Dev.pioGoto (d : Dev) (n : Nat) (pin : Bool) (c : PioCond) (a : BitVec 5) : Dev :=
  let A := d.reg (R.PIO_A n)
  let lc := d.reg (R.PIO_LC n)
  let holds := match c with
    | .always => true
    | .loop => decide (lc ≠ 0)
    | .azero => decide (A = 0)
    | .altb => A.ult (d.reg (R.PIO_B n))
    | .inhi => pin
    | .inlo => !pin
    | .dry => d.get (F.PIO_SHST_SLEFT n) == 0
    | .txfull => d.flag (F.PIO_STAT_TXF n)
  let d1 := if c = .loop ∧ lc ≠ 0 then d.setReg (R.PIO_LC n) (lc - 1) else d
  if holds then d1.set (F.PIO_STAT_PC n) a.toNat else d1.pioNext n

/-- Write bits of `v` to the level or direction latches of the output pins `mask` picks. -/
def Dev.pioLatch (d : Dev) (n : Nat) (dirs : Bool) (mask v : BitVec 8) : Dev :=
  d.updEng n (fun x =>
    if dirs then { x with dir := (x.dir &&& ~~~mask) ||| (v &&& mask) } else { x with lvl := (x.lvl &&& ~~~mask) ||| (v &&& mask) })
/-- The output pins below ONUM. -/
def Dev.onumMask (d : Dev) (n : Nat) : BitVec 8 := BitVec.ofNat 8 (2 ^ d.onum n - 1)

/-- DRIVE (R345). -/
def Dev.pioDrive (d : Dev) (n : Nat) (dirs half : Bool) (m v : BitVec 4) : Dev :=
  let sh := if half then 4 else 0
  (d.pioLatch n dirs ((m.setWidth 8 <<< sh) &&& d.onumMask n) (v.setWidth 8 <<< sh)).pioNext n

/-- R346 step 2: g bits out of SEND: the group, SEND after it. -/
def emitGroup (send : Word) (sleft g : Nat) (lsb : Bool) : Word × Word :=
  let take := min g sleft
  if lsb then (send &&& (BitVec.allOnes 32 >>> (32 - take)), send >>> g)
  else (((send >>> (sleft - take)) &&& (BitVec.allOnes 32 >>> (32 - take))) <<< (g - take), send)

/-- One group of an EMIT with PROG bits to move (R346). -/
def Dev.emitStep (d : Dev) (n : Nat) (toA : Bool) : Dev :=
  let prog := d.get (F.PIO_SHST_PROG n)
  let g := if toA then prog else min (d.lanes n) prog
  let dry := d.get (F.PIO_SHST_SLEFT n) == 0 && d.effB (F.PIO_CFG_AFILL n)
  if dry && !d.flag (F.PIO_STAT_TXF n) then d.pioRun n 2
  else
    let d1 := if dry then d.fillSend n else d
    let sl := d1.get (F.PIO_SHST_SLEFT n)
    let (v, s') := emitGroup (d1.reg (R.PIO_SEND n)) sl g (d1.effB (F.PIO_CFG_SORDER n))
    let d2 := (d1.setReg (R.PIO_SEND n) s').set (F.PIO_SHST_SLEFT n) (sl - g)
    let d3 := if toA then d2.setReg (R.PIO_A n) ((d2.reg (R.PIO_A n) <<< g) ||| v)
      else d2.pioLatch n false (BitVec.ofNat 8 (2 ^ g - 1)) (v.setWidth 8)
    let d4 := (d3.set (F.PIO_SHST_PROG n) (prog - g)).pioRun n 1
    if prog ≤ g then d4.pioNext n else d4

/-- One group of a TAKE with PROG bits to move (R347), with the delivery of R350. -/
def Dev.takeStep (d : Dev) (n : Nat) (pin : Bool) (src : TakeSrc) : Dev :=
  let prog := d.get (F.PIO_SHST_PROG n)
  let g := if src = .pin then 1 else prog
  let mask : Word := BitVec.allOnes 32 >>> (32 - g)
  let v : Word := match src with
    | .pin => if pin then 1 else 0
    | .a => d.reg (R.PIO_A n) &&& mask
    | .b => d.reg (R.PIO_B n) &&& mask
    | .zero => 0
  let got := d.get (F.PIO_SHST_TGOT n)
  let tk := d.reg (R.PIO_TAKE n)
  let tk' := if d.effB (F.PIO_CFG_SORDER n) then tk ||| (v <<< got) else (tk <<< g) ||| v
  let got' := min (got + g) 32
  let d1 := (((d.setReg (R.PIO_TAKE n) tk').set (F.PIO_SHST_TGOT n) got').set (F.PIO_SHST_PROG n) (prog - g)).pioRun n 1
  let last := fun (d : Dev) => if prog ≤ g then d.pioNext n else d
  if d.effB (F.PIO_CFG_ADELIV n) && decide (d.wlen n ≤ got') then
    if d.flag (F.PIO_STAT_RXF n) then (d1.put (F.PIO_STAT_DPEND n) true).pioRun n 2 else last (d1.pioDeliver n)
  else last d1

/-- XFER (R345). -/
def Dev.pioXfer (d : Dev) (n : Nat) (op : XferOp) (nowait : Bool) : Dev :=
  let ready := match op with
    | .fill | .txa => d.flag (F.PIO_STAT_TXF n)
    | .deliver | .arx => !d.flag (F.PIO_STAT_RXF n)
  if ready then
    let d1 := match op with
      | .fill => d.fillSend n
      | .deliver => d.pioDeliver n
      | .txa => (d.setReg (R.PIO_A n) (d.eng n).tx).txEmpty n
      | .arx => d.rxFill n (d.reg (R.PIO_A n))
    (d1.pioRun n 1).pioNext n
  else if nowait then
    let d1 := if op = .deliver then
        (((d.clearTake n).put (F.PIO_STAT_RX_OVF n) true).irq (P.PIO n) 4).incSat (F.PIO_CNT_OVF n)
      else d
    (d1.pioRun n 1).pioNext n
  else d.pioRun n 2

/-- CALC (R345). -/
def Dev.pioCalc (d : Dev) (n : Nat) (fn : CalcFn) (x : BitVec 9) : Dev :=
  let A := d.reg (R.PIO_A n)
  let B := d.reg (R.PIO_B n)
  let imm : Word := x.signExtend 32
  let s := x.toNat % 32
  let d1 := match fn with
    | .addImmA => d.setReg (R.PIO_A n) (A + imm)
    | .addImmB => d.setReg (R.PIO_B n) (B + imm)
    | .add => d.setReg (R.PIO_A n) (A + B)
    | .sub => d.setReg (R.PIO_A n) (A - B)
    | .band => d.setReg (R.PIO_A n) (A &&& B)
    | .bxor => d.setReg (R.PIO_A n) (A ^^^ B)
    | .shr => d.setReg (R.PIO_A n) (A >>> s)
    | .shl => d.setReg (R.PIO_A n) (A <<< s)
  d1.pioNext n

/-- TAP pins IBASE to IBASE + 7 (R345). -/
def inputs8 (levels : Word) (ibase : Nat) : Word :=
  (List.range 8).foldl (fun (w : Word) j => if levels.getLsbD ((ibase + j) % 32) then w ||| (1#32 <<< j) else w) 0

/-- MOVE (R345). -/
def Dev.pioMove (d : Dev) (n : Nat) (levels : Word) (sc : Nat) (dst : MoveDst) (src : MoveSrc) (imm : BitVec 7) : Dev :=
  let v : Word := match src with
    | .a => d.reg (R.PIO_A n) | .b => d.reg (R.PIO_B n) | .lc => d.reg (R.PIO_LC n)
    | .inputs => inputs8 levels (d.get (F.PIO_PINS_IBASE n))
    | .send => d.reg (R.PIO_SEND n) | .take => d.reg (R.PIO_TAKE n) | .sc => BitVec.ofNat 32 sc | .imm => imm.setWidth 32
  match dst with
  | .a => (d.setReg (R.PIO_A n) v).pioNext n
  | .b => (d.setReg (R.PIO_B n) v).pioNext n
  | .lc => (d.setReg (R.PIO_LC n) (v &&& 0xFFFF#32)).pioNext n
  | .pins => (d.pioLatch n false (d.onumMask n) (v.setWidth 8)).pioNext n
  | .dirs => (d.pioLatch n true (d.onumMask n) (v.setWidth 8)).pioNext n
  | .send => ((d.setReg (R.PIO_SEND n) v).set (F.PIO_SHST_SLEFT n) (d.wlen n)).pioNext n
  | .take => ((d.setReg (R.PIO_TAKE n) v).set (F.PIO_SHST_TGOT n) 0).pioNext n
  | .pc => d.set (F.PIO_STAT_PC n) v.toNat

/-- AWAIT at one step (R348): `prev` the sample of the step before. -/
def Dev.pioAwait (d : Dev) (n : Nat) (pin prev : Bool) (sc : Nat) (ev : AwaitEv) (trig cap : Bool) : Dev :=
  let done : Option Dev :=
    if trig then (d.trigAccept (40 + n)).map (·.2)
    else
      let b := match ev with
        | .low => !pin | .high => pin | .falling => prev && !pin | .rising => !prev && pin
      if b then some d else none
  match done with
  | none => d.put (F.PIO_STAT_WAITING n) true
  | some d1 =>
    let s : Word := BitVec.ofNat 32 sc
    let d2 := if cap then (d1.setReg (R.PIO_A n) (s - (d1.eng n).scap)).updEng n (fun x => { x with scap := s }) else d1
    (d2.put (F.PIO_STAT_WAITING n) false).pioNext n

/-- SIGNAL (R345). -/
def Dev.pioSignal (d : Dev) (n ts : Nat) (irq pulse : Bool) : Dev :=
  let d1 := if irq then d.irq (P.PIO n) 2 else d
  (if pulse then d1.trigger (0x61 + n) ts else d1).pioNext n

/-- R349: the engine halts itself. -/
def Dev.pioSelfHalt (d : Dev) (n cause : Nat) : Dev :=
  (((d.pioHaltNow n cause).commit (P.PIO n)).setReg (R.PIO_HGEN n) 0xFFFFFFFF).irq (P.PIO n) 3

def reverse32 (w : Word) : Word :=
  (List.range 32).foldl (fun (r : Word) i => if w.getLsbD i then r ||| (1#32 <<< (31 - i)) else r) 0

/-- The issue of an instruction at the step time ts with number sc: `levels` the pin levels, `pin` and `prev` the input pin now and at the step
before. -/
def Dev.pioIssue (d : Dev) (n ts sc : Nat) (levels : Word) (pin prev : Bool) (i : PioInstr) : Dev :=
  match i with
  | .goto c a => d.pioGoto n pin c a
  | .drive dd h m v => d.pioDrive n dd h m v
  | .emit a k => (d.set (F.PIO_SHST_PROG n) (len32 k)).emitStep n a
  | .take s k => (d.set (F.PIO_SHST_PROG n) (len32 k)).takeStep n pin s
  | .xfer o nw => d.pioXfer n o nw
  | .calc f x => d.pioCalc n f x
  | .move x y im => d.pioMove n levels sc x y im
  | .ticks k => let d1 := d.set (F.PIO_SHST_WAITC n) k.toNat; if k = 0 then d1.pioNext n else d1
  | .await e t c => d.pioAwait n pin prev sc e t c
  | .signal q p => d.pioSignal n ts q p
  | .stop => (d.pioNext n).pioSelfHalt n 2
  | .reva => (d.setReg (R.PIO_A n) (reverse32 (d.reg (R.PIO_A n)))).pioNext n
  | .nota => (d.setReg (R.PIO_A n) (~~~d.reg (R.PIO_A n))).pioNext n
  | .illegal _ => (d.pioSelfHalt n 3).rep (P.PIO n) 0x4B 0

/-- A further step of the instruction at PC (R342). Where a DSYNC's gap put an instruction of one step there, that one issues and what was
still to move is given up (notes/assumptions/38.md). -/
def Dev.pioContinue (d : Dev) (n ts sc : Nat) (levels : Word) (pin prev : Bool) (i : PioInstr) : Dev :=
  match i with
  | .emit a _ => d.emitStep n a
  | .take s _ => d.takeStep n pin s
  | .ticks _ =>
    let w := d.get (F.PIO_SHST_WAITC n) - 1
    let d1 := d.set (F.PIO_SHST_WAITC n) w
    if w = 0 then d1.pioNext n else d1
  | .await e t c => d.pioAwait n pin prev sc e t c
  | _ => ((d.set (F.PIO_SHST_PROG n) 0).set (F.PIO_SHST_WAITC n) 0).pioIssue n ts sc levels pin prev i

/-- A pending delivery at a step (R350). -/
def Dev.pioDpend (d : Dev) (n : Nat) : Dev :=
  if d.flag (F.PIO_STAT_RXF n) then d
  else
    let d1 := ((d.pioDeliver n).put (F.PIO_STAT_DPEND n) false).pioRun n 1
    if d.get (F.PIO_SHST_PROG n) = 0 then d1.pioNext n else d1

/-- What the engine does at its next step. -/
inductive PioDo where
  | delivery
  | more
  | issue (i : PioInstr)
  deriving DecidableEq, Repr

def pioAddr (n i : Nat) : Nat := 0x41300000 + 0x80 * n + 4 * i
def Dev.pioInstr (d : Dev) (n : Nat) : PioInstr := pioDecode ((d.word (pioAddr n (d.pioPc n))).extractLsb' 0 16)

def Dev.pioDo (d : Dev) (n : Nat) : PioDo :=
  if d.flag (F.PIO_STAT_DPEND n) then .delivery
  else if d.get (F.PIO_SHST_PROG n) != 0 || d.get (F.PIO_SHST_WAITC n) != 0 || d.flag (F.PIO_STAT_WAITING n) then .more
  else .issue (d.pioInstr n)

/-- R342: below the specified supply an instruction may fail to complete in time and loses one step; `f` decides, and places its outputs. -/
def Dev.pioSlip (d : Dev) (n p f : Nat) : Dev :=
  let x := d.eng n
  let d1 := d.setEng n { x with next := x.next + p, sc := x.sc + 1, outAt := x.outAt.map (fun t => t + f % p) }
  (((d1.put (F.PIO_STAT_SLIP n) true).incSat (F.PIO_CNT_SLIP n)).irq (P.PIO n) 8).rep (P.PIO n) 0x49 0

/-- One step of engine n, when one is due and it is of the kind `want`: RWS fields commit (R357), the input is sampled (R348), the engine
acts, and its pin writes take effect at the following step. -/
def Dev.pioStep (d : Dev) (now n : Nat) (ext : Word) (want : PioDo → Bool) : Dev :=
  let d0 := d.pioSettle now n
  let x := d0.eng n
  if d0.running (P.PIO n) && d0.pioState n != 0 && decide (x.next ≤ now) && x.go.isNone && want (d0.pioDo n) then
    let ts := x.next
    let levels := d0.pinLevels ext
    let pin := levels.getLsbD (d0.get (F.PIO_PINS_IBASE n))
    let d1 := d0.commit (P.PIO n)
    let p := d1.pioPeriod n
    let known := match x.smp with | some (t, b) => if t + d0.pioPeriod n = ts then some b else none | none => none
    let prev := known.getD (d1.fresh % 2 == 1)
    let d2 := if known.isSome then d1 else d1.tickFree
    let d3 := match d0.pioDo n with
      | .delivery => d2.pioDpend n
      | .more => d2.pioContinue n ts x.sc levels pin prev (d2.pioInstr n)
      | .issue i => d2.pioIssue n ts x.sc levels pin prev i
    let d4 := d3.updEng n (fun y => { y with next := ts + p, sc := x.sc + 1, smp := some (ts, pin), outAt := some (ts + p) })
    if d4.flag F.SYS_VMON_UNDERSPEC then
      let f := d4.fresh
      if f % 2 = 0 then d4.tickFree else d4.tickFree.pioSlip n p (f / 2)
    else d4
  else d0

/-! ## Halt, resume, restart (R352, R353) -/

/-- HALT with a cause: at the first step time after the grant; discarded on a HALTED engine. After a DSYNC that has not yet halted the
engine, the HALT stands and the engine does not go on. -/
def Dev.pioHalt (d : Dev) (now n cause : Nat) : Dev :=
  let d0 := d.pioSettle now n
  let x := d0.eng n
  if d0.pioState n = 0 then d0
  else if x.halt.isSome && x.go.isNone then d0
  else d0.setEng n { x with halt := some ((x.stepAfter now (d0.pioPeriod n)).1, cause), go := none }

/-- RESUME of one engine: the device and whether it was refused. -/
def Dev.pioResume (d : Dev) (now n : Nat) : Dev × Bool :=
  let d0 := d.pioSettle now n
  let x := d0.eng n
  if d0.pioState n ≠ 0 ∨ x.go ≠ none ∨ !d0.enabled (P.PIO n) then (d0, false)
  else if d0.reg (R.PIO_PROGGEN n) = d0.reg (R.PIO_HGEN n) then
    let s := x.stepAfter now (d0.pioPeriod n)
    ((d0.setEng n { x with next := s.1, sc := s.2 }).pioRun n 1, false)
  else (((d0.put (F.PIO_STAT_RESUME_REFUSED n) true).irq (P.PIO n) 7).rep (P.PIO n) 0x4C 0, true)

/-- RESTART with its start time: a RUNNING or STALLED engine stops at once, as by the HALT of cause `cause`. -/
def Dev.pioRestartAt (d : Dev) (now n t0 cause : Nat) : Dev :=
  let s := d.pioSettle now n
  let d0 := if s.pioState n = 0 then s else s.pioHaltNow n cause
  let d1 := ((d0.setReg (R.PIO_SEND n) 0).setReg (R.PIO_TAKE n) 0).setReg (R.PIO_SHST n) 0
  let d2 := ((d1.put (F.PIO_STAT_DPEND n) false).put (F.PIO_STAT_WAITING n) false).commit (P.PIO n)
  let d3 := (d2.set (F.PIO_STAT_PC n) (d2.get (F.PIO_CFG_ENTRY n))).pioRun n 1
  d3.updEng n (fun x => { x with next := t0, sc := 0, scap := 0, halt := none, go := none, smp := none })
/-- The second reference edge after `now` (R351, R565). -/
def Dev.pioT0 (d : Dev) (now : Nat) : Nat := d.edgeAfter now 2
def Dev.pioRestart (d : Dev) (now n : Nat) : Dev := if d.enabled (P.PIO n) then d.pioRestartAt now n (d.pioT0 now) 1 else d

/-- PIO_CLR (R358). -/
def Dev.pioClr (d : Dev) (n : Nat) : Dev := d.setReg (R.PIO_CNT n) 0

/-- R344: the next `PIO_PROGGEN`. -/
def genNext (g : Word) : Word := if g = 0xFFFFFFFE then 0 else g + 1

/-- PROGRAM_WRITE (R344): i below 32 a program word, 32 to 36 the registers A, B, LC, SEND, TAKE. -/
def Dev.programWrite (d : Dev) (now n i : Nat) (w : Word) : Dev :=
  let d0 := d.pioSettle now n
  if d0.pioState n ≠ 0 then
    ((d0.put (F.PIO_STAT_PROG_REFUSED n) true).irq (P.PIO n) 6).rep (P.PIO n) 0x4A 0
  else
    let d1 := match i with
      | 32 => d0.setReg (R.PIO_A n) w
      | 33 => d0.setReg (R.PIO_B n) w
      | 34 => d0.setReg (R.PIO_LC n) (w &&& 0xFFFF#32)
      | 35 => d0.setReg (R.PIO_SEND n) w
      | 36 => d0.setReg (R.PIO_TAKE n) w
      | _ => (d0.setWord (pioAddr n (i % 32)) (w &&& 0xFFFF#32)).setReg (R.PIO_PROGGEN n) (genNext (d0.reg (R.PIO_PROGGEN n)))
    d1.bumpGen (P.PIO n)

/-- A write of `PIO_PINS` takes effect at the next step (R355): none comes while the divider stands. -/
def Dev.pioPins (d : Dev) (now n : Nat) : Dev :=
  if d.enabled (P.PIO n) then d.updEng n (fun x => { x with outAt := some (x.outAt.getD (x.stepAfter now (d.pioPeriod n)).1) }) else d

/-- `PCTL.ENABLE` written to 1: the divider runs again (R341); when its next step falls is open. -/
def Dev.pioEnable (d : Dev) (now n : Nat) : Dev :=
  let t := now + 1 + d.fresh % d.pioPeriod n
  (d.tickFree).updEng n (fun x => { x with next := t, outAt := some (x.outAt.getD t) })
/-- `PCTL.ENABLE` written to 0 (R357): the divider stops where it stands, an output already placed still takes effect. -/
def Dev.pioDisable (d : Dev) (now n : Nat) : Dev :=
  let d0 := d.pioSettle now n
  let s := (d0.eng n).stepAfter now (d0.pioPeriod n)
  let d1 := d0.updEng n (fun x => { x with halt := none, go := none, next := s.1, sc := s.2 })
  (if d0.pioState n = 0 then d1 else d1.pioHaltNow n 4).commit (P.PIO n)
/-- A block restart (R357): the engine is as after power-on; its program stays. -/
def Dev.pioReset (d : Dev) (n : Nat) : Dev := d.setEng n {}
/-- FREEZE back at 0: issue continues at the next step (R353). -/
def Dev.pioThaw (d : Dev) (now n : Nat) : Dev :=
  let x := d.eng n
  let s := x.stepAfter now (d.pioPeriod n)
  d.setEng n { x with next := s.1, sc := s.2, smp := none }

/-! ## Group control (R354) -/

def maskBits (m : Word) : List Nat := (List.range 8).filter (fun n => m.getLsbD n)

/-- `PIOG_STAT`: the command and the engines it refused, with the report. -/
def Dev.piogDone (d : Dev) (cmd refused : Nat) : Dev :=
  let d1 := (d.set F.PIOG_STAT_LASTCMD cmd).set F.PIOG_STAT_REFUSED refused
  if refused = 0 then d1 else (d1.irq P.PIOG 0).rep P.PIOG 0x4D 0

def Dev.piogStart (d : Dev) (now : Nat) (m : Word) : Dev :=
  let l := maskBits m
  if l.any (fun n => !d.enabled (P.PIO n) || d.restarting (P.PIO n)) then d.piogDone 1 (m.toNat % 256)
  else (l.foldl (fun (e : Dev) n => e.pioRestartAt now n (d.pioT0 now) 5) d).piogDone 1 0

def Dev.piogHalt (d : Dev) (now : Nat) (m : Word) : Dev :=
  ((maskBits m).foldl (fun d n => d.pioHalt now n 5) d).piogDone 2 0

def Dev.piogResume (d : Dev) (now : Nat) (m : Word) : Dev :=
  let r := (maskBits m).foldl (fun (p : Dev × Nat) n =>
    let (d1, bad) := p.1.pioResume now n
    (d1, if bad then p.2 + 2 ^ n else p.2)) (d, 0)
  r.1.piogDone 3 r.2

/-- PIOG_DSYNC: each engine halts at its next step; all go on at the first reference edge two periods after the latest of these. -/
def Dev.piogDsync (d : Dev) (now : Nat) (m : Word) : Dev :=
  let d0 := d.pioSettleAll now
  let l := (maskBits m).filter (fun n => d0.pioState n != 0)
  let h := fun n => ((d0.eng n).stepAfter now (d0.pioPeriod n)).1
  let last := l.foldl (fun a n => max a (h n)) 0
  let t0 := d0.edgeFrom (last + 1024)
  (l.foldl (fun d n => d.updEng n (fun x => { x with halt := some (h n, 5), go := some t0 })) d0).piogDone 4 0

end Sys2Proof.Machine
end

