-- ==== Sys2Proof/Machine/Tmr.lean ====
section
/-!
DEFINITION. Machine/Tmr.lean: the time-domain timers (11_time_timers.md): ticks, wrap and match, buffered and immediate changes,
start, stop, triggers and stagger groups.
-/

namespace Sys2Proof.Machine

def Dev.tmr (d : Dev) (k : Nat) : Tmr := vGet d.tmrs k
def Dev.setTmr (d : Dev) (k : Nat) (x : Tmr) : Dev := { d with tmrs := vSet d.tmrs k x }
def Dev.updTmr (d : Dev) (k : Nat) (f : Tmr → Tmr) : Dev := d.setTmr k (f (d.tmr k))

def tmrPage (k : Nat) : Nat := P.TMR (k / 2)
/-- The PIRQ bit of a channel (R338): `b` 0 MATCH, 1 WRAP, 2 PASSED, 3 FWRAP. -/
def Dev.tmrIrq (d : Dev) (k b : Nat) : Dev := d.irq (tmrPage k) (4 * (k % 2) + b)

/-- The second reference edge after `t` (R328). -/
def Dev.secondEdge (d : Dev) (t : Nat) : Nat := d.gridAfter t 2

def Dev.tmrCount (d : Dev) (k : Nat) : Nat := (d.reg (R.TMR_COUNT k)).toNat
def Dev.tmrRunning (d : Dev) (k : Nat) : Bool := d.flag (F.TMR_STAT_RUNNING k)
def Dev.tmrArmed (d : Dev) (k : Nat) : Bool := d.flag (F.TMR_STAT_ARMED k)
def Dev.tmrCounts (d : Dev) (k : Nat) : Bool := d.eff (F.TMR_CFG_TRIG_ACT k) == 3
/-- The ticks' distance (R322). -/
def Dev.tmrStep (d : Dev) (k : Nat) : Nat := (d.eff (F.TMR_CFG_DIV k) + 1) * 512

def Dev.tmrCommit (d : Dev) (k : Nat) : Dev := d.commitSel (tmrPage k) (fun a => a == R.TMR_CFG k)

/-- R327. -/
def Dev.tmrNever (d : Dev) (k : Nat) : Dev :=
  d.put (F.TMR_STAT_NEVER k) (decide ((d.reg (R.TMR_ACTREL k)).toNat < (d.reg (R.TMR_ACTCMP k)).toNat))

def Dev.tmrOut (d : Dev) (k : Nat) (b : Bool) : Dev := d.put (F.TMR_STAT_OUT k) b

/-- Does the start tick asked for come before the next tick of the channel? -/
def Tmr.starts (x : Tmr) : Bool :=
  match x.startAt, x.next with
  | some s, some n => decide (s ≤ n)
  | some _, none => true
  | none, _ => false

/-- The next tick that is decided one reference period before (R324); the start tick of a member that only waits there has no decision. -/
def Tmr.due (x : Tmr) : Option Nat := if x.starts then (if x.ofs = 0 then x.startAt else none) else x.next

/-- The channel stops (R328): the count holds, OUT takes IDLE, CFG commits at once. A start tick asked for stays in `x`. -/
def Dev.tmrHaltAs (d : Dev) (k : Nat) (x : Tmr) : Dev :=
  let d1 := (d.setTmr k x).tmrCommit k
  (((d1.put (F.TMR_STAT_RUNNING k) false).put (F.TMR_STAT_ARMED k) false).put (F.TMR_CTL_RUN k) x.startAt.isSome).tmrOut k
    (d1.effB (F.TMR_CFG_IDLE k))
def Dev.tmrHalt (d : Dev) (k : Nat) : Dev := d.tmrHaltAs k {}
/-- A stop asked for acts at the tick decision. -/
def Dev.tmrStopNow (d : Dev) (k : Nat) : Dev := d.tmrHaltAs k { startAt := (d.tmr k).startAt, ofs := (d.tmr k).ofs }

/-- R324, R328, R336: the tick decision. A channel asked to stop stops; otherwise the decision fixes what the tick sees, and at the decision of
a wrap tick the configuration commits. -/
def Dev.tmrDecide (d : Dev) (k : Nat) : Dev :=
  let x := d.tmr k
  if x.dec.isSome then d
  else if x.stop && !x.starts && d.tmrRunning k then d.tmrStopNow k
  else
    let d1 := d.setTmr k { x with dec := some (d.reg (R.TMR_RELOAD k), d.reg (R.TMR_COMPARE k), x.fw), fw := false, stop := false }
    if x.fw || x.starts || d.tmrArmed k || decide (d.tmrCount k = 0) then d1.tmrCommit k else d1

/-- R324: a write granted at `now` meets the decision of the next reference tick, which falls one reference period before it and takes up to
6 stages (9.7 ns, a bound that does not hold under R21): which is granted first inside these is open. -/
def Dev.tmrMeet (d : Dev) (now k : Nat) : Dev :=
  match (d.tmr k).due with
  | some n =>
    let at_ := d.edgeFrom (n - 512)
    if (d.tmr k).dec.isSome || decide (now < at_) then d
    else if at_ + 124 ≤ now ∧ (!d.supply.under ∨ d.edgeFrom n ≤ now) then d.tmrDecide k
    else if d.fresh % 2 = 0 then d.tickFree else d.tickFree.tmrDecide k
  | none => d

/-- The present count under R324: after a decision, the count the tick enters. -/
def Dev.tmrPresent (d : Dev) (k : Nat) : Nat :=
  match (d.tmr k).dec with
  | some (r, _, fw) =>
    if fw || (d.tmr k).starts || d.tmrArmed k || decide (d.tmrCount k = 0) then r.toNat else d.tmrCount k - 1
  | none => d.tmrCount k

/-- A wrap event (R323, R330, R332). -/
def Dev.tmrWrap (d : Dev) (k t : Nat) (r c : Word) : Dev :=
  let d1 := (((d.setReg (R.TMR_COUNT k) r).setReg (R.TMR_ACTREL k) r).setReg (R.TMR_ACTCMP k) c).tmrNever k
  let d2 := (d1.setLH (R.TMR_WRAP_LO k) (R.TMR_WRAP_HI k) t).tmrIrq k 1
  if d.eff (F.TMR_CFG_OUTMODE k) = 0 then d2.tmrOut k true else d2

/-- A match event (R330, R332): a pulse on source 0x41 + k, or the MATCH bit. -/
def Dev.tmrMatch (d : Dev) (k t : Nat) : Dev :=
  let d1 := d.inc (F.TMR_CNT_MATCH_MATCH k)
  let d2 := match d.eff (F.TMR_CFG_OUTMODE k) with
    | 0 => d1.tmrOut k false
    | 1 => d1.tmrOut k (!d1.flag (F.TMR_STAT_OUT k))
    | _ => d1.tmrOut k true
  if d.effB (F.TMR_CFG_CLASS k) then d2.trigger (0x41 + k) t
  else (d2.put (F.TMR_STAT_MATCH k) true).tmrIrq k 0

/-- A match when the count has entered the active compare; a PULSE output ends on a tick without one. -/
def Dev.tmrEnter (d : Dev) (k t : Nat) : Dev :=
  let d1 := if d.eff (F.TMR_CFG_OUTMODE k) = 2 then d.tmrOut k false else d
  if d.reg (R.TMR_COUNT k) = d.reg (R.TMR_ACTCMP k) then d1.tmrMatch k t else d1

/-- A forced wrap's marks (R325). -/
def Dev.tmrForced (d : Dev) (k : Nat) : Dev :=
  ((d.put (F.TMR_STAT_FWRAP k) true).tmrIrq k 3).incSat (F.TMR_CNT_ERR_FWRAP k)

/-- An immediate compare written after the decision acts now (R326). -/
def Dev.tmrImm (d : Dev) (k : Nat) (imm : Option Word) : Dev :=
  match imm with
  | some w => (d.setReg (R.TMR_ACTCMP k) w).tmrNever k
  | none => d

/-- One tick of a running channel with time t (R323). -/
def Dev.tmrTick (d : Dev) (k t : Nat) : Dev :=
  let d0 := d.tmrDecide k
  match (d0.tmr k).dec with
  | none => d0
  | some (r, c, fw) =>
    let imm := (d0.tmr k).imm
    let d1 := d0.updTmr k (fun x => { x with dec := none, imm := none })
    let d2 := if fw || decide (d.tmrCount k = 0) then
        let e := d1.tmrWrap k t r c
        if fw then e.tmrForced k else e
      else d1.setReg (R.TMR_COUNT k) (d1.reg (R.TMR_COUNT k) - 1)
    (d2.tmrEnter k t).tmrImm k imm

/-- The first tick of a channel (R328), or of a group member at its own offset: `n` what its edge implies. What was asked for after its
decision goes on behind it. -/
def Dev.tmrFirst (d : Dev) (k n : Nat) : Dev :=
  let x := d.tmr k
  let t := d.edgeFrom n
  let dec := if x.starts || d.tmrArmed k then x.dec else none
  let d0 := match dec with
    | some _ => d.setTmr k { fw := x.fw, stop := x.stop, startAt := x.after }
    | none => (d.tmrCommit k).setTmr k {}
  let (r, c, _) := dec.getD (d.reg (R.TMR_RELOAD k), d.reg (R.TMR_COMPARE k), false)
  let d1 := (d0.put (F.TMR_STAT_RUNNING k) true).put (F.TMR_STAT_ARMED k) false
  let d2 := ((d1.tmrWrap k t r c).tmrEnter k t).tmrImm k (if dec.isSome then x.imm else none)
  if d2.tmrCounts k then d2 else d2.updTmr k (fun y => { y with next := some (n + d2.tmrStep k) })

/-- START_TICK (R328, R333): the start tick asked for; a member with an offset stays ARMED until its first wrap. -/
def Dev.startTick (d : Dev) (now k : Nat) : Dev :=
  let x := d.tmr k
  match x.startAt with
  | none => d
  | some s =>
    if now < d.edgeFrom s || !d.running (tmrPage k) then d
    else if x.ofs = 0 then d.tmrFirst k s
    else
      let d1 := d.setTmr k { next := some (s + x.ofs * d.tmrStep k) }
      ((d1.put (F.TMR_STAT_RUNNING k) false).put (F.TMR_STAT_ARMED k) true).tmrOut k (d1.effB (F.TMR_CFG_IDLE k))

/-- TIMER_TICK (R322, R323, R328): the next reference tick of the channel, once its time has come, or the decision of it at which the channel
stops. -/
def Dev.timerTick (d : Dev) (now k : Nat) : Dev :=
  let x := d.tmr k
  match x.next with
  | none => d
  | some n =>
    if x.starts || d.frozen (tmrPage k) then d
    else if x.stop && x.dec.isNone && d.tmrRunning k then (if now < d.edgeFrom (n - 512) then d else d.tmrStopNow k)
    else if now < d.edgeFrom n || !d.running (tmrPage k) then d
    else if d.tmrArmed k then d.tmrFirst k n
    else
      let d1 := d.tmrTick k (d.edgeFrom n)
      if d1.tmrRunning k then
        let nx := if d1.tmrCounts k then none else some (n + d1.tmrStep k)
        d1.updTmr k (fun y => { y with next := nx })
      else d1

/-- TIMER_RUN (R328): discarded while running. -/
def Dev.timerRun (d : Dev) (now k : Nat) : Dev :=
  let d1 := d.tmrMeet now k
  if d1.tmrRunning k || d1.tmrArmed k || (d1.tmr k).startAt.isSome || !d1.enabled (tmrPage k) then d1
  else (d1.setTmr k { startAt := some (d1.secondEdge now) }).put (F.TMR_CTL_RUN k) true

/-- TIMER_STOP (R328): a channel stops at its next tick decision; one with no tick decided and none to come but its first stops at once. -/
def Dev.timerStop (d : Dev) (now k : Nat) : Dev :=
  let d1 := d.tmrMeet now k
  let x := d1.tmr k
  let first := x.starts || d1.tmrArmed k
  if first && x.dec.isSome then (d1.setTmr k { x with stop := true, after := none }).put (F.TMR_CTL_RUN k) false
  else if d1.tmrRunning k then (d1.setTmr k { x with stop := true, startAt := none }).put (F.TMR_CTL_RUN k) false
  else if d1.tmrArmed k || x.startAt.isSome then d1.tmrHalt k
  else d1

/-- TIMER_FWRAP (R328): the next decided tick is a forced wrap. -/
def Dev.timerFwrap (d : Dev) (now k : Nat) : Dev :=
  let d1 := d.tmrMeet now k
  if d1.tmrRunning k || (d1.tmr k).dec.isSome then d1.updTmr k (fun x => { x with fw := true }) else d1

/-- TIMER_CLR (R338). -/
def Dev.timerClr (d : Dev) (k : Nat) : Dev := (d.setReg (R.TMR_CNT_MATCH k) 0).setReg (R.TMR_CNT_ERR k) 0

/-- RELOAD_WRITE (R325). -/
def Dev.reloadWrite (d : Dev) (now k : Nat) (w : Word) : Dev :=
  let d1 := d.tmrMeet now k
  let d2 := d1.setReg (R.TMR_RELOAD k) w
  if (d1.tmrRunning k || (d1.tmr k).dec.isSome) && d1.effB (F.TMR_CFG_PER_IMM k) && decide (w.toNat + 1 < d1.tmrPresent k) then
    d2.updTmr k (fun x => { x with fw := true })
  else d2

/-- COMPARE_WRITE (R326). A channel that is stopped or ARMED takes an immediate value at once too, and the table's comparison with the count it
holds gives IMM_RES and PASSED (notes/assumptions/93.md). -/
def Dev.compareWrite (d : Dev) (now k : Nat) (w : Word) : Dev :=
  let d1 := d.tmrMeet now k
  let d2 := d1.setReg (R.TMR_COMPARE k) w
  if d1.effB (F.TMR_CFG_CMP_IMM k) then
    let passed := decide (d1.tmrPresent k ≤ w.toNat)
    let d3 := if (d1.tmr k).dec.isSome then d2.updTmr k (fun x => { x with imm := some w })
      else (d2.setReg (R.TMR_ACTCMP k) w).tmrNever k
    let d4 := d3.put (F.TMR_STAT_IMM_RES k) passed
    if passed then ((d4.put (F.TMR_STAT_PASSED k) true).tmrIrq k 2).incSat (F.TMR_CNT_ERR_PASSED k) else d4
  else d2

/-- TIMER_TRIGGER (R329): the channel accepts its pending trigger. -/
def Dev.timerTrigger (d : Dev) (now k : Nat) : Dev :=
  if !d.running (tmrPage k) then d
  else match d.trigAccept (8 + k) with
  | none => d
  | some (o, d1) =>
    match d1.eff (F.TMR_CFG_TRIG_ACT k) with
    | 1 => d1.timerRun now k
    | 2 =>
      let d2 := d1.tmrMeet now k
      let decided := (d2.tmr k).starts && (d2.tmr k).dec.isSome
      (d2.updTmr k (fun x => if decided then { x with after := some (d2.secondEdge now) }
        else { x with startAt := some (d2.secondEdge now), ofs := 0 })).put (F.TMR_CTL_RUN k) true
    | 3 =>
      if d1.tmrRunning k then
        let d2 := d1.tmrTick k o
        if d2.tmrRunning k && !d2.tmrCounts k then d2.updTmr k (fun x => { x with next := some (d2.gridAfter o 1 - 512 + d2.tmrStep k) }) else d2
      else d1
    | _ => d1

/-! ## Stagger groups (R333, R334) -/

def Dev.grpMembers (d : Dev) (g : Nat) : List Nat := (List.range 32).filter (fun k => (d.reg (R.TMR_GRP_MASK g)).getLsbD k)

/-- STATUS of a START: 0 accepted, 1 EMPTY, 2 DIV, 3 DISABLED. -/
def Dev.grpCheck (d : Dev) (l : List Nat) : Nat :=
  match l with
  | [] => 1
  | k0 :: _ =>
    if l.any (fun k => d.eff (F.TMR_CFG_DIV k) != d.eff (F.TMR_CFG_DIV k0) || d.tmrCounts k) then 2
    else if l.any (fun k => !d.enabled (tmrPage k) || d.restarting (tmrPage k)) then 3
    else 0

/-- The members with their ranks: offset floor(k × P ÷ n) ticks. -/
def Dev.grpPlace (d : Dev) (s P n : Nat) : List Nat → Nat → Dev
  | [], _ => d
  | k :: r, rank =>
    ((d.updTmr k (fun x => { x with
      startAt := some s
      ofs := rank * P / n
      after := none
      dec := if x.starts then none else x.dec })).put (F.TMR_CTL_RUN k) true).grpPlace s P n r (rank + 1)

/-- GROUP_START. -/
def Dev.groupStart (d : Dev) (now g : Nat) : Dev :=
  let l := d.grpMembers g
  let st := d.grpCheck l
  let d1 := d.set (F.TMR_GRP_CTL_STATUS g) st
  if st ≠ 0 then (d1.irq (P.TMR 0) 8).rep (P.TMR 0) 0x48 0
  else d1.grpPlace (d1.secondEdge now) ((d.reg (R.TMR_RELOAD (l.headD 0))).toNat + 1) l.length l 0

/-- GROUP_STOP. -/
def Dev.groupStop (d : Dev) (now g : Nat) : Dev := (d.grpMembers g).foldl (fun d k => d.timerStop now k) d

/-! ## Disable, restart, thaw, presets -/

/-- R337: both channels of a page stop and lose their pending triggers. -/
def Dev.tmrStopPage (d : Dev) (now p : Nat) : Dev :=
  [2 * p, 2 * p + 1].foldl (fun d k => (d.timerStop now k).setTrigPend (8 + k) none) d
/-- R337: a block restart. -/
def Dev.tmrRestart (d : Dev) (p : Nat) : Dev :=
  [2 * p, 2 * p + 1].foldl (fun d k => (d.tmrHalt k).setTrigPend (8 + k) none) d

/-- A page thawed (R50): a channel goes on from the first tick of its prescaler still to come. -/
def Dev.tmrThaw (d : Dev) (now p : Nat) : Dev :=
  [2 * p, 2 * p + 1].foldl (fun d k => d.updTmr k (fun x =>
    match x.next with
    | some n => let g := d.gridAfter now 1 - 512
      if n ≤ g then { x with next := some (n + ((g - n) / d.tmrStep k + 1) * d.tmrStep k) } else x
    | none => x)) d

end Sys2Proof.Machine
end

