-- ==== Sys2Proof/Machine/Restart.lean ====
section
/-!
DEFINITION. Machine/Restart.lean: enabling and disabling (R48, R49), freezing (R50) and restarting (R51, R52) a block, with what each chapter
says of its own.
-/

namespace Sys2Proof.Machine

/-! ## What a block restart keeps -/

/-- The bits of the register at offset `o` of a page that keep their values through a block restart (R51 and the blocks' chapters);
`on` tells that the page's ENABLE stays. -/
def keptMask (b : Blk) (p o : Nat) (on : Bool) : Word :=
  if o = 0x08 then (if on then 1 else 0)
  else if o = 0x1C ∨ o = 0x28 ∨ o = 0x2C then 0xFFFFFFFF
  else match b with
    | .tbase => if o = R.TB_LOSS % 0x1000 ∨ o = R.TB_STAT % 0x1000 then 0xFFFFFFFF else 0
    | .whl => if o = R.WHL_BIND 0 % 0x1000 then 0xFFFFFFFF else 0
    | .ang => if o = R.ANG_STATE 0 % 0x1000 then 0x00FF0000 else 0
    | .fcol =>
      if o = 0x40 ∨ o = 0x44 ∨ o = 0x64 ∨ o = 0x7C then 0xFFFFFFFF
      else if o = 0x48 then 0xFFFF0303
      else if 0x800 ≤ o then 0xFFFFFFFF else 0
    | .rtc => if 0x40 ≤ o ∧ (o < R.RTC_TB_LO % 0x1000 ∨ R.RTC_TB_SEC % 0x1000 < o) then 0xFFFFFFFF else 0
    | .sent | .opwr => if 0x40 ≤ o then 0xFFFFFFFF else 0
    | .sec => if o = R.SEC_LC % 0x1000 ∨ o = R.SEC_CERTLEN % 0x1000 then 0xFFFFFFFF else 0
    | .upd => if 0x60 ≤ o ∧ o ≤ 0x70 then 0xFFFFFFFF else 0
    | .mramc => if 0x58 ≤ o ∧ o ≤ 0x60 then 0xFFFFFFFF else 0
    | .fab => if o = R.FAB_STAT % 0x1000 then 0xFFFFFBFF else if 0x48 ≤ o ∧ o ≤ 0x64 ∨ 0x100 ≤ o then 0xFFFFFFFF else 0
    | .core => if p ≠ 0 ∧ o = R.CORE_BOOT 0 % 0x1000 then 0xFFFFFFFF else 0
    | _ => 0

/-- R51: does ENABLE of the page stay through a restart? PREDd follows an enabled ANGd (R155); a restarted core, link and fabric node go on
by themselves (R371, R431); SENT's is kept (R538). -/
def Dev.keepsEnable (d : Dev) (b : Blk) (p : Nat) : Bool :=
  match b with
  | .pred => d.enabled (P.ANG p)
  | .core => true
  | .nl => true
  | .fab => true
  | .sent => true
  | _ => b.alwaysOn p

/-- Step 4 of R51: the registers of the page, with what each initiator's latch of them holds (R9); a latch of a kept register stays. -/
def Dev.resetPage (d : Dev) (pg : Nat) (b : Blk) (p : Nat) : Dev :=
  let on := d.keepsEnable b p
  let one := fun (e : Nat × Word) =>
    if pageOf e.1 = pg ∧ isPageAddr e.1 then
      let m := keptMask b p (e.1 % 0x1000) on
      let w := (e.2 &&& m) ||| (resetWord e.1 &&& ~~~m)
      if w = resetWord e.1 then none else some (e.1, w)
    else some e
  let stays := fun (e : Nat × Word) =>
    let a := e.1 % 0x100000000
    pageOf a != pg || !isPageAddr a || keptMask b p (a % 0x1000) on == 0xFFFFFFFF
  { d with regs := d.regs.filterMap one, latches := d.latches.filter stays,
           shadow := if isOasis (R.PID pg) then d.shadow else d.shadow.filter (fun e => pageOf e.1 != pg) }

/-! ## Blocks stop -/

/-- R310, R49: CMB disabled: every occurrence in progress aborts. -/
def Dev.cmbDisable (d : Dev) (now : Nat) : Dev :=
  (List.range 32).foldl (fun (d : Dev) i => d.cmbAbort now (i / 16) (i % 16)) d

/-- SUP restarts: writes of SEC and UPD are discarded meanwhile (R503). -/
def Dev.supDown (d : Dev) : Bool := d.restarting (P.CORE 0)

/-- The effect of ENABLE written from 1 to 0 on the block itself (R48, R49). -/
def Dev.blockStop (d : Dev) (now : Nat) (b : Blk) (p : Nat) : Dev :=
  match b with
  | .whl => (d.whlStop p).whlCommit p
  | .ang => d.angStop now p
  | .drv => d.chanSafe now p
  | .bank => (d.bankSafe now p).bankDrive now p
  | .bst => (d.bstStop p).bstNotReady p
  | .ign => d.ignSafe now p
  | .adc => d.adcStop now p
  | .smpl => d.smplDisable now
  | .knk => d.knkAbortAll now
  | .cmb => d.cmbDisable now
  | .tmr => d.tmrStopPage now p
  | .pio => d.pioDisable now p
  | .nl => d.nlOff now p
  | .fab => d.fabDisable
  | .core => if p = 0 then d else d.coreStop p
  | _ => d

/-- The effect of ENABLE written from 0 to 1 (ANG apart, R99). -/
def Dev.blockStart (d : Dev) (now : Nat) (b : Blk) (p : Nat) : Dev :=
  match b with
  | .whl => d.whlThaw p
  | .adc => d.knkFeed now p
  | .smpl => d.runsPlace now
  | .knk => d.winsPlace now
  | .pio => d.pioEnable now p
  | .nl => d.nlEnable p
  | .fab => d.fabEnable now
  | .core => if p = 0 then d else d.coreStart p
  | .sent => d.sentEnable
  | _ => d

/-- Steps 2 and 3 of R51 for each block, as its chapter says. -/
def Dev.blockEnd (d : Dev) (now : Nat) (b : Blk) (p : Nat) : Dev :=
  match b with
  | .tbase => d.refLoss (d.flag F.TB_STAT_REF_OK) false
  | .whl => d.whlStop p
  | .ang => d.angStop now p
  | .pred => d.predRestart now p
  | .carv => d.carvRestart
  | .drv => (d.chanSafe now p).drvKeepRec p
  | .bank => (d.bankSafe now p).bankDrive now p
  | .bst => d.bstStop p
  | .prof => d.profRestart
  | .ign => d.ignSafe now p
  | .tapc => (List.range 32).foldl (fun (d : Dev) n => d.tapSafeEnd n) d
  | .trig => { d with trig := {} }
  | .adc => d.adcStop now p
  | .smpl => d.smplRestart now
  | .knk => d.knkRestart
  | .cmb => d.cmbRestart
  | .trim => d.trimRestart
  | .tmr => d.tmrRestart p
  | .pio => d.pioReset p
  | .nl => d.nlOff now p
  | .fab => d.failAll now
  | .core => if p = 0 then d.supRestart else d.coreRestart p 0 false
  | .intc =>
    if p = 0 then d.intcRestart
    else { d with intc := { d.intc with latched := d.intc.latched.filter (fun s => s / 128 + 1 != p) } }
  | .mon => { d with mons := vSet (vSet d.mons (2 * p) {}) (2 * p + 1) {} }
  | .upd => { d with sys := { d.sys with act := false } }
  | .mramc => { d with mramc := { d.mramc with wr := none, app := none } }
  | .sec => { d with sec := { d.sec with chal := false } }
  | _ => d

/-- What goes on after the registers are reset; `old` is the device before the restart. -/
def Dev.blockAfter (old d : Dev) (now : Nat) (b : Blk) (p : Nat) : Dev :=
  match b with
  | .whl => Dev.whlRestarted old d p
  | .ang => d.updAng p (fun a => { a with cmdAct := false, fwdLeft := 0 })
  | .intc | .ring => d.intcRefresh
  | .upd => d.sysPend
  | .pred => d.renorm p
  | .fab => d.sendChg now
  | .fcol => d.errPin
  | .tapc => (List.range 32).foldl (fun (d : Dev) n => d.tapRelease n) d
  | _ => d

/-- BLOCK_RESTART (R51): a write of 1 to `PCTL.RESTART` of page `pg`. SYS has none (R478). -/
def Dev.blockRestart (d : Dev) (now pg : Nat) : Dev :=
  match pageInfo pg with
  | none => d
  | some (b, p) =>
    if b = .sys then d.modeRefused pg
    else if d.restarting pg then d
    else
      let old := d
      let d1 := (d.blockEnd now b p).resetPage pg b p
      let d2 := (d1.bumpGen pg).setReg (R.PCTL pg) ((d1.reg (R.PCTL pg)) ||| 4)
      let d3 := d2.put (F.PSTAT_RESTARTING pg) true
      (Dev.blockAfter old d3 now b p).intcRefresh

/-- BLOCK_RESTART_DONE: RESTARTING and RESTART return to 0; a link is then DOWN and an enabled core starts. -/
def Dev.restartDone (d : Dev) (pg : Nat) : Dev :=
  if !d.restarting pg then d
  else
    let d1 := (d.put (F.PSTAT_RESTARTING pg) false).put (F.PCTL_RESTART pg) false
    match pageInfo pg with
    | some (.nl, p) => if d1.enabled pg then d1.nlEnable p else d1
    | some (.core, p) => if p ≠ 0 ∧ d1.enabled pg then d1.coreStart p else d1
    | _ => d1

/-! ## ENABLE and FREEZE -/

/-- ENABLE_WRITE: bit 0 of a `PCTL` write (R48, R99, R155). -/
def Dev.enableWrite (d : Dev) (now pg : Nat) (v : Bool) : Dev :=
  match pageInfo pg with
  | none => d
  | some (b, p) =>
    if b.alwaysOn p then d
    else if b = .pred ∧ d.enabled (P.ANG p) then (if v then d else d.cfgBusy pg)
    else if v = d.enabled pg then d
    else if v then (if b = .ang then d.angEnable now p else (d.put (F.PCTL_ENABLE pg) true).blockStart now b p)
    else (d.put (F.PCTL_ENABLE pg) false).blockStop now b p

/-- Pages on which FREEZE has no effect (R28, R371, R519). -/
def noFreeze (b : Blk) : Bool := b = .tbase || b = .core || b = .rtc || b = .sent || b = .opwr

/-- R50: the core that serves the page's interrupt source is held by the debug port. -/
def Dev.ownerHalted (d : Dev) (pg : Nat) : Bool := decide (d.target pg < 3) && (d.hart (d.target pg)).halted

/-- FREEZE_WRITE (R50): bit 1 of a `PCTL` write. -/
def Dev.freezeWrite (d : Dev) (now pg : Nat) (v : Bool) : Dev :=
  match pageInfo pg with
  | none => d
  | some (b, p) =>
    if v then
      if !(d.mode == 4 || d.mode == 9 || d.ownerHalted pg) then d.modeRefused pg
      else if noFreeze b || d.frozen pg then d
      else
        let d0 := match b with
          | .pio => d.pioSettle now p
          | _ => d
        d0.put (F.PCTL_FREEZE pg) true
    else if !d.frozen pg then d
    else
      let d1 := d.put (F.PCTL_FREEZE pg) false
      match b with
      | .whl => d1.whlThaw p
      | .pio => d1.pioThaw now p
      | .tmr => d1.tmrThaw now p
      | _ => d1

end Sys2Proof.Machine
end

