-- ==== Sys2Proof/Machine/Fcol.lean ====
section
/-!
DEFINITION. Machine/Fcol.lean: acceptance of fault messages, levels and react timers, L3 actions, acknowledgement, the first-fault latch, log
records, forced and software faults, and the monitors' commands (15_faults_monitors.md).
-/

namespace Sys2Proof.Machine

def Dev.fsrc (d : Dev) (s : Nat) : FSrc := smGetD d.fcol.src s {}
def Dev.setFsrc (d : Dev) (s : Nat) (x : FSrc) : Dev := { d with fcol := { d.fcol with src := smPut d.fcol.src s x {} } }

/-! ## Log records (R450) -/

/-- One record formed for log ring `ring`: record code, acknowledging initiator, action, the source after the happening. -/
def Dev.logRec (d : Dev) (now ring rec who action : Nat) (x : FSrc) : Dev :=
  let w0 := rec * 0x1000000 + d.mode * 0x100000 + who * 0x20000 + x.forced.toNat * 0x10000 + action
  let ws := [w32 w0, x.w0, x.w1, lo32 now, hi32 now, w32 (x.count * 0x10000), d.reg R.FCOL_SEQ, 0]
  let d1 := d.inc F.FCOL_SEQ_SEQ
  match d1.ringPush now (24 + ring) ws with
  | some e => { e with fcol := { e.fcol with logFull := e.fcol.logFull.filter (· != ring) } }
  | none =>
    let d2 := (d1.incSat F.FCOL_CNT_C_LOG_LOST).irq P.FCOL 4
    if d2.fcol.logFull.contains ring then d2
    else ({ d2 with fcol := { d2.fcol with logFull := ring :: d2.fcol.logFull } }).rep P.FCOL 0x64 0

def Dev.logFault (d : Dev) (now cls : Nat) (x : FSrc) : Dev :=
  if !d.flag F.FCOL_LOG_EN then d
  else if cls = 0 then (if d.flag F.FCOL_LOG_CLOG then d.logRec now (d.get F.FCOL_LOG_RING_C) 0x50 7 0 x else d)
  else d.logRec now (d.get F.FCOL_LOG_RING_UF) 0x50 7 0 x
def Dev.logAction (d : Dev) (now action : Nat) (x : FSrc) : Dev :=
  if d.flag F.FCOL_LOG_EN then d.logRec now (d.get F.FCOL_LOG_RING_UF) 0x51 7 action x else d
def Dev.logAck (d : Dev) (now : Nat) (who : Initiator) (x : FSrc) : Dev :=
  if d.flag F.FCOL_LOG_EN && d.flag F.FCOL_LOG_ACKLOG then d.logRec now (d.get F.FCOL_LOG_RING_UF) 0x52 who.code 0 x else d

/-! ## Levels (R439, R440, R446) -/

/-- R440: the react time of a class, in tu. -/
def Dev.reactTu (d : Dev) (cls : Nat) : Nat :=
  if cls = 2 then d.get F.FCOL_REACT_RF * 12800 else d.get F.FCOL_REACT_RU * 1280000

/-- R439: the level a fresh fault of class `cls` enters at source s. -/
def Dev.entryLevel (d : Dev) (s cls : Nat) : Nat :=
  if cls = 0 then d.get (F.FCOL_SCFG_NOTIFY_C s) else if d.get (F.FCOL_SCFG_ACTION s) = 0 then 1 else 2

/-- R446: does the policy of a class escalate? -/
def Dev.escalates (d : Dev) (cls : Nat) : Bool :=
  match cls with
  | 0 => d.flag F.FCOL_CFG_ESC_C
  | 1 => d.flag F.FCOL_CFG_ESC_U
  | _ => d.flag F.FCOL_CFG_ESC_F

/-- Class held, level and deadline of source s after a message of class `cls` accepted at `now` (R439, R446). -/
def Dev.faultLevel (d : Dev) (now s cls : Nat) (x : FSrc) : Nat × Nat × Option Nat :=
  let t := now + d.reactTu cls
  if !x.unack then
    let l := d.entryLevel s cls
    (cls, l, if l = 2 then some t else none)
  else if x.level = 3 then (x.cls, 3, none)
  else if cls = x.cls then
    if !d.escalates cls then (x.cls, x.level, x.deadline)
    else if cls = 0 then (0, 1, none)
    else
      let l := x.level + 1
      (cls, l, if l = 2 then some t else none)
  else if x.cls < cls then
    let l := max x.level (d.entryLevel s cls)
    (cls, l, if l = 2 then some (match x.deadline with | some u => min u t | none => t) else none)
  else (x.cls, x.level, x.deadline)

/-! ## L3 actions (R441 to R444) -/

/-- R442: the source's own domain; `none` stands for both. -/
def Dev.ownDomain (d : Dev) (s : Nat) : Option Nat :=
  match if s < 0xE3 then pageInfo s else none with
  | some (.ang, p) => some p
  | some (.pred, p) => some p
  | some (.whl, p) => if d.get (F.WHL_BIND_ROLE p) = 0 then none else some (d.get (F.WHL_BIND_DOMAIN p))
  | some (.drv, p) => some (d.chanDom p)
  | some (.ign, p) => some (d.chanDom (48 + p))
  | _ => none

/-- R442: the domains of DOMAIN_SAFE_END. -/
def Dev.safeDomains (d : Dev) (s : Nat) : List Nat :=
  match d.get (F.FCOL_SCFG_DOM s) with
  | 0 => [0]
  | 1 => [1]
  | 2 => [0, 1]
  | _ => match d.ownDomain s with
    | some k => [k]
    | none => [0, 1]

/-- One domain of DOMAIN_SAFE_END: a drop as `SYNC_DROP` makes it, without a report, and the hold. -/
def Dev.fcolSafeEnd (d : Dev) (now k : Nat) : Dev :=
  let d1 := d.set F.FCOL_DHOLD_HOLD (d.get F.FCOL_DHOLD_HOLD ||| 2 ^ k)
  d1.syncDrop now k 11 none

/-- R444: device SAFE with cause FCOL; `SYS_SAFE.SRC` names the source that set the cause. -/
def Dev.fcolSafe (d : Dev) (now s : Nat) : Dev :=
  let d1 := if d.flag F.SYS_SAFE_FCOL then d else d.set F.SYS_SAFE_SRC s
  d1.safeEnter now F.SYS_SAFE_FCOL

def Dev.fcolAct (d : Dev) (now s action : Nat) : Dev :=
  match action with
  | 1 => match srcPage s with
    | some pg => d.blockRestart now pg
    | none => d
  | 2 =>
    let l := d.safeDomains s
    let d1 := l.foldl (fun (d : Dev) k => d.fcolSafeEnd now k) d
    if l.length = 2 then d1.boostSafe else d1
  | 3 => d.fcolSafe now s
  | _ => d

/-- The level of a source's latest fault goes into the page's `PFLT` (R435). -/
def Dev.pfltLevel (d : Dev) (s level : Nat) : Dev :=
  match srcPage s with
  | some pg => d.setReg (R.PFLT pg) (wordSet (d.reg (R.PFLT pg)) 19 18 level)
  | none => d

/-- R441: entry to L3; the action is the one configured now, and is taken once. -/
def Dev.enterL3 (d : Dev) (now s : Nat) : Dev :=
  let a := d.get (F.FCOL_SCFG_ACTION s)
  let x := d.fsrc s
  let doms := if a = 2 then (d.safeDomains s).foldl (fun m k => m ||| 2 ^ k) 0 else 0
  let y := { x with level := 3, deadline := none, act := a, doms := doms, w0 := wordSet x.w0 19 18 3 }
  let d1 := ((d.setFsrc s y).pfltLevel s 3).irq P.FCOL 2
  let d2 := (d1.incSat F.FCOL_CNT_B_L3).errEvent now
  (d2.logAction now a y).fcolAct now s a

/-! ## Acceptance (R436, R439, R446, R448, R449) -/

/-- The page a source's FLT interrupt is set on. -/
def fltPage (s : Nat) : Nat := (srcPage s).getD P.FCOL

/-- R448. -/
def Dev.firstFault (d : Dev) (now : Nat) (w0 w1 : Word) : Dev :=
  if d.flag F.FCOL_FIRST_STAT_VALID then
    ((d.put F.FCOL_FIRST_STAT_OVERFLOW true).incSat F.FCOL_FIRST_STAT_OVF_CNT).irq P.FCOL 3
  else
    let d1 := ((d.setReg R.FCOL_FIRST_W0 w0).setReg R.FCOL_FIRST_W1 w1).setLH R.FCOL_FIRST_TS_LO R.FCOL_FIRST_TS_HI now
    (d1.put F.FCOL_FIRST_STAT_VALID true).irq P.FCOL 0

def classCnt (cls : Nat) : Fld :=
  match cls with
  | 0 => F.FCOL_CNT_A_C
  | 1 => F.FCOL_CNT_A_U
  | _ => F.FCOL_CNT_B_F

/-- FCOL accepts message m at `now`. -/
def Dev.acceptMsg (d : Dev) (now : Nat) (m : FMsg) : Dev :=
  let s := m.src
  let x := d.fsrc s
  let (cls, lvl, dl) := d.faultLevel now s m.cls x
  let count := min ((if x.unack then x.count else 0) + 1) 0xFFFF
  let w0 := faultWord s m.kind m.cls lvl m.detail
  let y : FSrc :=
    { unack := true, cls := cls, fixedAt := if dl = x.deadline ∧ cls = x.cls then x.fixedAt else now, level := if lvl = 3 ∧ x.level ≠ 3 then 2 else lvl, count := count, deadline := dl, kind := m.kind,
      forced := m.forced, w0 := w0, w1 := w32 m.arg, act := if x.unack then x.act else 0, doms := if x.unack then x.doms else 0 }
  let d1 := ((d.incSat (classCnt m.cls)).set F.FCOL_SUM_LAST s).setFsrc s y
  let d2 := match srcPage s with
    | some pg => (d1.setReg (R.PFLT pg) w0).put (F.PSTAT_FAULTED pg) true
    | none => d1
  let d3 := if 1 ≤ lvl then d2.irq (fltPage s) 31 else d2
  let d4 := if 1 ≤ m.cls then d3.firstFault now w0 (w32 m.arg) else d3
  let d5 := if d.get F.FCOL_ERRPIN_CLS ≤ m.cls then d4.errEvent now else d4
  let d6 := d5.logFault now m.cls y
  let l2 := decide (lvl = 2) && !(x.unack && x.level == 2)
  let d7 := if l2 then d6.irq P.FCOL 1 else d6
  if lvl = 3 ∧ !(x.unack && x.level == 3) then d7.enterL3 now s else d7

/-- Take the first element that meets a test out of a list. -/
def takeFirst {α : Type} (p : α → Bool) : List α → Option (α × List α)
  | [] => none
  | x :: r => if p x then some (x, r) else (takeFirst p r).map (fun e => (e.1, x :: e.2))

/-- FAULT_MESSAGE (R436): the tree grants source s its oldest message. -/
def Dev.faultMessage (d : Dev) (now s : Nat) : Dev :=
  match takeFirst (fun m => m.src == s) d.fcol.awaiting with
  | none => d
  | some (m, r) => ({ d with fcol := { d.fcol with awaiting := r } }).acceptMsg now m

/-- REACT_TIMEOUT: the deadline of source s has passed at a reference edge (R440); one that had passed when it was fixed expires at the first
edge after that (R563). -/
def Dev.reactTimeout (d : Dev) (now s : Nat) : Dev :=
  let x := d.fsrc s
  match x.deadline with
  | some t => if x.unack && x.level == 2 && decide (d.edgeFrom (max t (x.fixedAt + 1)) ≤ now) then d.enterL3 now s else d
  | none => d

/-! ## Acknowledgement, hold, latch, pin (R442, R445, R448, R449, R463) -/

/-- R445. -/
def Dev.fcolAck (d : Dev) (now : Nat) (who : Initiator) (s : Nat) : Dev :=
  let x := d.fsrc s
  if !x.unack then d
  else
    let y := { x with unack := false, deadline := none, count := 0 }
    let d1 := d.setFsrc s y
    let d2 := match srcPage s with
      | some pg => d1.put (F.PSTAT_FAULTED pg) false
      | none => d1
    d2.logAck now who y

def Dev.fcolAckAll (d : Dev) (now : Nat) (who : Initiator) : Dev :=
  (d.fcol.src.map (·.1)).foldl (fun (d : Dev) s => d.fcolAck now who s) d

/-- R442: may bit k of `FCOL_DHOLD` be cleared? -/
def Dev.mayRelease (d : Dev) (k : Nat) : Bool := d.fcol.src.all (fun e => !(e.2.unack && e.2.act == 2 && e.2.doms.testBit k))

/-- DHOLD_CLEAR. -/
def Dev.dholdClear (d : Dev) (w : Word) : Dev :=
  let held := d.get F.FCOL_DHOLD_HOLD
  let ask := (List.range 2).filter (fun k => w.getLsbD k && held.testBit k)
  let ok := ask.filter d.mayRelease
  let d1 := d.set F.FCOL_DHOLD_HOLD (ok.foldl (fun h k => h - 2 ^ k) held)
  if ask.length = ok.length then d1 else d1.cfgBusy P.FCOL

def Dev.firstClr (d : Dev) : Dev := d.setReg R.FCOL_FIRST_STAT 0
def Dev.fcolClr (d : Dev) : Dev := ((d.setReg R.FCOL_CNT_A 0).setReg R.FCOL_CNT_B 0).setReg R.FCOL_CNT_C 0

/-- FCOL_FIRST_W0_READ. -/
def Dev.firstLatch (d : Dev) (who : Initiator) : Dev :=
  d.setLatches who [(R.FCOL_FIRST_W1, d.reg R.FCOL_FIRST_W1), (R.FCOL_FIRST_TS_LO, d.reg R.FCOL_FIRST_TS_LO),
    (R.FCOL_FIRST_TS_HI, d.reg R.FCOL_FIRST_TS_HI)]

/-- SWLVL_WRITE: a 1 inside MINW is discarded. -/
def Dev.swlvlWrite (d : Dev) (v : Bool) : Dev :=
  if v && d.fcol.minwEnd.isSome then d.put F.FCOL_ERRPIN_DISC true else (d.put F.FCOL_ERRPIN_SWLVL v).errPin

/-- MINW_END. -/
def Dev.minwEnds (d : Dev) (now : Nat) : Dev :=
  match d.fcol.minwEnd with
  | some t => if t ≤ now then ({ d with fcol := { d.fcol with minwEnd := none } }).errPin else d
  | none => d

/-! ## Forced and software faults (R453 to R455) -/

/-- FAULT_FORCE: force bit of source s, written through page `pg`. -/
def Dev.faultForce (d : Dev) (pg s : Nat) : Dev :=
  if d.mode = 4 ∨ d.mode = 9 then
    d.report { src := s, kind := d.get F.FCOL_FINJ_KIND, cls := d.get F.FCOL_FINJ_CLASS, detail := d.get F.FCOL_FINJ_DETAIL,
               arg := 0xFFFFFFFF, forced := true }
  else d.modeRefused pg

/-- The bits of a word, lowest first. -/
def bitList (w : Word) : List Nat := (List.range 32).filter (fun i => w.getLsbD i)

/-- A write of `FFRC_FRCw` of page j: one message for each bit; outside the two modes one report. -/
def Dev.forceWord (d : Dev) (j w : Nat) (v : Word) : Dev :=
  if d.mode = 4 ∨ d.mode = 9 then (bitList v).foldl (fun (d : Dev) b => d.faultForce (P.FFRC j) (256 * j + 32 * w + b)) d
  else if v = 0 then d else d.modeRefused (P.FFRC j)

/-- SW_FAULT. -/
def Dev.swFault (d : Dev) (w : Word) : Dev :=
  let cls := wordGet w 17 16
  if cls = 3 then d.cfgRange P.FCOL
  else d.report { src := 0x1F0 + wordGet w 2 0, kind := 0x06, cls := cls, detail := wordGet w 31 20, arg := (d.reg R.FCOL_SWARG).toNat }

/-- A code written to ACTION of source s (R441, R443): whether it is taken. -/
def actionOk (s code : Nat) : Bool :=
  decide (code ≤ 3) && (code != 1 || ((srcPage s).isSome && !(s == 0 || s == 0xD0 || s == 0xD1 || s == 0xD2)))

/-! ## Derived words (R463, R464) -/

def Dev.fcolSum (d : Dev) : Word :=
  w32 ((d.fcol.src.filter (fun e => e.2.unack)).length * 0x10000 + d.get F.FCOL_SUM_LAST)
def Dev.ffrcStat (d : Dev) (s : Nat) : Word :=
  let x := d.fsrc s
  w32 (x.count * 0x10000 + x.kind * 0x200 + x.forced.toNat * 0x100 + x.cls * 16 + x.level * 4 + x.deadline.isSome.toNat * 2 + x.unack.toNat)
def Dev.ffrcUnack (d : Dev) (j w : Nat) : Word :=
  (List.range 32).foldl (fun (v : Word) b => if (d.fsrc (256 * j + 32 * w + b)).unack then v ||| (1#32 <<< b) else v) 0

/-! ## Monitors (R459 to R461) -/

/-- The empty state of a monitor's live values. -/
def Dev.monEmpty (d : Dev) (m : Nat) : Dev :=
  let d1 := d.setMon m { busyUntil := (d.mon m).busyUntil }
  (d1.set (F.MON_BEYOND_BEYOND m) 0).put (F.MON_STAT_FULL m) false

/-- MON_SNAP: the live values and the time go to the snapshot registers. -/
def Dev.monSnap (d : Dev) (now m : Nat) : Dev :=
  let x := d.mon m
  let sg := d.flag (F.MON_CFG_SIGNED m)
  let mn : Int := x.min.getD (if sg then 0x7FFFFFFF else 0xFFFFFFFF)
  let mx : Int := x.max.getD (if sg then -0x80000000 else 0)
  let d1 := (d.setReg (R.MON_SNAP_CNT m) (w32 x.cnt)).setLH (R.MON_SNAP_SUM_LO m) (R.MON_SNAP_SUM_HI m) (bitsOf x.sum 64)
  let d2 := (d1.setReg (R.MON_SNAP_MIN m) (w32 (bitsOf mn 32))).setReg (R.MON_SNAP_MAX m) (w32 (bitsOf mx 32))
  let d3 := (List.range 32).foldl (fun (d : Dev) b => d.setReg (R.MON_SNAP_BIN m b) (w32 (smGetD x.bins b 0))) d2
  (d3.setLH (R.MON_SNAP_TS_LO m) (R.MON_SNAP_TS_HI m) now).put (F.MON_STAT_SNAPV m) true

def Dev.monSnapClr (d : Dev) (now m : Nat) : Dev := (d.monSnap now m).monEmpty m

/-- MON_CFG_WRITE: PROBE, SEL and SHIFT are static while EN is 1; EN from 0 to 1 empties the live values. -/
def Dev.monCfg (d : Dev) (m : Nat) (w : Word) : Dev :=
  let set := wordGet w 20 0
  let keep := wordSet w 30 21 0
  let en := w.getLsbD 31
  let pg := P.MON (m / 2)
  if d.flag (F.MON_CFG_EN m) then
    let d1 := (d.put (F.MON_CFG_EN m) en).bumpGen pg
    if set = wordGet (d.reg (R.MON_CFG m)) 20 0 then d1 else d1.cfgBusy pg
  else
    let d1 := ((d.setReg (R.MON_CFG m) keep).put (F.MON_CFG_SIGNED m) (probeSigned (wordGet w 7 0))).bumpGen pg
    if en then d1.monEmpty m else d1
/-- A write of `MON_HBASE`. -/
def Dev.monHbase (d : Dev) (m : Nat) (w : Word) : Dev :=
  if d.flag (F.MON_CFG_EN m) then (if w = d.reg (R.MON_HBASE m) then d else d.cfgBusy (P.MON (m / 2)))
  else (d.setReg (R.MON_HBASE m) w).bumpGen (P.MON (m / 2))

end Sys2Proof.Machine
end

