-- ==== Sys2Proof/Machine/Power.lean ====
section
/-!
DEFINITION. Machine/Power.lean: the return to power-on and core supply good (R23, R27, R477, R478, R485, R519, R532, R536).
-/

namespace Sys2Proof.Machine

/-- Registers that keep their values without the core supply: those of the Oasis domain marked kept (R519, R538) and what lies in MRAM or is
held by SEC and UPD through it (R484, R495, R499). -/
def keptOff (a : Nat) : Bool :=
  if isOasis a then
    (decide (0x40 ≤ a % 0x1000) || a == R.PCTL P.SENT) && !(a == R.RTC_TB_LO || a == R.RTC_TB_HI || a == R.RTC_TB_SEC)
  else a == R.SEC_LC || a == R.SEC_CERTLEN || a == R.UPD_SLOT || (decide (R.UPD_RBC 0 ≤ a) && decide (a ≤ R.UPD_RBC 3))

/-- The digital die at power-on; what the Oasis domain and MRAM hold stays. `por` is the cause the next power-on records. -/
def Dev.powerOn (d : Dev) (por : Option Nat) (porn : Bool) : Dev :=
  let d1 : Dev :=
    { regs := d.regs.filter (fun e => keptOff e.1)
      shadow := d.shadow.filter (fun e => isOasis e.1)
      mem := d.mem.filter (fun e => decide (0x60000000 ≤ e.1))
      freeCtr := d.freeCtr
      soft := { hold := true }
      upd := { slots := d.upd.slots }
      oasis := d.oasis
      sys := { por := por, porn := porn } }
  d1.mramcRestore

/-- VDDC_COLLAPSE (R23): `mv` below 620. A supply that goes away after an ordered shutdown with PWROFF is no collapse (R481). -/
def Dev.collapse (d : Dev) (mv : Nat) : Dev :=
  if mv < 620 then
    let ordered := d.mode == 10 && d.flag F.SYS_SHUT_DONE && d.flag F.SYS_SHUT_PWROFF
    d.powerOn (if ordered then none else if d.sys.good then some 3 else d.sys.por) d.sys.porn
  else d

/-- R478: is a low pulse of `ns` on PORn taken? Between 200 ns and 1 µs that is open. -/
def Dev.pornTaken (d : Dev) (ns : Nat) : Bool := decide (1000 ≤ ns) || (decide (200 ≤ ns) && d.fresh % 2 == 1)

/-- PORN_LOW. -/
def Dev.pornLow (d : Dev) (ns : Nat) : Dev :=
  let d1 := if 200 ≤ ns ∧ ns < 1000 then d.tickFree else d
  if d.pornTaken ns then d1.powerOn (some 2) false else d1

/-- CORE_SUPPLY_GOOD (R477): `pinLow` the level of WAKEn, `vbat` whether VBAT is present. -/
def Dev.supplyGood (d : Dev) (now : Nat) (pinLow vbat : Bool) : Dev :=
  if d.sys.good then d
  else
    let pend := d.flag F.OPWR_WAKE_PEND
    let cause := match d.sys.por with
      | some c => c
      | none => vbat.toNat
    let off := if vbat || d.oasis.lostTold then d.offMode else 0
    let d1 := ((d.set F.SYS_PWRUP_CAUSE cause).set F.SYS_MODE_PREV off).irq P.SYS 0
    let d2 : Dev := { d1 with sys := { d1.sys with good := true, booting := true, porn := true, por := none },
                              supply := { d1.supply with vddcGoodSince := some now } }
    let d3 := if !pinLow then d2.put F.OPWR_WCAUSE_POWER true else if pend then d2 else d2.put F.OPWR_WCAUSE_EXT true
    let d4 := (d3.put F.OPWR_WAKE_SYSHOLD true).put F.OPWR_WAKE_PEND false
    (d4.setHart 0 { d4.hart 0 with running := true }).oasisTell

end Sys2Proof.Machine
end

