-- ==== Sys2Proof/Machine/Preset.lean ====
section
/-!
DEFINITION. Machine/Preset.lean: the preset tables of every block (R10, R11, R13, R126 and the rules like it), the clamps that look at a second
field, the commit at once of shadowed fields, and a plain write of a register word.
-/

namespace Sys2Proof.Machine

/-! ## Preset tables: a field and its value under code 1, 2, ... -/

/-- R88. -/
def presetWhl (p : Nat) : List (Fld × List Nat) := [
  (F.WHL_CFG_TYPE p, [0, 0, 1, 1, 2]), (F.WHL_CFG_EDGE p, [0, 0, 0, 0, 0]), (F.WHL_CFG_PULL p, [0, 0, 2, 1, 2]),
  (F.WHL_CFG_DIG_LVL p, [0, 0, 1, 0, 1]), (F.WHL_CFG_INVERT p, [0, 0, 0, 0, 0]), (F.WHL_VR_FLOOR p, [40, 20, 40, 40, 40]),
  (F.WHL_VR_ARM_PCT p, [30, 20, 30, 30, 30]), (F.WHL_VR_HYST p, [2, 1, 2, 2, 2]), (F.WHL_VR_PK_AVG_LOG2 p, [2, 1, 2, 2, 2]),
  (F.WHL_FILT_GLITCH p, [80, 400, 80, 80, 800]), (F.WHL_FILT_QUAL_MINT p, [4, 40, 4, 4, 4]),
  (F.WHL_QUAL_W_MIN p, [40, 30, 40, 40, 40]), (F.WHL_QUAL_W_MAX p, [160, 200, 160, 160, 160]),
  (F.WHL_QUAL_QBYPASS p, [0, 0, 0, 0, 0]), (F.WHL_DIR_PW_THR p, [675, 675, 675, 675, 675]),
  (F.WHL_DIR_PW_MAX p, [1800, 1800, 1800, 1800, 1800]), (F.WHL_DIR_DIR_INV p, [0, 0, 0, 0, 0]),
  (F.WHL_DLY_DLY p, [1216, 1216, 230, 230, 230])]

/-- R126. -/
def presetAng (p : Nat) : List (Fld × List Nat) := [
  (F.ANG_CFG_STROKE p, [0, 1, 0, 1]), (F.ANG_CFG_LIMP_CRANK_EN p, [1, 0, 1, 0]), (F.ANG_CFG_LIMP_CAM_EN p, [0, 0, 1, 0]),
  (F.ANG_CFG_GUESS_EN p, [0, 0, 1, 0]), (F.ANG_CFG_GUESS_PH p, [0, 0, 0, 0]), (F.ANG_CFG_REV_PAT p, [0, 0, 0, 1]),
  (F.ANG_CFG_STALL_RESUME p, [0, 0, 0, 1]), (F.ANG_CFG_REACQ_MAN p, [0, 0, 0, 0]), (F.ANG_CFG_REP_MAX p, [1, 1, 1, 1]),
  (F.ANG_CFG_CONFIRM_GAPS p, [0, 0, 0, 1]), (F.ANG_PAT_GAP_MIN p, [70, 70, 70, 70]),
  (F.ANG_PAT_GAP_MAX p, [130, 130, 130, 130]), (F.ANG_PAT_GAP_FIND p, [60, 60, 60, 60]),
  (F.ANG_PAT2_REP_LO p, [75, 75, 75, 75]), (F.ANG_PAT_REP_HI p, [125, 125, 125, 125]),
  (F.ANG_TOL_CAM_TOL p, [160, 160, 160, 160]), (F.ANG_TOL_RED_TOL p, [16, 16, 16, 16]),
  (F.ANG_STALL_STALL_T p, [5000, 5000, 5000, 20000]), (F.ANG_LOSS_CRANK_LOSS p, [4, 4, 4, 4]),
  (F.ANG_LOSS_CAM_LOSS_CYC p, [2, 2, 2, 2]), (F.ANG_LOSS_PHASE_TO p, [4, 4, 4, 4]), (F.ANG_DIR_N_FWD p, [3, 3, 3, 5])]

/-- R154. -/
def presetPred (p : Nat) : List (Fld × List Nat) := [
  (F.PRED_CFG_NFIT p, [4, 4, 2, 6]), (F.PRED_CFG_ACC_LIM p, [25, 25, 50, 15]), (F.PRED_HOLD_HOLD p, [20, 20, 30, 10]),
  (F.PRED_CFG_DUNE_EN p, [0, 1, 0, 1]), (F.PRED_CFG_TOFS_EN p, [0, 0, 0, 0]), (F.PRED_DUNE_LEARN p, [0, 1, 0, 1]),
  (F.PRED_DUNE_LRATE_LOG2 p, [4, 4, 4, 6]), (F.PRED_DUNE_DEV p, [25, 25, 25, 15]),
  (F.PRED_DUNE_LRN_RPM_MIN p, [60, 60, 60, 30])]

/-- R193. -/
def presetCarv (i : Nat) : List (Fld × List Nat) := [
  (F.CARV_DOM_CFG_W_PAST i, [32, 16, 64]), (F.CARV_DOM_TIM_COMMIT_W i, [160, 80, 320]), (F.CARV_DOM_TIM_ADV i, [90, 300, 60])]

/-- R221. -/
def presetIgn (p : Nat) : List (Fld × List Nat) := [
  (F.IGN_DWELL_MIN p, [500, 300, 800]), (F.IGN_DWELL_MAX p, [6000, 3000, 8000]), (F.IGN_CFG_SPRIO p, [0, 0, 1]),
  (F.IGN_FB_EN p, [1, 1, 1]), (F.IGN_FB_POL p, [0, 0, 0]), (F.IGN_FB_INH_SHORT p, [1, 1, 1]),
  (F.IGN_FB_RISE_MIN p, [300, 150, 500]), (F.IGN_FB_RISE_MAX p, [5000, 2500, 7000]), (F.IGN_FB2_FALL_MAX p, [50, 30, 100])]

/-- R264. -/
def presetDrv (p : Nat) : List (Fld × List Nat) := [
  (F.DRV_SENSE_OC_THR p, [2500, 2500, 1500]), (F.DRV_TIM_OFF_MIN p, [100, 200, 500]),
  (F.DRV_TIM_ON_MAX p, [500, 10000, 25000]), (F.DRV_DUTY_DUTY_MAX p, [30, 60, 80]), (F.DRV_DUTY_DUTY_WIN p, [100, 1000, 2000]),
  (F.DRV_DIAG_RISE_MIN p, [200, 400, 1000]), (F.DRV_DIAG_OPEN_PCT p, [20, 20, 20]), (F.DRV_DIAG_OC_TRIPS p, [3, 3, 3]),
  (F.DRV_DIAG2_OFF_I p, [50, 50, 50])]

/-- R265. -/
def presetBank (p : Nat) : List (Fld × List Nat) := [
  (F.BANK_CFG_POLICY p, [0, 1, 2]), (F.BANK_CFG_MAX_DELAY p, [500, 500, 200]), (F.BANK_DIAG_SW_HI p, [80, 80, 80]),
  (F.BANK_DIAG_SW_LO p, [160, 160, 160])]

/-- R266. -/
def presetBst (p : Nat) : List (Fld × List Nat) := [
  (F.BST_CFG_TARGET p, [65, 48, 90]), (F.BST_CFG_READY p, [60, 44, 84]), (F.BST_LIM_HYST p, [10, 10, 15]),
  (F.BST_SW_TON p, [200, 300, 150]), (F.BST_SW_TOFF p, [150, 100, 250]), (F.BST_LIM_OV p, [72, 55, 95]),
  (F.BST_LIM_CHG_TO p, [50, 50, 100])]

/-- R296. -/
def presetAdc (p : Nat) : List (Fld × List Nat) := [
  (F.ADC_TRACK_TRACK p, [267, 1280, 5120])]

/-- R296. -/
def presetSmpl (i : Nat) : List (Fld × List Nat) := [
  (F.SMPL_DOM_CFG_LEAD i, [160, 80, 320])]

/-- R296. -/
def presetKnk : List (Fld × List Nat) := [
  (F.KNK_RATE_PER, [4000, 16000]), (F.KNK_RATE_PRE, [16, 8]), (F.KNK_CFG_FEN, [15, 15]), (F.KNK_BPF_F0 0, [6000, 1900]),
  (F.KNK_BPF_F0 1, [11000, 3200]), (F.KNK_BPF_F0 2, [14500, 4400]), (F.KNK_BPF_F0 3, [18000, 5500]),
  (F.KNK_BPF_BW 0, [1500, 600]), (F.KNK_BPF_BW 1, [1500, 600]), (F.KNK_BPF_BW 2, [1500, 600]), (F.KNK_BPF_BW 3, [1500, 600]),
  (F.KNK_INT_SQR, [0, 0]), (F.KNK_INT_SHIFT, [16, 12])]

/-- R335. -/
def presetTmr (i : Nat) : List (Fld × List Nat) := [
  (F.TMR_CFG_CMP_IMM i, [0, 0, 1, 0]), (F.TMR_CFG_PER_IMM i, [0, 0, 1, 0]), (F.TMR_CFG_CLASS i, [0, 1, 0, 1]),
  (F.TMR_CFG_OUTMODE i, [0, 2, 0, 2]), (F.TMR_CFG_TRIG_ACT i, [0, 0, 0, 3])]

/-- R356. -/
def presetPio (p : Nat) : List (Fld × List Nat) := [
  (F.PIO_CFG_SORDER p, [0, 0, 0]), (F.PIO_CFG_AFILL p, [0, 1, 0]), (F.PIO_CFG_ADELIV p, [0, 0, 1]),
  (F.PIO_CFG_LANES p, [0, 0, 0]), (F.PIO_CFG_WLEN p, [0, 0, 0])]

/-- R430. -/
def presetNl (p : Nat) : List (Fld × List Nat) := [
  (F.NL_RATE_RATE_MAX p, [80, 40, 5]), (F.NL_CFG_RETRY_MAX p, [3, 5, 7]), (F.NL_CFG_ACK_TO p, [10, 20, 150]),
  (F.NL_CFG_BACKOFF p, [10, 10, 100])]
/-- The words of a page that hold a PRESET field. -/
def presetWords (b : Blk) (p : Nat) : List Nat :=
  match b with
  | .whl => [R.WHL_CFG p] | .ang => [R.ANG_CFG p] | .pred => [R.PRED_CFG p] | .carv => [R.CARV_DOM_CFG 0, R.CARV_DOM_CFG 1]
  | .ign => [R.IGN_CFG p] | .drv => [R.DRV_CFG p] | .bank => [R.BANK_CFG p] | .bst => [R.BST_CFG p] | .adc => [R.ADC_CFG p]
  | .smpl => [R.SMPL_DOM_CFG 0, R.SMPL_DOM_CFG 1] | .knk => [R.KNK_CFG] | .tmr => [R.TMR_CFG (2 * p), R.TMR_CFG (2 * p + 1)]
  | .pio => [R.PIO_CFG p] | .nl => [R.NL_CFG p] | _ => []

/-- The preset table of the function whose PRESET field stands in the word at `a`. -/
def presetRows (b : Blk) (p a : Nat) : List (Fld × List Nat) :=
  let i := if presetWords b p = [a] ∨ (presetWords b p).head? = some a then 0 else 1
  match b with
  | .whl => presetWhl p | .ang => presetAng p | .pred => presetPred p | .carv => presetCarv i | .ign => presetIgn p
  | .drv => presetDrv p | .bank => presetBank p | .bst => presetBst p | .adc => presetAdc p | .smpl => presetSmpl i
  | .knk => presetKnk | .tmr => presetTmr (2 * p + i) | .pio => presetPio p | .nl => presetNl p | _ => []

/-- The highest preset code; codes from 1 on are presets. -/
def presetTop (b : Blk) : Nat :=
  match b with
  | .whl => 5 | .ang => 4 | .pred => 4 | .tmr => 4 | .knk => 2 | _ => 3

/-- The expert fields (R10) of a preset table in the word at `a`. -/
def expertBits (l : List (Fld × List Nat)) (a : Nat) : Word :=
  l.foldl (fun (m : Word) e => if e.1.addr = a then m ||| (BitVec.ofNat 32 (2 ^ (e.1.hi + 1 - e.1.lo) - 1) <<< e.1.lo) else m) 0

/-- The function, named by its PRESET word, that the word at `a` holds expert fields of. -/
def expertOwner (b : Blk) (p a : Nat) : Option Nat :=
  (presetWords b p).find? (fun pa => expertBits (presetRows b p pa) a != 0)

/-! ## Fields of a written word -/

/-- What a field takes of a written value (R90): the value, and whether a reserved code was written. -/
def FRow.take (f : FRow) (old v : Nat) : Nat × Bool :=
  match f.rng with
  | .any => (v, false)
  | .clamp a b => (clampN v a b, false)
  | .codes m => if m < v then (old, true) else (v, false)

def FRow.cfg (f : FRow) : Bool := f.acc == .rw || f.acc == .rws || f.acc == .rwl
def RRow.cfg (r : RRow) : Bool := r.fields.any FRow.cfg
def RRow.shadowed (r : RRow) : Bool := r.fields.any (fun f => f.acc == .rws)

/-- The listed fields of `old` take their values from `v`; 1 bits of W1C fields clear. -/
def takeFields (old v : Word) : List FRow → Word × Bool
  | [] => (old, false)
  | f :: r =>
    let (w, bad) := takeFields old v r
    if f.cfg then
      let (x, b) := f.take (wordGet old f.hi f.lo) (wordGet v f.hi f.lo)
      (wordSet w f.hi f.lo x, bad || b)
    else if f.acc == .w1c then (wordSet w f.hi f.lo (wordGet (old &&& ~~~v) f.hi f.lo), bad)
    else (w, bad)

/-- Clamps that look at a second field: R88 (PW_MAX), R222 (MIN), R267 (READY, OV), R300 (OPEN). -/
def Dev.clampWord (d : Dev) (b : Blk) (p a : Nat) (w : Word) : Word :=
  if b = .whl ∧ a = R.WHL_DIR p then (if wordGet w 27 16 ≤ wordGet w 11 0 then wordSet w 27 16 (wordGet w 11 0 + 1) else w)
  else if b = .ign ∧ a = R.IGN_DWELL p then (if wordGet w 31 16 ≤ wordGet w 15 0 then wordSet w 15 0 (wordGet w 31 16 - 1) else w)
  else if b = .bst ∧ a = R.BST_CFG p then wordSet w 30 24 (clampN (wordGet w 30 24) 20 (wordGet w 22 16 - 1))
  else if b = .bst ∧ a = R.BST_LIM p then wordSet w 6 0 (clampN (wordGet w 6 0) (d.get (F.BST_CFG_TARGET p) + 2) 100)
  else if b = .knk ∧ R.KNK_WIN_A 0 ≤ a ∧ a % 8 = R.KNK_WIN_A 0 % 8 then
    (let L := d.cycleLen (wordGet w 30 30); if L ≤ wordGet w 29 0 then wordSet w 29 0 (L - 1) else w)
  else w

/-- Store a configuration word; with `pend` its shadowed fields wait for the commit point (R59). -/
def Dev.storeWord (d : Dev) (a : Nat) (w : Word) (pend : Bool) : Dev :=
  let d1 := d.setReg a w
  if pend then { d1 with shadow := smIns d.shadow a (d.committed a) } else d1

/-! ## Presets (R10 to R14, R564) -/

def Dev.loadPreset (d : Dev) (b : Blk) (p pa c : Nat) : Dev :=
  let d1 := (presetRows b p pa).foldl (fun (d : Dev) e =>
    d.storeWord e.1.addr (wordSet (d.reg e.1.addr) e.1.hi e.1.lo (e.2.getD (c - 1) 0)) (rwsMask e.1.addr != 0)) d
  (d1.set ⟨pa, 7, 4⟩ c).set ⟨pa, 3, 0⟩ c

/-- A code written to the PRESET field in the word at `pa`: the device after it and whether it was accepted (R11, R126). -/
def Dev.presetCode (d : Dev) (b : Blk) (p pa c : Nat) : Dev × Bool :=
  let pg := pageOf pa
  if c = 0 ∨ presetTop b < c then (d.cfgRange pg, false)
  else if b = .ang ∧ d.enabled pg ∧ (presetRows b p pa).any (fun e => e.1 == F.ANG_CFG_STROKE p && e.2.getD (c - 1) 0 != d.get e.1) then
    (d.cfgBusy pg, false)
  else (d.loadPreset b p pa c, true)

/-- A write of a word that holds a PRESET field (R564). -/
def Dev.presetWord (d : Dev) (b : Blk) (p a : Nat) (row : RRow) (v : Word) : Dev :=
  let pg := pageOf a
  let old := d.reg a
  let written := row.fields.filter (fun f => f.cfg && f.lo != 0 && wordGet v f.hi f.lo != wordGet old f.hi f.lo)
  let pc := wordGet v 3 0
  let (d1, loaded) := if pc ≠ wordGet old 3 0 ∨ written = [] then d.presetCode b p a pc else (d, false)
  let busy := fun (f : FRow) => b == .ang && f.lo == 8 && d.enabled pg
  let bad := fun (f : FRow) => (f.take 0 (wordGet v f.hi f.lo)).2
  let l := written.filter (fun f => !busy f && !bad f)
  let w := d1.clampWord b p a (takeFields (d1.reg a) v l).1
  let d2 := if l = [] then d1 else d1.storeWord a w (l.any (fun f => f.acc == .rws))
  let d3 := if l.any (fun f => (expertBits (presetRows b p a) a).getLsbD f.lo) then d2.set ⟨a, 7, 4⟩ 15 else d2
  let d4 := if loaded || !l.isEmpty then d3.bumpGen pg else d3
  let d5 := if written.any busy then d4.cfgBusy pg else d4
  if written.any bad then d5.cfgRange pg else d5

/-- `PCTL.PRESET_ALL` (R13): code 1 of every function of the page; whether the page has any. -/
def Dev.presetAll (d : Dev) (b : Blk) (p : Nat) : Dev × Bool :=
  (presetWords b p).foldl (fun (x : Dev × Bool) pa => let y := x.1.presetCode b p pa 1; (y.1, x.2 || y.2)) (d, false)

/-! The 10 ms of R89 run from the first RWS write that waits: a later write does not start them again, and an edge accepted into the holding
queue, which is no commit point, does not stop them (notes/assumptions/83.md). -/

/-! ## Commit at once (R89, R121, R127, R155, R194, R222, R267, R297, R336, R357, R431) -/

def Dev.settlePage (d : Dev) (now : Nat) (b : Blk) (p : Nat) : Dev :=
  match b with
  | .whl =>
    if !d.enabled (P.WHL p) then d.whlCommit p
    else if d.shadow.any (fun e => pageOf e.1 == P.WHL p) && (d.whl p).commitBy.isNone then
      d.setWhl p { d.whl p with commitBy := some (now + 128000000) }
    else d
  | .ang =>
    let st := d.angState p
    let d1 := if !d.enabled (P.ANG p) || st == 0 || st == 1 || st == 5 || st == 6 then d.commit (P.ANG p) else d
    if st = 0 ∨ st = 1 ∨ st = 6 then d1.dirCommit now p else d1
  | .pred => if d.flag (F.PRED_STAT_VALID p) then d else d.commit (P.PRED p)
  | .carv => [0, 1].foldl (fun (d : Dev) k =>
      if d.committing k then d else d.commitSel P.CARV (fun a => a == R.CARV_DOM_CFG k || a == R.CARV_DOM_TIM k)) d
  | .ign =>
    let d1 := if (d.ign p).high then d else d.commitSel (P.IGN p) (fun a => a != R.IGN_SOFT p)
    if d.softHigh then d1 else d1.commitSel (P.IGN p) (fun a => a == R.IGN_SOFT p)
  | .drv => if !d.enabled (P.DRV p) || d.flag (F.DRV_STAT_INHIBIT p) then d.commit (P.DRV p) else d.drvIdle p
  | .bank =>
    if d.enabled (P.BANK p) && (List.range 4).any (fun i => (d.drv (4 * p + i)).conducts) then d else d.commit (P.BANK p)
  | .bst => if d.enabled (P.BST p) && d.flag (F.BST_STAT_SWITCHING p) then d else d.commit (P.BST p)
  | .adc => if d.enabled (P.ADC p) && ((d.adc p).busy || !(d.adc p).q.isEmpty) then d else d.commit (P.ADC p)
  | .smpl => [0, 1].foldl (fun (d : Dev) k =>
      if d.enabled P.SMPL && d.committing k then d else d.commitSel P.SMPL (fun a => a == R.SMPL_DOM_CFG k)) d
  | .knk => if d.enabled P.KNK && d.knkAnyOpen then d else d.knkCommit
  | .tmr => [2 * p, 2 * p + 1].foldl (fun (d : Dev) k => if d.tmrRunning k then d else d.tmrCommit k) d
  | .pio => if d.pioState p = 0 then d.pioCommit now p else d
  | .nl => d.nlWritten p
  | _ => d

/-! ## A plain write -/

/-- A write of the word at `a` field by field (R7, R8, R58, R90): reserved codes are reported, an expert field makes MODE read CUSTOM (R11). -/
def Dev.plainWrite (d : Dev) (now : Nat) (b : Blk) (p a : Nat) (row : RRow) (v : Word) : Dev :=
  let pg := pageOf a
  if (presetWords b p).contains a then (d.presetWord b p a row v).settlePage now b p
  else
    let (w, bad) := takeFields (d.reg a) v row.fields
    let d1 := d.storeWord a (d.clampWord b p a w) row.shadowed
    let d2 := match expertOwner b p a with
      | some pa => if row.cfg then d1.set ⟨pa, 7, 4⟩ 15 else d1
      | none => d1
    let d3 := if row.cfg then d2.bumpGen pg else d2
    let d4 := if bad then d3.cfgRange pg else d3
    if row.shadowed then d4.settlePage now b p else d4

end Sys2Proof.Machine
end

