-- ==== Sys2Proof/Machine/Write.lean ====
section
/-!
DEFINITION. Machine/Write.lean: what a granted write of a register does, block by block: the registers whose write is more than a plain one. The
permission of the write stands in Machine/Bus.lean.
-/

namespace Sys2Proof.Machine

/-- An effect of bit i of a written word. -/
def Dev.onBit (d : Dev) (v : Word) (i : Nat) (f : Dev → Dev) : Dev := if v.getLsbD i then f d else d

/-! ## The common registers (R46) -/

/-- `PCTL.SHDW_HOLD` (R60). -/
def Dev.holdWrite (d : Dev) (now pg : Nat) (b : Blk) (p : Nat) (v : Bool) : Dev :=
  let d1 := d.put (F.PCTL_SHDW_HOLD pg) v
  if !v && d.flag (F.PCTL_SHDW_HOLD pg) then d1.settlePage now b p else d1

/-- `PCTL.PRESET_ALL` (R13). -/
def Dev.presetAllWrite (d : Dev) (now pg : Nat) (b : Blk) (p : Nat) : Dev :=
  let r := d.presetAll b p
  (if r.2 then r.1.bumpGen pg else r.1).settlePage now b p

/-- The key of the lock sequence (R57). The first key sent again by OWNER keeps FIRST at 1, on a page whose sequence it began and on an
unlocked one: whether it begins the sequence anew or counts as another value is open (notes/assumptions/65.md). -/
def Dev.lockKey (d : Dev) (pg : Nat) (who : Initiator) (v : Word) : Dev :=
  let own := d.get (F.PLOCK_OWNER pg)
  if v = 0x4C0C ∧ (own = 7 ∨ own = who.code) then d.setReg (R.PLOCK pg) (w32 (who.code * 32 + 2))
  else if v = 0xC0C4 ∧ d.flag (F.PLOCK_FIRST pg) ∧ own = who.code then d.setReg (R.PLOCK pg) (w32 (who.code * 32 + 1))
  else d.setReg (R.PLOCK pg) 0xE0

/-- Does a write of `PCTL` count in `PGEN` (R13, R58)? ENABLE counts where it is accepted and is what the write means: where it changes, or
where the write gives no other field of the word anything new; `PRESET_ALL` counts on a page with presets. A restart that the write
starts counts by itself, once (R51). -/
def Dev.pctlCounts (d : Dev) (pg : Nat) (b : Blk) (p : Nat) (v : Word) : Bool :=
  let en := v.getLsbD 0
  let taken := if b.alwaysOn p then en else !(b == .pred && d.enabled (P.ANG p) && !en)
  let others := v.getLsbD 2 || v.getLsbD 3 || v.getLsbD 1 != d.frozen pg || v.getLsbD 4 != d.flag (F.PCTL_SHDW_HOLD pg)
  let restarts := v.getLsbD 2 && b != .sys && !d.restarting pg
  !restarts && ((taken && (en != d.enabled pg || !others)) || (v.getLsbD 3 && presetWords b p != []))

/-- A write of `PCTL`: its fields in ascending order, RESTART last. -/
def Dev.pctlWrite (d : Dev) (now pg : Nat) (b : Blk) (p : Nat) (v : Word) : Dev :=
  let en := v.getLsbD 0
  let d0 := d.enableWrite now pg en
  let d1 := if d.enabled pg && !d0.enabled pg then d0.settlePage now b p else d0
  let d2 := d1.freezeWrite now pg (v.getLsbD 1)
  let d3 := d2.holdWrite now pg b p (v.getLsbD 4)
  let d4 := d3.onBit v 3 (fun d => ((d.presetAll b p).1).settlePage now b p)
  let d5 := if d.pctlCounts pg b p v then d4.bumpGen pg else d4
  d5.onBit v 2 (fun d => d.blockRestart now pg)

/-- A write of `PIRQ`, `PIEN`, `PIFRC`, `PFFRC`. All 32 bits of PIRQ, PIEN and PIFRC are held on every page: R46 says 'per block', and whether
a bit that the block's chapter does not name exists is open (notes/assumptions/79.md). -/
def Dev.pirqClear (d : Dev) (pg : Nat) (v : Word) : Dev := (d.setReg (R.PIRQ pg) (d.reg (R.PIRQ pg) &&& ~~~v)).intcRefresh
def Dev.pienWrite (d : Dev) (pg : Nat) (v : Word) : Dev := (d.setReg (R.PIEN pg) v).intcRefresh
def Dev.pffrcWrite (d : Dev) (pg : Nat) (v : Word) : Dev := d.onBit v 0 (fun d => d.faultForce pg pg)

/-- A write of `PACC` (R55). -/
def Dev.paccWrite (d : Dev) (pg : Nat) (v : Word) : Dev := (d.setReg (R.PACC pg) (v &&& 0xF)).bumpGen pg

def Dev.commonWrite (d : Dev) (now : Nat) (who : Initiator) (b : Blk) (p pg o : Nat) (v : Word) : Dev :=
  match o with
  | 0x08 => d.pctlWrite now pg b p v
  | 0x10 => d.pirqClear pg v
  | 0x14 => d.pienWrite pg v
  | 0x18 => d.irqBits pg v
  | 0x20 => d.pffrcWrite pg v
  | 0x24 => d.lockKey pg who v
  | 0x28 => d.paccWrite pg v
  | _ => d

/-! ## Block by block; `go` is the plain write of the word -/

/-- SYS (R482). -/
def Dev.writeSys (d : Dev) (now : Nat) (who : Initiator) (a : Nat) (v : Word) (go : Dev → Word → Dev) : Dev :=
  if a = R.SYS_MODE then (d.leadWrite now (v.getLsbD 16).toNat).bumpGen P.SYS
  else if a = R.SYS_MODECMD then d.modeCmd now (wordGet v 15 8) (wordGet v 3 0)
  else if a = R.SYS_SAFEACK then d.safeAck now who v
  else if a = R.SYS_STGM_CTL then (go d v).onBit v 0 (fun d => d.stgmClr)
  else if a = R.SYS_CTL then (d.onBit v 0 (fun d => d.reboot)).onBit v 1 (fun d => d.sysClr)
  else go d v

/-- TBASE (R29, R31): REFSEL changes only through its own operation; a write that would change it in another mode is discarded whole. -/
def Dev.writeTbase (d : Dev) (now a : Nat) (v : Word) (go : Dev → Word → Dev) : Dev :=
  if a = R.TB_CTL then
    if wordGet v 0 0 ≠ d.get F.TB_CTL_REFSEL ∧ d.mode ≠ 4 ∧ d.mode ≠ 9 then d.modeRefused P.TBASE
    else (go d (wordSet v 0 0 (d.get F.TB_CTL_REFSEL))).refselWrite now (wordGet v 0 0) else go d v

/-- MRAMC (R511, R512, R516). -/
def Dev.writeMramc (d : Dev) (a : Nat) (v : Word) (go : Dev → Word → Dev) : Dev :=
  if a = R.MRAMC_WDHI then (d.mramDirect v).bumpGen P.MRAMC
  else if a = R.MRAMC_LAPP then d.logAppend v.toNat
  else if a = R.MRAMC_CTL then d.onBit v 0 (fun d => d.mramcClr)
  else go d v

/-- SEC (R488, R514). Reached by a write of `SEC_CMD` as such, what the command finds (its format, its signature) is open: free values. -/
def Dev.writeSec (d : Dev) (now : Nat) (who : Initiator) (a : Nat) (v : Word) (go : Dev → Word → Dev) : Dev :=
  if d.supDown then d
  else if a = R.SEC_CMD then
    if wordGet v 31 24 ≠ 0x53 ∨ d.flag F.SEC_STAT_PEND then d
    else d.tickFree.secCmd now who (wordGet v 7 0) (d.fresh % 2 == 1) (d.fresh / 2 % 2 == 1)
  else go d v

/-- UPD (R500, R501, R507, R515); the outcome of MRAM and signature checks is open where the write does not say it. -/
def Dev.writeUpd (d : Dev) (now a : Nat) (v : Word) (go : Dev → Word → Dev) : Dev :=
  if d.supDown then d
  else if a = R.UPD_STAGE then
    let k := wordGet v 1 0
    if wordGet v 31 24 ≠ 0x55 then d
    else match wordGet v 9 8 with
      | 0 => d.stageBegin k
      | 1 => d.tickFree.stageWrite k (d.fresh / 2 % 4) (d.fresh % 2 == 1)
      | 2 => d.tickFree.stageFinish k (d.fresh % 2 == 1) (d.fresh / 2 % 2 == 1)
      | _ => d.stageAbort k
  else if a = R.UPD_ACT then (if wordGet v 31 24 = 0x41 then d.activate now (wordGet v 3 0) false else d)
  else if a = R.UPD_CTL then
    let d1 := if wordGet v 3 0 = 0 then d else d.updConfirm (wordGet v 3 0)
    if wordGet v 11 8 = 0 then d1 else d1.updRevert now (wordGet v 11 8)
  else go d v

/-- WHL (R92). -/
def Dev.writeWhl (d : Dev) (p a : Nat) (v : Word) (go : Dev → Word → Dev) : Dev :=
  if a = R.WHL_CLR p then d.onBit v 0 (fun d => d.whlClr p)
  else if a = R.WHL_SSC p then (if p = 0 then d.sentEvtClear true v else d)
  else go d v

/-- ANG (R100, R117, R128). -/
def Dev.writeAng (d : Dev) (now p a : Nat) (v : Word) (go : Dev → Word → Dev) : Dev :=
  if a = R.ANG_BIND p ∨ a = R.ANG_TTN_A p ∨ a = R.ANG_TTN_B p ∨ a = R.ANG_TTN_C p then
    (if d.enabled (P.ANG p) then d.cfgBusy (P.ANG p) else go d v)
  else if a = R.ANG_CTL p then
    ((d.onBit v 0 (fun d => d.reacq p)).onBit v 1 (fun d => d.swDrop now p)).onBit v 2 (fun d => d.angClr p)
  else go d v

/-- PRED (R156). -/
def Dev.writePred (d : Dev) (p a : Nat) (v : Word) (go : Dev → Word → Dev) : Dev :=
  if a = R.PRED_CTL p then (d.onBit v 0 (fun d => d.predClr p)).onBit v 1 (fun d => d.duneReset p) else go d v

/-- CARV (R164, R166, R187, R195). -/
def Dev.writeCarv (d : Dev) (now : Nat) (who : Initiator) (a i : Nat) (v : Word) (go : Dev → Word → Dev) : Dev :=
  if R.CARV_RES 0 ≤ a ∧ a ≤ R.CARV_RES 3 then d.reserve i v
  else if a = R.CARV_DARM_W 3 then (d.directArm now who v).bumpGen P.CARV
  else if R.CARV_DARM_W 0 ≤ a ∧ a < R.CARV_DARM_W 3 then (d.setLatch who a v).bumpGen P.CARV
  else if a = R.CARV_CANCEL then d.cancel now who v
  else if a = R.CARV_INSP_SEL then (d.inspect who v).bumpGen P.CARV
  else if a = R.CARV_CTL then
    ((d.onBit v 0 (fun d => (d.flush now 0).leadUpdate now 0)).onBit v 1 (fun d => (d.flush now 1).leadUpdate now 1)).onBit v 2 (fun d => d.carvClr)
  else if a = R.CARV_LATEDEF then
    -- a code 3 keeps the previous value of its two bits (R194)
    let bad := (List.range 9).filter (fun j => wordGet v (2 * j + 1) (2 * j) == 3)
    let w := bad.foldl (fun (w : Word) j => wordSet w (2 * j + 1) (2 * j) (wordGet (d.reg a) (2 * j + 1) (2 * j))) v
    if bad = [] then go d w else (go d w).cfgRange P.CARV
  else go d v

/-- TRIG (R211). -/
def Dev.writeTrig (d : Dev) (now a : Nat) (v : Word) (go : Dev → Word → Dev) : Dev :=
  if a = R.TRIG_SW then d.trigSw now v
  else if a = R.TRIG_CTL then d.onBit v 0 (fun d => d.trigClr)
  else go d v

/-- TAPC (R205). -/
def Dev.writeTapc (d : Dev) (a i : Nat) (v : Word) (go : Dev → Word → Dev) : Dev :=
  if R.TAPC_CFG 0 ≤ a ∧ a ≤ R.TAPC_CFG 31 then (d.tapCfgWrite i v).bumpGen P.TAPC else go d v

/-- IGN (R223); `IGN_SOFT` is of IGN0 only. -/
def Dev.writeIgn (d : Dev) (p a : Nat) (v : Word) (go : Dev → Word → Dev) : Dev :=
  if a = R.IGN_CTL p then (d.onBit v 0 (fun d => d.ignClr p)).onBit v 1 (fun d => d.ignUninh p)
  else if a = R.IGN_SOFT p ∧ p ≠ 0 then d
  else go d v

/-- DRV, BANK, BST, PROF (R230, R235, R258, R268 to R271). An ABORT by a plain write finds a coil current the write does not say. -/
def Dev.writeDrv (d : Dev) (now p a : Nat) (v : Word) (go : Dev → Word → Dev) : Dev :=
  if a = R.DRV_CTL p then
    ((d.onBit v 0 (fun d => d.drvClr p)).onBit v 1 (fun d => d.drvUninh p)).onBit v 2
      (fun d => d.tickFree.drvAbort now p (d.fresh % 4096))
  else go d v
def Dev.writeBank (d : Dev) (now p a : Nat) (v : Word) (go : Dev → Word → Dev) : Dev :=
  if a = R.BANK_CTL p then (d.onBit v 0 (fun d => d.bankClr p)).onBit v 1 (fun d => d.unlatch now p) else go d v
def Dev.writeBst (d : Dev) (p a : Nat) (v : Word) (go : Dev → Word → Dev) : Dev :=
  if a = R.BST_CTL p then d.onBit v 0 (fun d => d.bstClr p) else go d v
def Dev.writeProf (d : Dev) (a : Nat) (v : Word) (go : Dev → Word → Dev) : Dev :=
  if a = R.PROF_LOAD then d.profLoad (wordGet v 3 0) else go d v

/-- ADC, SMPL, KNK (R275, R280, R298 to R300). -/
def Dev.writeAdc (d : Dev) (now p a : Nat) (v : Word) (go : Dev → Word → Dev) : Dev :=
  if a = R.ADC_CTL p then d.onBit v 0 (fun d => d.adcClr p)
  else if a = R.ADC_SW p then (go d v).onBit v 31 (fun d => d.adcSwGo now p)
  else go d v
def Dev.writeSmpl (d : Dev) (now a i : Nat) (v : Word) (go : Dev → Word → Dev) : Dev :=
  if a = R.SMPL_CTL then d.onBit v 0 (fun d => d.smplClr)
  else if a = R.SMPL_DOM_RUN i then (d.runWrite now i v).bumpGen P.SMPL
  else go d v
def Dev.writeKnk (d : Dev) (now a i : Nat) (v : Word) (go : Dev → Word → Dev) : Dev :=
  if a = R.KNK_CTL then d.onBit v 0 (fun d => d.knkClr)
  else if a = R.KNK_CHEN then d.chenWrite now (fun d => go d v)
  else if a = R.KNK_WIN_A i then d.winAWrite now i (fun d => go d v)
  else go d v

/-- CMB (R303, R319). -/
def Dev.writeCmb (d : Dev) (who : Initiator) (a : Nat) (v : Word) (go : Dev → Word → Dev) : Dev :=
  if a = R.CMB_CYLEN then (d.cylenWrite v).bumpGen P.CMB
  else if a = R.CMB_INSP_SEL then (d.cmbInspect who v).bumpGen P.CMB
  else if a = R.CMB_CTL then d.onBit v 0 (fun d => d.cmbClr)
  else go d v
/-- TRIM (R313, R320): a link that a write of `TRIM_Ln_SRC` disables sends offset 0 to its slots. -/
def Dev.writeTrim (d : Dev) (a : Nat) (v : Word) (go : Dev → Word → Dev) : Dev :=
  let n := (a % 0x1000 - 0x100) / 0x20
  if a = R.TRIM_ZERO_LO then d.trimZero 0 v
  else if a = R.TRIM_ZERO_HI then d.trimZero 32 v
  else if a = R.TRIM_CTL then d.onBit v 0 (fun d => d.trimClr)
  else if d.flag (F.TRIM_L_SRC_EN n) ∧ a = R.TRIM_L_SRC n ∧ !v.getLsbD 31 then (go d v).trimSend n 0
  else go d v

/-- TMR (R325, R326, R328, R333, R338). -/
def Dev.writeTmr (d : Dev) (now p a : Nat) (v : Word) (go : Dev → Word → Dev) : Dev :=
  let k := 2 * p + (if a % 0x1000 < 0x80 then 0 else 1)
  let pg := P.TMR p
  if p = 0 ∧ 0x100 ≤ a % 0x1000 then
    let g := (a % 0x1000 - 0x100) / 16
    if a = R.TMR_GRP_CTL g then (d.onBit v 0 (fun d => d.groupStart now g)).onBit v 1 (fun d => d.groupStop now g) else go d v
  else if a = R.TMR_CFG k then go (d.tmrMeet now k) v
  else if a = R.TMR_RELOAD k then (d.reloadWrite now k v).bumpGen pg
  else if a = R.TMR_COMPARE k then (d.compareWrite now k v).bumpGen pg
  else if a = R.TMR_CTL k then
    let d1 := if v.getLsbD 0 then d.timerRun now k else d.timerStop now k
    ((d1.onBit v 1 (fun d => d.timerFwrap now k)).onBit v 2 (fun d => d.timerClr k)).bumpGen pg
  else go d v

/-- PIO and PIOG (R344, R351 to R354, R358, R359). -/
def Dev.writePio (d : Dev) (now p a : Nat) (v : Word) (go : Dev → Word → Dev) : Dev :=
  let d0 := d.pioSettle now p
  if a = R.PIO_TX p then d0.pioTxWrite p v
  else if a = R.PIO_A p then d0.programWrite now p 32 v
  else if a = R.PIO_B p then d0.programWrite now p 33 v
  else if a = R.PIO_LC p then d0.programWrite now p 34 v
  else if a = R.PIO_SEND p then d0.programWrite now p 35 v
  else if a = R.PIO_TAKE p then d0.programWrite now p 36 v
  else if a = R.PIO_PINS p then (go d0 v).pioPins now p
  else if a = R.PIO_CTL p then
    let d1 := d0.onBit v 0 (fun d => d.pioHalt now p 1)
    let d2 := d1.onBit v 1 (fun d => (d.pioResume now p).1)
    (d2.onBit v 2 (fun d => d.pioRestart now p)).onBit v 3 (fun d => d.pioClr p)
  else go d0 v
def Dev.writePiog (d : Dev) (now a : Nat) (v : Word) (go : Dev → Word → Dev) : Dev :=
  if a = R.PIOG_START then d.piogStart now v
  else if a = R.PIOG_HALT then d.piogHalt now v
  else if a = R.PIOG_RESUME then d.piogResume now v
  else if a = R.PIOG_DSYNC then d.piogDsync now v
  else go d v

/-- INTC (R380, R381, R387, R391). -/
def Dev.writeIntc (d : Dev) (p a i : Nat) (v : Word) (go : Dev → Word → Dev) : Dev :=
  let o := a % 0x1000
  if p = 0 then
    if a = R.INTC_SWI then d.intcSwi v
    else if 0x60 ≤ o ∧ o < 0x80 then (if a = R.INTC_COMPLETE i then d.intcComplete i (v &&& 0x1FF) else d)
    else go d v
  else if 0x40 ≤ o ∧ o < 0x50 then d.pendClear (p - 1) i v
  else if 0x400 ≤ o then d.srcCfgWrite (128 * (p - 1) + (o - 0x400) / 8) (o % 8 != 0) v
  else go d v

/-- The core pages and RING (R372 to R378, R382). -/
def Dev.writeCore (d : Dev) (p a : Nat) (v : Word) (go : Dev → Word → Dev) : Dev :=
  if a = R.CORE_THRESH p then Dev.maskSettle d (go d v)
  else if a = R.CORE_SCRUB p then (go d v).onBit v 1 (fun d => d.setReg (R.CORE_ECC p) 0)
  else go d v
def Dev.writeRing (d : Dev) (now a i : Nat) (v : Word) (go : Dev → Word → Dev) : Dev :=
  let o := a % 0x1000
  if a = R.RING_SCRUB then (go d v).onBit v 1 (fun d => d.setReg R.RING_ECC 0)
  else if o < 0x80 then
    if o % 8 = 4 then go d (v &&& ~~~3#32)
    else if v.getLsbD 31 && !isPageAddr (d.reg (R.RING_RQ_ADDR i)).toNat then
      ((go d (wordSet v 31 31 (d.get (F.RING_RQ_SEL_EN i)))).irq P.RING 0).rep P.RING 0x52 0
    else go d v
  else if a = R.RING_BASE i then d.ringBase i v
  else if a = R.RING_CFG i then d.ringCfg i v
  else if a = R.RING_HEAD i then (if ringDevice i then d else d.ringIndex now i v)
  else if a = R.RING_TAIL i then (if ringDevice i then d.ringIndex now i v else d)
  else go d v

/-- NL, FAB, BEAC (R427, R432 to R434). -/
def Dev.writeNl (d : Dev) (now p a : Nat) (v : Word) (go : Dev → Word → Dev) : Dev :=
  if a = R.NL_CTL p then (d.onBit v 0 (fun d => d.nlClr p)).onBit v 1 (fun d => d.nlDown now p 4) else go d v
def Dev.writeFab (d : Dev) (now a : Nat) (v : Word) (go : Dev → Word → Dev) : Dev :=
  if a = R.FAB_CTL then (d.onBit v 0 (fun d => d.fabClr)).onBit v 1 (fun d => d.sendChg now) else go d v
def Dev.beacClr (d : Dev) : Dev := ((d.setReg R.BEAC_CNT_A 0).setReg R.BEAC_CNT_B 0).setReg R.BEAC_CNT_C 0
def Dev.writeBeac (d : Dev) (a i : Nat) (v : Word) (go : Dev → Word → Dev) : Dev :=
  if a = R.BEAC_CTL then d.onBit v 0 (fun d => d.beacClr)
  else if (a = R.BEAC_RX 0 ∨ a = R.BEAC_RX 1) ∧ d.enabled (P.ANG i) then d.cfgBusy P.BEAC
  else go d v

/-- FCOL, FFRC, MON (R442, R444, R445, R448, R449, R453, R455, R459, R460, R463 to R465). -/
def Dev.writeFcol (d : Dev) (now : Nat) (who : Initiator) (a i : Nat) (v : Word) (go : Dev → Word → Dev) : Dev :=
  if a = R.FCOL_ERRPIN then
    (go d (wordSet v 0 0 (d.get F.FCOL_ERRPIN_SWLVL))).swlvlWrite (v.getLsbD 0)
  else if a = R.FCOL_ACK then
    if v.getLsbD 31 then d.fcolAckAll now who else d.fcolAck now who (wordGet v 8 0)
  else if a = R.FCOL_DHOLD then d.dholdClear v
  else if a = R.FCOL_SWF then d.swFault v
  else if a = R.FCOL_CTL then (d.onBit v 0 (fun d => d.fcolClr)).onBit v 1 (fun d => d.firstClr)
  else if 0x800 ≤ a % 0x1000 then
    if actionOk i (wordGet v 2 0) then go d v
    else
      let d1 := go d (wordSet v 2 0 (wordGet (d.reg a) 2 0))
      if 3 < wordGet v 2 0 then d1.cfgRange P.FCOL else d1
  else go d v
def Dev.writeFfrc (d : Dev) (p a i : Nat) (v : Word) (go : Dev → Word → Dev) : Dev :=
  if 0x40 ≤ a % 0x1000 ∧ a % 0x1000 < 0x60 then d.forceWord p i v else go d v
def Dev.writeMon (d : Dev) (now p a : Nat) (v : Word) (go : Dev → Word → Dev) : Dev :=
  let m := 2 * p + (if a % 0x1000 < 0x200 then 0 else 1)
  if a = R.MON_CFG m then d.monCfg m v
  else if a = R.MON_HBASE m then d.monHbase m v
  else if a = R.MON_CTL m then
    ((d.onBit v 0 (fun d => d.monSnap now m)).onBit v 1 (fun d => d.monSnapClr now m)).onBit v 2 (fun d => d.monEmpty m)
  else go d v

/-- A write of a word of an Oasis page waits in its buffer (R520). -/
def Dev.writeOasis (d : Dev) (a : Nat) (row : RRow) (v : Word) : Dev :=
  let (w, _) := takeFields (d.reg a) v (row.fields.filter FRow.cfg)
  let ones := if a = R.RTC_SET then v else row.fields.foldl (fun (m : Word) f =>
    if f.acc == .w1c then m ||| wordSet 0 f.hi f.lo (wordGet v f.hi f.lo) else m) 0
  let d1 := d.oasisBuffer a (if row.cfg then some w else none) ones
  if row.cfg then d1.bumpGen (pageOf a) else d1

/-- A granted write of the block-specific register at `a`, row `row`, index i of its array. -/
def Dev.blockWrite (d : Dev) (now : Nat) (who : Initiator) (b : Blk) (p a : Nat) (row : RRow) (i : Nat) (v : Word) : Dev :=
  let go : Dev → Word → Dev := fun d w => d.plainWrite now b p a row w
  match b with
  | .sys => d.writeSys now who a v go
  | .tbase => d.writeTbase now a v go
  | .mramc => d.writeMramc a v go
  | .sec => d.writeSec now who a v go
  | .upd => d.writeUpd now a v go
  | .whl => d.writeWhl p a v go
  | .ang => d.writeAng now p a v go
  | .pred => d.writePred p a v go
  | .carv => d.writeCarv now who a i v go
  | .trig => d.writeTrig now a v go
  | .tapc => d.writeTapc a i v go
  | .ign => d.writeIgn p a v go
  | .drv => d.writeDrv now p a v go
  | .bank => d.writeBank now p a v go
  | .bst => d.writeBst p a v go
  | .prof => d.writeProf a v go
  | .adc => d.writeAdc now p a v go
  | .smpl => d.writeSmpl now a i v go
  | .knk => d.writeKnk now a i v go
  | .cmb => d.writeCmb who a v go
  | .trim => d.writeTrim a v go
  | .tmr => d.writeTmr now p a v go
  | .pio => d.writePio now p a v go
  | .piog => d.writePiog now a v go
  | .intc => d.writeIntc p a i v go
  | .core => d.writeCore p a v go
  | .ring => d.writeRing now a i v go
  | .nl => d.writeNl now p a v go
  | .fab => d.writeFab now a v go
  | .beac => d.writeBeac a i v go
  | .fcol => d.writeFcol now who a i v go
  | .ffrc => d.writeFfrc p a i v go
  | .mon => d.writeMon now p a v go
  | .rtc => d.writeOasis a row v
  | .sent => d.writeOasis a row v
  | .opwr => d.writeOasis a row v
  | .hostp => go d v

end Sys2Proof.Machine
end

