-- ==== Sys2Proof/Machine/Bus.lean ====
section
/-!
DEFINITION. Machine/Bus.lean: accesses of the five initiators (02_register_pages.md): permission and locks, reads with their latches and the
values that stand elsewhere in the state, the memory windows, and the host port.
-/

namespace Sys2Proof.Machine

/-- How an access ended: done, denied (R56), no such address (R42), page restarting (R52). -/
inductive BusRes where
  | ok | perm | addr | busy
  deriving DecidableEq, Repr

def BusRes.code : BusRes → Nat
  | .ok => 0 | .perm => 1 | .addr => 2 | .busy => 3

/-! ## Permission (R54 to R56) -/

/-- The initiator's bit of `PACC`. -/
def Dev.pacc (d : Dev) (who : Initiator) (pg : Nat) : Bool :=
  match who with
  | .sup => true
  | .host => (d.reg (R.PACC pg)).getLsbD 0
  | .app0 => (d.reg (R.PACC pg)).getLsbD 1
  | .app1 => (d.reg (R.PACC pg)).getLsbD 2
  | .fab => (d.reg (R.PACC pg)).getLsbD 3

/-- Writes only SUP may make (R55, R370, R381, R482), and in BOOT every write but the host's staging (R466). -/
def Dev.supOnly (d : Dev) (who : Initiator) (a : Nat) (v : Word) : Bool :=
  let pg := pageOf a
  let o := a % 0x1000
  let src := 128 * (pg - 0xB1) + (o - 0x400) / 8
  let staging := who == .host && (a == R.UPD_STAGE || a == R.UPD_SRC || a == R.UPD_OFS || a == R.UPD_LEN)
  o == 0x28 || pg == P.CORE 0 || ((pg == P.CORE 1 || pg == P.CORE 2) && (o == 8 || o == 0x40)) || a == R.SYS_SVC
    || (decide (0xB1 ≤ pg) && decide (pg ≤ 0xB4) && decide (0x400 ≤ o) && d.srcSupOnly src (o % 8 != 0) v)
    || (d.mode == 3 && !staging)

def Dev.mayWrite (d : Dev) (who : Initiator) (a : Nat) (v : Word) : Bool :=
  who == .sup || (d.pacc who (pageOf a) && !d.supOnly who a v)

/-- A denial (R56). -/
def Dev.denied (d : Dev) (who : Initiator) (pg : Nat) : Dev := d.rep pg 0x02 0 who.code

/-- R55: the RWL fields of the page accept writes of `who`. -/
def Dev.unlocked (d : Dev) (who : Initiator) (pg : Nat) : Bool :=
  d.flag (F.PLOCK_UNLOCKED pg) && d.get (F.PLOCK_OWNER pg) == who.code

/-- The bits of the RWL fields of a row. -/
def rwlMask : List FRow → Word
  | [] => 0
  | f :: r => (if f.acc = .rwl then BitVec.ofNat 32 (2 ^ (f.hi + 1 - f.lo) - 1) <<< f.lo else 0) ||| rwlMask r

/-- Probe 0x0F: one register access of the initiator; what it took is open (R462). -/
def Dev.access (d : Dev) (now : Nat) (who : Initiator) : Dev := d.tickFree.probe now 0x0F who.code (d.fresh : Nat)

/-! ## Writes of register pages -/

/-- A write of the register at `a` of an allocated page. -/
def Dev.pageWrite (d : Dev) (now : Nat) (who : Initiator) (a : Nat) (v : Word) : Dev × BusRes :=
  let pg := pageOf a
  let o := a % 0x1000
  match pageInfo pg with
  | none => (d, .addr)
  | some (b, p) =>
    if d.restarting pg ∧ o ≠ 8 then (d, .busy)
    else if !d.mayWrite who a v then (d.denied who pg, .perm)
    else if o < 0x40 then (d.commonWrite now who b p pg o v, .ok)
    else match rowAt b p o with
      | none => (d, .ok)
      | some (row, i) =>
        if b = .cmb ∧ R.CMB_VD 0 ≤ a ∧ a ≤ R.CMB_VD 7 ∧ d.vtabBusy i then ((d.denied who pg).rep pg 0x45 0, .perm)
        else
          let m := if d.unlocked who pg then 0 else rwlMask row.fields
          let old := d.reg a
          let row' := if m = 0 then row else { row with fields := row.fields.filter (fun f => f.acc != .rwl) }
          let d1 := d.blockWrite now who b p a row' i ((v &&& ~~~m) ||| (old &&& m))
          if (v ^^^ old) &&& m = 0 then (d1, .ok) else (d1.denied who pg, .perm)

/-! ## Reads of register pages -/

/-- The registers that read from the reader's own latch (R29 and the rules like it, R195, R319). -/
def latched (a : Nat) (b : Blk) (p : Nat) : Bool :=
  match b with
  | .tbase => a == R.TB_NOW_HI
  | .whl => a == R.WHL_LAST_HI p || a == R.WHL_RATIO p
  | .ang => a == R.ANG_TANGLE p || a == R.ANG_CYC p
  | .pred => a == R.PRED_ATS_LO p || a == R.PRED_ATS_HI p || (decide (R.PRED_TK_HI p ≤ a) && decide (a ≤ R.PRED_DEFF p))
  | .carv => (decide (R.CARV_DARM_W 0 ≤ a) && decide (a ≤ R.CARV_DARM_STAT)) || (decide (R.CARV_CANCEL_STAT ≤ a) && decide (a ≤ R.CARV_INSP7))
  | .cmb => a == R.CMB_INSP_SEL || a == R.CMB_INSP_DELTA || a == R.CMB_INSP_STAT
  | .ign => decide (R.IGN_LAST_HI p ≤ a) && decide (a ≤ R.IGN_LAST_FB p)
  | .drv => decide (R.DRV_LAST_HI p ≤ a) && decide (a ≤ R.DRV_LAST_I p)
  | .adc => a == R.ADC_SWTS_LO p || a == R.ADC_SWTS_HI p
  | .tmr => a == R.TMR_WRAP_HI (2 * p) || a == R.TMR_WRAP_HI (2 * p + 1)
  | .nl => a == R.NL_PEER p 1 || a == R.NL_PEER p 2 || a == R.NL_PEER p 3
  | .beac => (List.range 4).any (fun f => a == R.BEAC_AGE f)
  | .fcol => decide (R.FCOL_FIRST_W1 ≤ a) && decide (a ≤ R.FCOL_FIRST_TS_HI)
  | .sys => a == R.SYS_SAFE_TS_HI
  | .rtc => a == R.RTC_SEC || a == R.RTC_TB_HI || a == R.RTC_TB_SEC
  | _ => false

/-- SYS_SAFE_TS_LO_READ, BEAC_STAT_READ, TB_NOW_LO_READ, TMR_WRAP_LO_READ: the latch of one word. -/
def Dev.latchOne (d : Dev) (who : Initiator) (a : Nat) : Dev := d.setLatch who a (d.reg a)
def Dev.tbLatch (d : Dev) (now : Nat) (who : Initiator) : Dev := d.setLatch who R.TB_NOW_HI (hi32 now)

/-- What a read latches for its initiator. -/
def Dev.readLatch (d : Dev) (now : Nat) (who : Initiator) (b : Blk) (p a : Nat) : Dev :=
  match b with
  | .tbase => if a = R.TB_NOW_LO then d.tbLatch now who else d
  | .whl => if a = R.WHL_LAST_LO p then d.whlLatch who p else d
  | .ang => if a = R.ANG_POS p then d.angLatch who p else d
  | .pred => if a = R.PRED_TK_LO p then d.predLatch who p else d
  | .ign => if a = R.IGN_LAST_LO p then d.ignLatch who p else d
  | .drv => if a = R.DRV_LAST_LO p then d.drvLatch who p else d
  | .adc => if a = R.ADC_SWRES p then d.swresLatch who p else d
  | .tmr =>
    if a = R.TMR_WRAP_LO (2 * p) then d.latchOne who (R.TMR_WRAP_HI (2 * p))
    else if a = R.TMR_WRAP_LO (2 * p + 1) then d.latchOne who (R.TMR_WRAP_HI (2 * p + 1)) else d
  | .nl => if a = R.NL_PEER p 0 then d.nlLatch who p else d
  | .beac => (List.range 4).foldl (fun (d : Dev) f => if a = R.BEAC_STAT f then d.latchOne who (R.BEAC_AGE f) else d) d
  | .fcol => if a = R.FCOL_FIRST_W0 then d.firstLatch who else d
  | .sys => if a = R.SYS_SAFE_TS_LO then d.latchOne who R.SYS_SAFE_TS_HI else d
  | .rtc => if a = R.RTC_TB_LO then d.rtcTbLatch who else d
  | _ => d

/-- `PSTAT` (R46): FAULTED and RESTARTING are kept, the others stand in the state. -/
def Dev.pstat (d : Dev) (pg : Nat) : Word :=
  let oasis := isOasis (R.PID pg)
  let busy := if oasis then d.oasisBusy pg else if pg = P.SEC then d.flag F.SEC_STAT_PEND
    else if pg = P.UPD then d.flag F.UPD_SSTAT_PEND || d.flag F.UPD_ASTAT_PEND
    else if pg = P.MRAMC then d.flag F.MRAMC_WSTAT_PEND || d.flag F.MRAMC_LSTAT_PEND
    else if pg = P.PROF then d.flag F.PROF_LSTAT_PEND else false
  let dir := decide (pg = P.ANG 0 ∨ pg = P.ANG 1) && d.get (F.ANG_DIR_CMD (pg - P.ANG 0)) != d.get (F.ANG_DIR_CMD_ACT (pg - P.ANG 0))
  let pend := dir || (!oasis && d.shadow.any (fun e => pageOf e.1 == pg))
  (d.reg (R.PSTAT pg) &&& 0xC) ||| w32 (pend.toNat * 16 + (d.running pg).toNat * 2 + busy.toNat)

/-- A word of pending or active sources (R380, R387). -/
def bits32 (f : Nat → Bool) : Word := (List.range 32).foldl (fun (w : Word) b => if f b then w ||| (1#32 <<< b) else w) 0

/-- `CARV_DOMd_NEXT`: the angle of the earliest pending edge, 0 when there is none (its reset value). -/
def Dev.domNext (d : Dev) (k : Nat) : Dev × Word :=
  match (d.ordered k).head? with
  | none => (d, 0)
  | some e =>
    let L : Int := (d.cycleLen k : Int)
    (d, w32 ((((d.front k : Int) + (d.nextPos e.2 - d.trav k)) % L).toNat))

/-- The word the register at `a` reads, where it stands elsewhere in the state or the read has an effect; none: the kept word. -/
def Dev.view (d : Dev) (now : Nat) (who : Initiator) (b : Blk) (p a i : Nat) : Option (Dev × Word) :=
  let o := a % 0x1000
  match b with
  | .tbase =>
    if a = R.TB_NOW_LO then some (d, lo32 now) else if a = R.TB_SLEW then some (d, d.slewOfs now)
    -- the span is measured and filtered again at every period: what the filter holds after the lock is open (notes/assumptions/81.md)
    else if a = R.TB_STAT ∧ d.flag F.TB_STAT_CAL_LOCK then some (d.tickFree, wordSet (d.reg a) 31 16 d.fresh) else none
  | .whl =>
    if a = R.WHL_SSC p then
      if p = 0 then
        let on := d.effB F.SENT_SSC_EN && !d.oasis.halted
        some (d, w32 (((d.get F.SENT_EVT_EVT).testBit 8).toNat * 4 + (on && d.oasis.sscLvl).toNat * 2 + on.toNat))
      else some (d, 0)
    -- in VR the front end arms inside a half-wave (R73), of which the command at its end tells: until then ARMED is open
    else if a = R.WHL_STAT p ∧ d.eff (F.WHL_CFG_TYPE p) = 0 ∧ d.captures p ∧ !d.flag (F.WHL_STAT_ARMED p)
        ∧ (d.eff (F.WHL_CFG_EDGE p) = 2 ∨ d.takesEdge p (!d.flag (F.WHL_STAT_LEVEL p))) then
      some (d.tickFree, wordSet (d.reg a) 1 1 (d.fresh % 2))
    else none
  | .ang => if a = R.ANG_STATE p ∧ (d.get F.FCOL_DHOLD_HOLD).testBit p then some (d, d.reg a ||| 0x40) else none
  | .pred => if a = R.PRED_ANGLE p then some (d.predAngleRead now who p) else none
  | .carv =>
    if a = R.CARV_DOM_STAT 0 ∨ a = R.CARV_DOM_STAT 1 then
      let used := (d.carv.slots.filter (fun e => e.2.st != 0 && e.2.c.dom == i)).length
      some (d, w32 (used * 0x10000 + ((d.lead i).filter (fun e => e.2.st != 1)).length * 256 + (d.flag (F.ANG_STATE_REVERSE i)).toNat * 2 + (d.committing i).toNat))
    else if a = R.CARV_DOM_NEXT 0 ∨ a = R.CARV_DOM_NEXT 1 then some (d.domNext i)
    else if a = R.CARV_POOL then some (d, w32 ((256 - d.slotsUsed) * 0x10000 + d.sharedFree))
    else if R.CARV_ARM_CFG 0 ≤ a ∧ a ≤ R.CARV_ARM_CFG 7 then some (d, wordSet (d.reg a) 8 0 (d.ringUse i))
    else if a = R.CARV_DARM_CFG then some (d, wordSet (d.reg a) 8 0 d.winUse)
    else none
  | .ign =>
    if a = R.IGN_STAT p then
      let x := d.ign p
      some (d, (d.reg a &&& 0x21F) ||| w32 (d.softHigh.toNat * 1024 + (d.ignFb p).toNat * 256 + x.high.toNat * 128
        + (d.chan (48 + p)).pend.isSome.toNat * 64))
    else if a = R.IGN_SOFT p ∧ p ≠ 0 then some (d, 0)
    else none
  | .drv =>
    if a = R.DRV_STAT p then some (d, d.drvStat p)
    else if a = R.DRV_DUTY_NOW p then some (d, w32 (d.dutyUse now p)) else none
  | .adc => if a = R.ADC_STAT p then some (d, d.adcStat p) else none
  | .tapc => if a = R.TAPC_PIN then (let d1 := d.pioSettleAll now; some (d1.tickFree, d1.pinLevels (w32 d1.fresh))) else none
  | .pio =>
    if a = R.PIO_RX p then some (d.pioRxRead p) else if a = R.PIO_SC p then some (d, d.pioSc now p) else none
  | .piog =>
    if a = R.PIOG_STAT then
      let d1 := d.pioSettleAll now
      some (d1, (d1.reg a &&& 0xFFFFFF00) ||| (bits32 (fun n => decide (n < 8) && d1.pioState n != 0)))
    else none
  | .intc =>
    if p = 0 then
      if a = R.INTC_HSTAT then some (d, d.hstat)
      else if 0x60 ≤ o ∧ o < 0x80 ∧ o % 8 = 0 then some (d.intcClaim i)
      else none
    else if 0x40 ≤ o ∧ o < 0x50 then some (d, bits32 (fun s => d.srcPending (128 * (p - 1) + 32 * i + s)))
    else if 0x50 ≤ o ∧ o < 0x60 then some (d, bits32 (fun s => d.intc.act.contains (128 * (p - 1) + 32 * i + s)))
    else none
  | .core =>
    if a = R.CORE_STAT p then
      let x := d.hart p
      some (d, w32 (d.effThr p * 4096 + min x.levels.length 15 * 256 + x.priv % 4 * 4 + x.wfi.toNat * 2 + x.halted.toNat))
    else none
  | .fab =>
    if a = R.FAB_STAT then some (d, wordSet (d.reg a) 9 9 (d.fabSettled now).toNat)
    else if R.FAB_UID 0 ≤ a ∧ a ≤ R.FAB_UID 3 then some (d, (uidWords ownUid).getD i 0)
    else none
  | .fcol => if a = R.FCOL_SUM then some (d, d.fcolSum) else none
  | .ffrc =>
    if 0x80 ≤ o ∧ o < 0xA0 then some (d, d.ffrcUnack p i)
    else if 0x400 ≤ o ∧ o < 0x800 then some (d, d.ffrcStat (256 * p + i)) else none
  | .sec => if a = R.SEC_CERTLEN then some (d, w32 (Config.certLen % 2049)) else none
  | .upd => if a = R.UPD_MOVE then some (d, w32 (d.updMove now)) else none
  | .rtc => if a = R.RTC_SUB then some (d.tickFree.rtcSubRead who (d.fresh % 32768), w32 (d.fresh % 32768)) else none
  | .opwr => if a = R.OPWR_WAKE then some (d, wordSet (d.reg a) 3 3 d.wakePin.toNat) else none
  | _ => none

/-- The WO fields of a word read 0 (R7). -/
def readMask (row : RRow) (w : Word) : Word :=
  row.fields.foldl (fun (w : Word) f => if f.acc == .wo then wordSet w f.hi f.lo 0 else w) w

/-- A read of the register at `a` of an allocated page, with its effects (R52 for a restarting page). -/
def Dev.regRead (d : Dev) (now : Nat) (who : Initiator) (a : Nat) : Dev × Word :=
  let pg := pageOf a
  let o := a % 0x1000
  match pageInfo pg with
  | none => (d, 0)
  | some (b, p) =>
    if o = 8 then (d, d.reg a)
    else if o = 0xC then (d, d.pstat pg)
    else if d.restarting pg then (d, resetWord a)
    else if o < 0x40 then (d, d.reg a)
    else match rowAt b p o with
      | none => (d, 0)
      | some (row, i) =>
        let d0 := if b = .pio then d.pioSettle now p else d
        let d1 := d0.readLatch now who b p a
        match d1.view now who b p a i with
        | some r => r
        | none => (d1, if latched a b p then d1.latch who a else if a = R.SYS_SAFEACK then d1.reg a else readMask row (d1.reg a))

/-! ## Memory windows and core memories (R43 to R45, R365, R366) -/

/-- Where the address of a core's private memory stands: SUP's ROM and RAM at their own addresses, the memories of APPn at SUP's alias. -/
def coreMem (who : Initiator) (a : Nat) : Option Nat :=
  let app := fun (n : Nat) =>
    if a < 0x40000 then some (0x50000000 + 0x1000000 * n + a)
    else if 0x10000000 ≤ a ∧ a < 0x10040000 then some (0x50800000 + 0x1000000 * n + a % 0x10000000) else none
  match who with
  | .sup =>
    if a < 0x10000 ∨ (0x10000000 ≤ a ∧ a < 0x10020000) then some a
    else if 0x50000000 ≤ a ∧ a < 0x52000000 ∧ a % 0x800000 < 0x40000 then some a else none
  | .app0 => app 0
  | .app1 => app 1
  | _ => none

/-- The spans of the windows (R44). -/
def inWindow (a : Nat) : Bool :=
  (decide (0x41000000 ≤ a) && decide (a < 0x41400000)) || (decide (0x20000000 ≤ a) && decide (a < 0x20100000))
    || (decide (0x60000000 ≤ a) && decide (a < 0x61000000))

/-- The owner page of an implemented window word; none for an address beyond the implemented extent. -/
def winOwner (a : Nat) : Option Nat :=
  if 0x20000000 ≤ a ∧ a < 0x20100000 then some P.RING
  else if 0x41000000 ≤ a ∧ a < 0x41008000 then (if a % 0x4000 < 0x2800 then some (P.ANG (a % 0x100000 / 0x4000)) else none)
  else if 0x41008000 ≤ a ∧ a < 0x4100A000 then some (P.PRED (a % 0x2000 / 0x1000))
  else if 0x41100000 ≤ a ∧ a < 0x41101000 then some P.PROF
  else if 0x41200000 ≤ a ∧ a < 0x41200200 then some P.SMPL
  else if (0x41201000 ≤ a ∧ a < 0x41201300) ∨ (0x41204000 ≤ a ∧ a < 0x41214000) then some P.CMB
  else if 0x41300000 ≤ a ∧ a < 0x41300400 then some (P.PIO (a % 0x1000 / 0x80))
  else none

/-- The bits of a window word that hold something: a reserved bit reads 0 and discards what is written (R8) in the tooth tables (R101)
and the profiles (R228, R229). A run or cylinder descriptor keeps its reserved bits, because its validation looks for a 1 there (R280, R303). -/
def winMask (a : Nat) : Word :=
  if 0x41000000 ≤ a ∧ a < 0x41008000 then 0x3FFFFFFF#32
  else if 0x41100000 ≤ a ∧ a < 0x41101000 then
    let o := a % 0x100
    if o < 4 then 0xFFFF03FF#32 else if o < 8 then 0xFFFF#32 else if o < 0x10 then 0xFFFFFFFF#32
    else if 0x90 ≤ o then 0
    else if o % 16 < 4 then 0xFFFF01FF#32 else if o % 16 < 8 then 0x0FFF0FFF#32 else if o % 16 < 12 then 0xFFFFFFFF#32 else 0
  else 0xFFFFFFFF#32

/-- RISE_SPAN and PEG_LEN of a cylinder descriptor are never 0 (R301, R318, R90). -/
def cylClamp (a : Nat) (v : Word) : Word :=
  match a % 0x20 / 4 with
  | 1 => if wordGet v 15 8 = 0 then v ||| 0x100#32 else v
  | 5 => if wordGet v 11 0 = 0 then v ||| 1#32 else v
  | _ => v

/-- A permitted write of a window word: the owner's own restriction, denied under R56 with the block's own kind after ACC_DENIED (R102, R146,
R280, R303; R344), then the word and `PGEN` (R58). -/
def Dev.winStore (d : Dev) (now : Nat) (who : Initiator) (pg a : Nat) (v : Word) : Dev × BusRes :=
  let v := v &&& winMask a
  let put := fun (d : Dev) (v : Word) => (((d.setWord a v).breakResv a).bumpGen pg, BusRes.ok)
  let bar := fun (kind : Nat) => ((d.denied who pg).rep pg kind 0, BusRes.perm)
  match pageInfo pg with
  | some (.ang, _) => if d.enabled pg then bar 0x15 else put d v
  | some (.pred, k) => if d.duneBars k a then bar 0x28 else ((d.duneWrite k a v).bumpGen pg, .ok)
  | some (.smpl, _) =>
    let k := a % 0x1000 / 0x100
    let r := a % 0x100 / 0x10
    if d.runEn k r || d.runAct k r then bar 0x42 else put d v
  | some (.cmb, _) =>
    if a < 0x41204000 then
      (if (d.reg R.CMB_CYLEN).getLsbD (a % 0x1000 / 0x20) then bar 0x45 else put d (cylClamp a v))
    else if d.vtabBusy ((a + 0xC000) % 0x10000 / 0x2000) then bar 0x45 else put d v
  | some (.pio, n) => (d.programWrite now n (a % 0x80 / 4) v, .ok)
  | _ => put d v

/-- R466: in BOOT only SUP writes, and the host stages through shared SRAM. -/
def Dev.bootBars (d : Dev) (who : Initiator) (pg : Nat) : Bool := d.mode == 3 && who != .sup && !(who == .host && pg == P.RING)

/-- WINDOW_WRITE: a write of the window word at `a`. -/
def Dev.winWrite (d : Dev) (now : Nat) (who : Initiator) (a : Nat) (v : Word) : Dev × BusRes :=
  if 0x60000000 ≤ a then (d.denied who P.MRAMC, .perm)
  else match winOwner a with
    | none => (d, .ok)
    | some pg =>
      if !d.pacc who pg || d.bootBars who pg then (d.denied who pg, .perm) else d.winStore now who pg a v

/-- A read of the window word at `a`: the key store of MRAM reads 0, and while the device is LOCKED the window is closed to host and fabric. -/
def Dev.winRead (d : Dev) (now : Nat) (who : Initiator) (a : Nat) : Dev × Word × BusRes :=
  if 0x60000000 ≤ a then
    if (who = .host ∨ who = .fab) ∧ d.lifecycle = 3 then (d.denied who P.MRAMC, 0, .perm)
    else if a < 0x60001000 then (d, 0, .ok)
    else (d, d.word a, .ok)
  else match winOwner a with
    | none => (d, 0, .ok)
    | some pg =>
      match pageInfo pg with
      | some (.pio, n) => (d.pioSettle now n, d.word a, .ok)
      | _ => (d, d.word a, .ok)

/-- A store of a core to its private memory, or of SUP through the alias (R366). -/
def Dev.coreStore (d : Dev) (who : Initiator) (m : Nat) (v : Word) : Dev × BusRes :=
  if m < 0x10000 then (d, .addr)
  else if 0x50000000 ≤ m ∧ who = .sup then
    let n := m % 0x10000000 / 0x1000000
    if !d.enabled (P.CORE (n + 1)) || (d.hart (n + 1)).halted then (d.setWord m v, .ok) else (d.rep (P.CORE (n + 1)) 0x4E 0, .ok)
  else if 0x50000000 ≤ m ∧ m % 0x1000000 < 0x40000 ∧ (d.hart (m % 0x10000000 / 0x1000000 + 1)).priv = 0 then (d, .addr)
  else (d.setWord m v, .ok)

/-! ## Accesses -/

/-- A word write without what its initiator sees of it. -/
def Dev.wordWrite (d : Dev) (now : Nat) (who : Initiator) (a : Nat) (v : Word) : Dev × BusRes :=
  if isPageAddr a then (if a % 4 = 0 then (d.access now who).pageWrite now who a v else (d, .addr))
  else if inWindow a then d.winWrite now who (a / 4 * 4) v
  else match coreMem who a with
    | some m => d.coreStore who (m / 4 * 4) v
    | none => (d, .addr)

/-- How the last access ended, as its initiator sees it. -/
def Dev.result (d : Dev) (r : BusRes) : Dev := { d with port := { d.port with res := r.code } }

/-- A write by `who`: a core takes an access fault where it is denied or finds no address (R42, R56). -/
def Dev.busWrite (d : Dev) (now : Nat) (who : Initiator) (a : Nat) (v : Word) : Dev × BusRes :=
  let r := d.wordWrite now who a v
  match r.2 with
  | .perm => ((r.1.result .perm).coreFault who true a, .perm)
  | .addr => ((r.1.result .addr).coreFault who true a, .addr)
  | x => (r.1.result x, x)

/-- The word of an 8- or 16-bit store merged over the present word (R43, R368). -/
def subWord (old : Word) (a size : Nat) (v : Word) : Word :=
  if size = 1 then wordSet old (8 * (a % 4) + 7) (8 * (a % 4)) v.toNat
  else if size = 2 then wordSet old (8 * (a % 4) + 15) (8 * (a % 4)) v.toNat
  else v

/-- A store of 1, 2 or 4 bytes: register pages take aligned words only. -/
def Dev.sizedWrite (d : Dev) (now : Nat) (who : Initiator) (a size : Nat) (v : Word) : Dev × BusRes :=
  let bad := a % size != 0 || (isPageAddr a && size != 4)
  if bad then (({ d with port := { d.port with res := 2 } } : Dev).coreFault who true a, .addr)
  else if size = 4 then d.busWrite now who a v
  else
    let m := match coreMem who a with | some m => m / 4 * 4 | none => a / 4 * 4
    d.busWrite now who a (subWord (d.word m) a size v)

/-- A read of a word by `who`; register pages take aligned words only (R43). The table has no command for a core's own load: the commands that
read a register come here (R42: an address outside every page and window answers ADDR, a core's load access fault). -/
def Dev.busRead (d : Dev) (now : Nat) (who : Initiator) (a : Nat) : Dev × Word × BusRes :=
  if isPageAddr a ∧ a % 4 ≠ 0 then (d, 0, .addr)
  else if isPageAddr a then
    let r := (d.access now who).regRead now who a
    (r.1, r.2, if d.restarting (pageOf a) && a % 0x1000 != 8 && a % 0x1000 != 0xC then .busy else .ok)
  else if inWindow a then d.winRead now who (a / 4 * 4)
  else match coreMem who a with
    | some m => (d, d.word (m / 4 * 4), .ok)
    | none => (d, 0, .addr)

/-- The word a read gave its initiator, and how it ended. -/
def Dev.readResult (d : Dev) (w : Word) (r : BusRes) : Dev := { d with port := { d.port with rdata := w, res := r.code } }

/-- A read whose word the initiator is given: `Dev.port` shows it. -/
def Dev.readBack (d : Dev) (now : Nat) (who : Initiator) (a : Nat) : Dev :=
  let r := d.busRead now who a
  match r.2.2 with
  | .perm => (r.1.readResult r.2.1 .perm).coreFault who false a
  | .addr => (r.1.readResult r.2.1 .addr).coreFault who false a
  | x => r.1.readResult r.2.1 x

end Sys2Proof.Machine
end

