-- ==== Sys2Proof/Machine/Host.lean ====
section
/-!
DEFINITION. Machine/Host.lean: transactions of the host port (R61 to R71), ring request lines (R377), and commands that are one register write
whose outcome depends on more than the word written.
-/

namespace Sys2Proof.Machine

/-! ## Transactions -/

/-- R40, R65 step 3: the first word lies in an allocated page or in the span of a window. -/
def hostMapped (a : Nat) : Bool := isPageAddr a || inWindow a

/-- Words of a burst of `n` from byte address `a` before its 4 KiB region ends (R66). -/
def burstWords (a n : Nat) : Nat := min n ((0x1000 - a % 0x1000) / 4)

/-- R65 steps 1 to 3: the code that ends the transaction before any word moves. -/
def hostCheck (write : Bool) (cmd addr : Word) (data : List Word) (crc : BitVec 16) : Option Nat :=
  if crc != crc16 (cmd :: addr :: data) then some 1
  else if wordGet cmd 31 28 != (if write then 2 else 1) || wordGet cmd 27 24 != 0 || wordGet cmd 7 0 != 0 then some 2
  else if !hostMapped (4 * addr.toNat) then some 3
  else none

def hostLen (cmd : Word) : Nat := wordGet cmd 23 16 + 1

/-- What a memory read of a burst finds wrong: 1 corrected, 2 not (R367, R368). -/
def Dev.readErr (d : Dev) (a err : Nat) : Dev :=
  if err = 0 then d
  else if 0x20000000 ≤ a ∧ a < 0x20100000 then d.memErr 3 a (err != 1)
  else if 0x60000000 ≤ a ∧ a < 0x61000000 then
    (if err = 1 then (d.incSat F.MRAMC_CNT_RD_RETRY).rep P.MRAMC 0x55 0 else d.rep P.MRAMC 0x55 1)
  else d

/-- Writes by other initiators granted before word i of a burst (R71): the host's words reach a page one at a time. -/
def Dev.between (d : Dev) (now i : Nat) (met : List Grant) : Dev :=
  met.foldl (fun (d : Dev) g => if g.word = i then (d.sizedWrite now g.who g.addr 4 g.v).1 else d) d

/-- `n` read words from `a` in ascending address: the words, how many were read, and whether one was denied; `met` the writes granted
between them, i the number of the word. -/
def Dev.fetchWords (d : Dev) (now : Nat) (who : Initiator) (met : List Grant) (a i : Nat) : Nat → Dev × List Word × Nat × List Nat
  | 0 => (d, [], 0, [])
  | n + 1 =>
    let r := (d.between now i met).busRead now who a
    let s := r.1.fetchWords now who met (a + 4) (i + 1) n
    if r.2.2 = .perm then (s.1, r.2.1 :: s.2.1, s.2.2.1, 4 :: s.2.2.2) else (s.1, r.2.1 :: s.2.1, s.2.2.1 + 1, s.2.2.2)

/-- Write words applied in ascending address, permission checked for each (R65 step 4). -/
def Dev.applyWords (d : Dev) (now : Nat) (who : Initiator) (met : List Grant) (a i : Nat) : List Word → Dev × Nat × List Nat
  | [] => (d, 0, [])
  | w :: l =>
    let r := (d.between now i met).wordWrite now who a w
    let s := r.1.applyWords now who met (a + 4) (i + 1) l
    match r.2 with
    | .perm => (s.1, s.2.1, 4 :: s.2.2)
    | .busy => (s.1, s.2.1, 7 :: s.2.2)
    | _ => (s.1, s.2.1 + 1, s.2.2)

/-- The lowest of the codes met; 0 when there is none (R69). -/
def lowestCode (l : List Nat) : Nat := l.foldl (fun m c => if m = 0 ∨ c < m then c else m) 0

/-- The sticky bit of each code met, and of an abort, with its interrupt bit (R70). -/
def Dev.hostSticky (d : Dev) (codes : List Nat) (aborted : Bool) : Dev :=
  let bits := codes.foldl (fun (w : Word) c => if 1 ≤ c ∧ c ≤ 6 then w ||| (1#32 <<< (c - 1)) else w) (if aborted then 0x40 else 0)
  (d.setReg R.HOSTP_STAT (d.reg R.HOSTP_STAT ||| bits)).irqBits P.HOSTP bits

/-- R70: what a transaction leaves in the HOSTP page. -/
def Dev.hostNote (d : Dev) (cmd addr : Word) (codes : List Nat) (aborted : Bool) : Dev :=
  let code := lowestCode codes
  let d1 := (d.hostSticky codes aborted).set F.HOSTP_STAT_LASTCODE code
  let d2 := if code = 0 then d1
    else (d1.setReg R.HOSTP_LASTCMD (if code = 1 then 0 else cmd)).setReg R.HOSTP_LASTADDR (if code = 1 then 0 else addr)
  let d3 := if aborted then d2.incSat F.HOSTP_CNT_ERR_OTHER
    else if code = 0 then d2.inc F.HOSTP_CNT_OK_OK
    else if code = 1 then d2.incSat F.HOSTP_CNT_ERR_CRC
    else d2.incSat F.HOSTP_CNT_ERR_OTHER
  if code = 1 then d3.rep P.HOSTP 0x0F 0 else d3

/-- The status word (R69). -/
def hostStatus (cmd : Word) (code ndone : Nat) : Word :=
  w32 (code * 0x10000000 + (if code = 1 then 0 else wordGet cmd 15 8) * 0x10000 + ndone)

/-- The transaction ends with its response; how long HCSn was low is open (probe 0x10, R462). -/
def Dev.hostEnd (d : Dev) (now : Nat) (cmd addr : Word) (codes : List Nat) (ndone : Nat) (data : List Word) : Dev :=
  let d1 := d.hostNote cmd addr codes false
  let st := hostStatus cmd (lowestCode codes) ndone
  let d2 : Dev := { d1 with port := { d1.port with status := st, data := data, crc := crc16 (st :: data) } }
  d2.tickFree.probe now 0x10 0 (d2.fresh : Nat)

def zeros (n : Nat) : List Word := List.replicate n 0

/-- The codes of a burst of `n` words that stops after `m` at the end of its region, once `k` words have moved (R66, R69). -/
def truncCode (n m k : Nat) : List Nat := if m < n ∧ m ≤ k then [5] else []

/-- HOST_READ (R65). A read whose CRC, OPC or address check fails is framed as any read (R63): its LEN + 1 data words are 0 here, after a CRC
failure too, which the manual does not say (notes/assumptions/80.md). -/
def Dev.hostRead (d : Dev) (now : Nat) (cmd addr : Word) (crc : BitVec 16) (err : Nat) (met : List Grant) : Dev :=
  let n := hostLen cmd
  match hostCheck false cmd addr [] crc with
  | some c => d.hostEnd now cmd addr [c] 0 (zeros n)
  | none =>
    let a := 4 * addr.toNat
    let m := burstWords a n
    let r := (d.readErr a err).fetchWords now .host met a 0 m
    r.1.hostEnd now cmd addr (truncCode n m m ++ r.2.2.2) r.2.2.1 (r.2.1 ++ zeros (n - m))

/-- HOST_WRITE (R65). -/
def Dev.hostWrite (d : Dev) (now : Nat) (cmd addr : Word) (data : List Word) (crc : BitVec 16) (met : List Grant) : Dev :=
  match hostCheck true cmd addr data crc with
  | some c => d.hostEnd now cmd addr [c] 0 []
  | none =>
    let a := 4 * addr.toNat
    let m := burstWords a data.length
    let r := d.applyWords now .host met a 0 (data.take m)
    r.1.hostEnd now cmd addr (truncCode data.length m m ++ r.2.2) r.2.1 []

/-- HOST_WAIT_TIMEOUT (R67): `k` words were fetched before the limit. -/
def Dev.hostTimeout (d : Dev) (now : Nat) (cmd addr : Word) (crc : BitVec 16) (k : Nat) : Dev :=
  let n := hostLen cmd
  match hostCheck false cmd addr [] crc with
  | some c => d.hostEnd now cmd addr [c] 0 (zeros n)
  | none =>
    let a := 4 * addr.toNat
    let m := burstWords a n
    let r := d.fetchWords now .host [] a 0 (min k m)
    r.1.hostEnd now cmd addr (6 :: (truncCode n m k ++ r.2.2.2)) r.2.2.1 (zeros n)

/-- HOST_ABORT (R68): HCSn rises, `after` the last nibble of the CRC or before it; on a read `k` words were fetched by then, and `late` tells
that its wait had reached the limit before (R67), a condition of the same transaction (R69). -/
def Dev.hostAbort (d : Dev) (now : Nat) (cmd addr : Word) (data : List Word) (crc : BitVec 16) (after : Bool) (k : Nat) (late : Bool) : Dev :=
  let write := wordGet cmd 31 28 == 2
  let d1 : Dev × List Nat :=
    if !after then (d, [])
    else match hostCheck write cmd addr (if write then data else []) crc with
      | some c => (d, [c])
      | none =>
        let a := 4 * addr.toNat
        let n := if write then data.length else hostLen cmd
        let m := burstWords a n
        if write then let r := d.applyWords now .host [] a 0 (data.take m); (r.1, truncCode n m m ++ r.2.2)
        else let r := d.fetchWords now .host [] a 0 (min k m); (r.1, (if late then [6] else []) ++ truncCode n m k ++ r.2.2.2)
  (d1.1.hostNote cmd addr d1.2 true).tickFree.probe now 0x10 0 ((d1.1.hostNote cmd addr d1.2 true).fresh : Nat)

/-! ## Ring request lines (R377) -/

/-- RING_REQUEST: the trigger pending on line k reads its register; the latches of that read belong to the line. -/
def Dev.ringRequest (d : Dev) (now k : Nat) : Dev :=
  match d.trigAccept (48 + k) with
  | none => d
  | some (origin, d1) =>
    if !d1.flag (F.RING_RQ_SEL_EN k) then d1
    else
      let a := (d1.reg (R.RING_RQ_ADDR k)).toNat / 4 * 4
      let r := d1.regRead now .sup a
      let d2 : Dev := { r.1 with latches := d1.latches }
      match d2.ringPush now (8 + d2.get (F.RING_RQ_SEL_RES k)) [w32 (0x40000000 + k), w32 a, lo32 origin, hi32 origin, r.2, 0, 0, 0] with
      | some d3 => d3
      | none => d2.irq P.RING 3

/-! ## A write whose outcome the command carries -/

/-- A write by `who` of the command register at `a`: the checks of every write, then `f` in place of what the word alone would do. -/
def Dev.gated (d : Dev) (now : Nat) (who : Initiator) (a : Nat) (v : Word) (f : Dev → Dev) : Dev :=
  let pg := pageOf a
  let res := fun (d : Dev) n => ({ d with port := { d.port with res := n } } : Dev)
  let d0 := d.access now who
  if d0.restarting pg then res d0 3
  else if !d0.mayWrite who a v then (res (d0.denied who pg) 1).coreFault who true a
  else if d0.supDown && (pg == P.SEC || pg == P.UPD) then res d0 0
  else res (f d0) 0

end Sys2Proof.Machine
end

