-- ==== Sys2Proof/Machine/Fabric.lean ====
section
/-!
DEFINITION. Machine/Fabric.lean: what links receive (14_nynoral_fabric.md): frames, discovery, messages, and beacons. Whether a tag verifies,
what an authentication step finds and when a beacon copy leaves reach the model as operands (notes/assumptions/61.md).
-/

namespace Sys2Proof.Machine

/-! ## Reception of a frame (R401, R402, R404) -/

/-- A corrupted frame, or one out of order: the link answers one NACK with the number it expects and stays silent (R404). -/
def Dev.nackOnce (d : Dev) (now n : Nat) : Dev :=
  if (d.nl n).nacked then d
  else (d.insertSyms now n (.nack (d.nl n).rxExp)).updNl n (fun x => { x with nacked := true })
def Dev.corrupted (d : Dev) (now n : Nat) : Dev := (d.incSat (F.NL_CNT_A_CRC n)).nackOnce now n

/-- The highest number accepted is acknowledged (R404). -/
def Dev.sendAck (d : Dev) (now n : Nat) : Dev := d.insertSyms now n (.ack (((d.nl n).rxExp + 255) % 256))

/-- The frame's number is taken as accepted. -/
def Dev.numberTaken (d : Dev) (now n : Nat) : Dev :=
  (d.updNl n (fun x => { x with
    rxExp := (x.rxExp + 1) % 256
    nacked := false
    fcntRx := x.fcntRx + 1 })).sendAck now n

def Dev.malformed (d : Dev) (now n detail : Nat) : Dev :=
  ((((d.numberTaken now n).incSat (F.NL_CNT_B_LEN n)).irq (P.NL n) 4)).rep (P.NL n) 0x5A 0 detail

def frameLen (f : LinkFrame) : Nat := wordGet (wordAtD f.words 0) 31 25
def frameTags (f : LinkFrame) : Nat := wordGet (wordAtD f.words 0) 23 22
def frameTransport (f : LinkFrame) : Bool := (wordAtD f.words 0).getLsbD 24
def frameBody (f : LinkFrame) : List Word := (f.words.drop 1).take (frameLen f)
/-- LKIND of a LINK frame (R410). -/
def frameKind (f : LinkFrame) : Nat := wordGet (wordAtD f.words 1) 31 24

/-- The receive buffers a frame of L words took return at once: a frame is freed at its delivery, its forwarding or its discard (R403). -/
def Dev.returnBufs (d : Dev) (now n L : Nat) : Dev :=
  if L = 0 then d else d.insertSyms now n (.credit (min 16 (max 1 ((L + 15) / 16))))

/-- The checks of R402, in its order, with the number of R404 once the CRC holds; true when the frame is accepted. -/
def Dev.frameCheck (d : Dev) (now n : Nat) (f : LinkFrame) : Dev × Bool :=
  let x := d.nl n
  if !f.framing || f.crc != crc16 f.words then (d.corrupted now n, false)
  else if f.seq % 256 ≠ x.rxExp then
    (if seqLe (f.seq % 256) x.rxExp then (if x.nacked then d else d.sendAck now n) else d.nackOnce now n, false)
  else if 64 < frameLen f then (d.malformed now n 0, false)
  else if f.words.length ≠ frameLen f + frameTags f + 2 then (d.malformed now n 1, false)
  else if d.nlUp n && !f.tagOk then
    ((((d.corrupted now n).incSat (F.NL_CNT_C_TAG n)).irq (P.NL n) 5).rep (P.NL n) 0x59 1, false)
  else (d.numberTaken now n, true)

/-! ## Beacon tags (R429) -/

/-- A beacon's verification fails: followers it was delivered to drop synchronisation. -/
def Dev.beaconFails (d : Dev) (now : Nat) (doms : List Nat) : Dev :=
  let d1 := doms.foldl (fun (d : Dev) k => (d.swDrop now k).rep P.BEAC 0x62 1) d
  (d1.incSat F.BEAC_CNT_B_AUTHFAIL).irq P.BEAC 1

/-- The tag of the copy sent on a port at `at0` may leave: 1 as it is, 2 inverted. -/
def Dev.tagReady (d : Dev) (tag : Nat) (c : Nat × Nat) : Dev :=
  let x := d.nl c.1
  d.setNl c.1 { x with tags := x.tags.map (fun b => if b.at0 = c.2 ∧ b.tag = 0 then { b with tag := tag } else b) }

/-- A fourth waiting tag calls for a tag carrier. -/
def Dev.carrierIfFull (d : Dev) (now n : Nat) : Dev :=
  if 4 ≤ (d.nl n).tags.length ∧ 0 < readyTags (d.nl n).tags 3 then d.sendCarrier now n else d

/-- The outcome of one beacon on the link it came by. -/
def Dev.beaconSettled (d : Dev) (now : Nat) (b : BRx) (ok : Bool) : Dev :=
  let d1 := if ok then d else d.beaconFails now b.doms
  let d2 := b.fwd.foldl (fun (d : Dev) c => d.tagReady (if ok then 1 else 2) c) d1
  b.fwd.foldl (fun (d : Dev) c => d.carrierIfFull now c.1) d2

/-- The next tag to arrive on link n belongs to its oldest beacon of this session. -/
def Dev.tagArrives (d : Dev) (now n : Nat) (ok : Bool) : Dev :=
  let x := d.nl n
  match takeFirst (fun (b : BRx) => !b.orphan) x.rxTags with
  | none => d
  | some (b, r) =>
    let d1 := d.setNl n { x with rxTags := r }
    if b.dead then d1 else d1.beaconSettled now b ok

/-- BTAG_T_EXPIRY: no frame has taken the oldest waiting tag of link n within BTAG_T. -/
def Dev.btagExpiry (d : Dev) (now n : Nat) : Dev :=
  match (d.nl n).tags with
  | b :: _ => if d.nlUp n && b.tag != 0 && decide (b.at0 + d.get F.BEAC_VER_BTAG_T * 1280 ≤ now) then d.sendCarrier now n else d
  | [] => d

/-- BEACON_VTO: beacons of link n without their tag for VTO. -/
def Dev.beaconVto (d : Dev) (now n : Nat) : Dev :=
  let x := d.nl n
  let late := fun (b : BRx) => !b.dead && decide (b.at0 + d.get F.BEAC_VER_VTO * 12800 ≤ now)
  let keep := x.rxTags.filterMap (fun b => if late b then (if b.orphan then none else some { b with dead := true }) else some b)
  (x.rxTags.filter late).foldl (fun (d : Dev) b => d.beaconSettled now b false) (d.setNl n { x with rxTags := keep })

/-- The words of a frame that its receive buffers held: LEN where the frame is whole, else what came between its header and its tag. -/
def frameBufs (f : LinkFrame) : Nat := if f.framing && f.crc == crc16 f.words then min (frameLen f) 64 else f.words.length - 2

/-- A frame on link n: its checks, then its beacon tags, then `f` on the body of a frame that `kind` admits in UP (or in AUTH). -/
def Dev.frameIn (d : Dev) (now n : Nat) (fr : LinkFrame) (auth : Bool) (kind : LinkFrame → Bool) (f : Dev → List Word → Dev) : Dev :=
  if d.nlState n = 3 ∨ d.nlState n = 4 ∨ (d.nlState n = 2 ∧ (d.nl n).switched) then
    let (d0, ok) := (d.nlHear n).frameCheck now n fr
    let d1 := d0.returnBufs now n (frameBufs fr)
    if !ok then d1
    else
      let d2 := d1.setReg (R.NL_CNT_RX n) (d1.reg (R.NL_CNT_RX n) + 1)
      let d3 := if d2.nlUp n then (fr.btagsOk.take (frameTags fr)).foldl (fun (d : Dev) b => d.tagArrives now n b) d2 else d2
      if kind fr && (d3.nlState n == (if auth then 3 else 4)) then f d3 (frameBody fr) else d3
  else d

/-- A tag carrier (R401) has no body and no further effect. -/
def Dev.tagCarrier (d : Dev) (now n : Nat) (fr : LinkFrame) : Dev :=
  d.frameIn now n fr false (fun g => !frameTransport g && frameLen g == 0) (fun d _ => d)

def isLink (k : Nat) (g : LinkFrame) : Bool := !frameTransport g && frameLen g != 0 && frameKind g == k

/-- AUTH (R406): a frame of the exchange; `res` 1 completes it on this side, 2 fails. -/
def Dev.authIn (d : Dev) (now n : Nat) (fr : LinkFrame) (res : Nat) (uid : List Word) (port txSeq : Nat) : Dev :=
  d.frameIn now n fr true (isLink 1) (fun d _ => if res = 1 then d.authDone now n uid port txSeq else if res = 2 then d.authFail now n else d)

/-! ## Discovery frames (R409 to R411) -/

def Dev.fabOn (d : Dev) : Bool := d.enabled P.FAB && !d.restarting P.FAB && !d.frozen P.FAB

/-- HELLO. -/
def Dev.helloIn (d : Dev) (now n : Nat) (b : List Word) : Dev :=
  if !d.fabOn then d
  else
    let w := wordAtD b 0
    let ep := wordGet w 15 8
    let x : Nbr := { uid := wordsUid (b.drop 1), root := wordsUid (b.drop 5), dist := wordGet w 23 16, epoch := ep, addr := wordGet w 5 0 }
    let d1 : Dev := { d with fab := { d.fab with nbr := vSet d.fab.nbr n (some x), maxEpoch := max d.fab.maxEpoch ep } }
    let d2 := d1.adopt now
    if d2.fab.parent = some n ∧ ep ≠ d2.get F.FAB_STAT_EPOCH then d2.newEpoch now ep else d2

/-- TOPO: collected at the root, otherwise passed to the parent. -/
def Dev.topoIn (d : Dev) (now n : Nat) (b : List Word) : Dev :=
  if !d.fabOn then d
  else
    let u := wordsUid (b.drop 1)
    let d1 : Dev := { d with fab := { d.fab with via := (u, n) :: d.fab.via.filter (fun e => e.1 != u) } }
    if d1.isRoot then
      (if wordGet (wordAtD b 0) 15 8 = d1.get F.FAB_STAT_EPOCH then
        { d1 with fab := { d1.fab with topo := d1.fab.topo.filter (fun e => e.1 != u) ++ [(u, b)], topoAt := now } }
      else d1)
    else match d1.fab.parent with
      | some p => d1.nlSend now p { link := true, body := b }
      | none => d1

/-- ASSIGN. -/
def Dev.assignIn (d : Dev) (now : Nat) (b : List Word) : Dev := if d.fabOn then d.passAssign now b else d

/-- CHG: the root begins the next epoch, another node passes it on. -/
def Dev.chgIn (d : Dev) (now : Nat) (b : List Word) : Dev :=
  if !d.fabOn then d
  else if d.isRoot then d.newEpoch now ((d.get F.FAB_STAT_EPOCH + 1) % 256)
  else match d.fab.parent with
    | some p => d.nlSend now p { link := true, body := b }
    | none => d

/-! ## Receive windows (R416) -/

/-- Is a frame with number `seq` from window `k` new? -/
def RxWin.isNew (w : Option RxWin) (seq : Nat) : Bool :=
  match w with
  | none => true
  | some x =>
    if (seq + 65536 - x.hi) % 65536 < 32768 ∧ seq ≠ x.hi then true
    else !x.marks.contains ((x.hi + 65536 - seq) % 65536) && decide ((x.hi + 65536 - seq) % 65536 ≤ 64)

def RxWin.mark (w : Option RxWin) (seq : Nat) : RxWin :=
  match w with
  | none => { hi := seq, marks := [0] }
  | some x =>
    let up := (seq + 65536 - x.hi) % 65536
    if 0 < up ∧ up < 32768 then { hi := seq, marks := 0 :: (x.marks.map (· + up)).filter (fun m => decide (m ≤ 64)) }
    else { x with marks := (x.hi + 65536 - seq) % 65536 :: x.marks }

def Dev.rxMark (d : Dev) (k seq : Nat) : Dev :=
  { d with fab := { d.fab with rxWin := smPut d.fab.rxWin k (RxWin.mark (smGet d.fab.rxWin k) seq) {} } }

def Dev.countDup (d : Dev) : Dev := d.incSat F.FAB_CNT_B_DUP

/-- A response is sent and kept while its number may come again. -/
def Dev.answer (d : Dev) (now src seq cls arg : Nat) (payload : List Word) : Dev :=
  let b := { link := false, body := w32 cls :: w32 arg :: payload : Frame }
  let near := fun (e : Nat × Frame) => e.1 / 65536 != src || decide ((seq + 65536 - e.1 % 65536) % 65536 ≤ 64)
  let d1 : Dev := { d with fab := { d.fab with resp := (src * 65536 + seq, b) :: d.fab.resp.filter near } }
  d1.respond now src cls seq arg payload

/-- A duplicate is answered again (R416). -/
def Dev.answerAgain (d : Dev) (now src seq : Nat) : Dev :=
  match d.fab.resp.find? (fun e => e.1 == src * 65536 + seq) with
  | some (_, f) => d.respond now src (wordAtD f.body 0).toNat seq (wordAtD f.body 1).toNat (f.body.drop 2)
  | none => d

/-! ## Delivery of messages (R417, R418, R389) -/

/-- REG_RD: the words and the status code. -/
def Dev.regRd (d : Dev) (now : Nat) (p : List Word) (err : Nat) : Dev × Nat × List Word :=
  let a := (wordAtD p 0).toNat / 4 * 4
  let n := wordGet (wordAtD p 1) 3 0 + 1
  if !hostMapped a then (d, 3, 0 :: zeros n)
  else
    let m := burstWords a n
    let r := (d.readErr a err).fetchWords now .fab [] a 0 m
    (r.1, lowestCode (truncCode n m m ++ r.2.2.2), w32 r.2.2.1 :: (r.2.1 ++ zeros (n - m)))

/-- REG_WR. -/
def Dev.regWr (d : Dev) (now : Nat) (p : List Word) : Dev × Nat × List Word :=
  let a := (wordAtD p 0).toNat / 4 * 4
  let ws := (p.drop 1).take 16
  if !hostMapped a then (d, 3, [0])
  else
    let m := burstWords a ws.length
    let r := d.applyWords now .fab [] a 0 (ws.take m)
    (r.1, lowestCode (truncCode ws.length m m ++ r.2.2), [w32 r.2.1])

/-- Entries a message of `n` payload words takes (R418). -/
def entriesFor (n : Nat) : Nat := if n ≤ 14 then 1 else 1 + (n - 14 + 15) / 16

/-- A received MSG enters FRX ring `rxq` when its entries are free; true when it did. -/
def Dev.frxPut (d : Dev) (now rxq : Nat) (h : THdr) (p : List Word) : Dev × Bool :=
  let ring := 20 + rxq
  let n := entriesFor p.length
  if d.ringEn ring && decide (d.ringFill ring + n ≤ d.ringN ring) then
    let i0 := d.get (F.RING_HEAD_HEAD ring)
    let w0 := w32 (h.src * 0x1000000 + 5 * 0x100000 + (n - 1) * 0x40000 + rxq * 0x10000 + h.arg)
    let w1 := w32 (h.seq * 65536 + p.length)
    let d1 := (d.putEntry ring i0 0 (w0 :: w1 :: p)).set (F.RING_HEAD_HEAD ring) (i0 + n)
    ((d1.intcRefresh).probe now 0x14 ring (d1.ringFill ring), true)
  else (d.irq P.FAB 4, false)

/-- REG_RSP, MSG_ACK and INTR_ACK complete the message they answer; an unexpected one counts DUP (R421). -/
def Dev.rspIn (d : Dev) (now : Nat) (h : THdr) (p : List Word) : Dev :=
  let want := fun (c : Nat) => if h.cls = 2 then c == 0 || c == 1 else if h.cls = 4 then c == 3 else c == 5
  match d.findMsg h.src h.seq with
  | some m =>
    if !want m.cls then d.countDup
    else if h.cls = 2 then
      d.fabComplete now m (if h.arg = 0 then 0 else 7) (h.arg % 16) (if m.cls = 0 then p.take (m.cnt + 1) else [])
    else if h.cls = 6 then d.fabComplete now m (if h.arg = 0 then 0 else 4) 0 []
    else d.fabComplete now m 0 0 []
  | none => d.countDup

/-- A message for this node. `rxq` is the FRX ring a MSG is for and `err` what a memory read finds wrong. -/
def Dev.deliverMsg (d : Dev) (now : Nat) (h : THdr) (p : List Word) (rxq err : Nat) : Dev :=
  let k := if h.dst = 0xFF then 256 + h.src else h.src
  if h.cls = 2 ∨ h.cls = 4 ∨ h.cls = 6 then d.rspIn now h p
  else if !RxWin.isNew (smGet d.fab.rxWin k) h.seq then
    let d1 := d.countDup
    if h.dst = 0xFF ∨ h.cls = 7 then d1 else d1.answerAgain now h.src h.seq
  else
    let d1 := d.rxMark k h.seq
    match h.cls with
    | 0 => let r := d1.regRd now p err; r.1.answer now h.src h.seq 2 r.2.1 r.2.2
    | 1 => let r := d1.regWr now p; r.1.answer now h.src h.seq 2 r.2.1 r.2.2
    | 3 =>
      let num := h.arg % 64
      ((d1.latchSrc (0x140 + num)).setReg R.INTC_FABIN (w32 (num * 256 + h.src % 64))).answer now h.src h.seq 4 num []
    | 5 =>
      let r := d1.frxPut now rxq h p
      if h.dst = 0xFF then r.1 else r.1.answer now h.src h.seq 6 (if r.2 then 0 else 4) []
    | _ => d1.localNotice now (h.arg / 4096) (wordAtD p 0)

/-- A transport frame that came by link n (R413). -/
def Dev.transportIn (d : Dev) (now n : Nat) (b : List Word) (rxq err : Nat) : Dev :=
  let h := hdrOf b
  let p := b.drop 2
  let on := setHdr b { h with ttl := h.ttl - 1 }
  if d.frozen P.FAB then d
  else if !d.fabOn then d.notice now 2 h
  else if 8 ≤ h.cls then d.incSat F.FAB_CNT_C_NOROUTE
  else if h.dst = 0xFF then
    if h.cls ≠ 5 then d.fabDrop now h
    else
      let d1 := d.deliverMsg now h p rxq err
      let ports := d1.treePorts.filter (· != n)
      if ports.isEmpty then d1
      else if h.ttl ≤ 1 then d1.fabDrop now h
      else ports.foldl (fun (d : Dev) q => d.nlSend now q { link := false, body := on }) d1
  else if h.dst = 0 ∨ 63 < h.dst then d.fabDrop now h
  else if h.dst = d.ownAddr then d.deliverMsg now h p rxq err
  else if h.ttl ≤ 1 then d.fabDrop now h
  else d.fabForward now on

/-- A transport frame of class `c` on link n; for a NOTICE, of kind `nk`. -/
def Dev.msgIn (d : Dev) (now n : Nat) (fr : LinkFrame) (c : Nat) (nk : Option Nat) (rxq err : Nat) : Dev :=
  let kind := fun (g : LinkFrame) =>
    let h := hdrOf (frameBody g)
    frameTransport g && h.cls == c && (match nk with | none => true | some k => h.arg / 4096 == k)
  d.frameIn now n fr false kind (fun d b => d.transportIn now n b rxq err)

/-! ## Beacons (R422 to R428) -/

/-- R422, R425: link n carries beacons. -/
def Dev.carries (d : Dev) (n : Nat) : Bool := d.nlUp n && (d.nl n).smp.length == 8

/-- A beacon leaves by link n at `t` (R429). -/
def Dev.beaconOut (d : Dev) (now n t : Nat) (b0 b1 b2 : BitVec 16) (tag : Nat) : Dev :=
  let x := d.nl n
  ((d.setNl n { x with tags := x.tags ++ [{ at0 := t, b0 := b0, b1 := b1, b2 := b2, tag := tag }], bcntTx := x.bcntTx + 1 }).insertSyms now n
    (.beacon b0 b1 b2)).carrierIfFull now n

/-- The symbols of a beacon (R423). -/
def beaconB0 (f hops role : Nat) (dir idxv : Bool) (seq : Nat) : BitVec 16 :=
  BitVec.ofNat 16 (f % 4 * 16384 + hops % 8 * 2048 + role % 2 * 1024 + dir.toNat * 512 + idxv.toNat * 256 + seq % 256)
def beaconB1 (idx age : Nat) : BitVec 16 := BitVec.ofNat 16 (idx % 512 * 128 + age / 65536 % 128)
def beaconB2 (age : Nat) : BitVec 16 := BitVec.ofNat 16 age

/-- BEACON_ORIGINATE (R422): an edge of local domain k in role r; how long after the edge each copy leaves is open (R423, R424). -/
def Dev.originate (d : Dev) (now k r : Nat) (e : WEdge) : Dev :=
  if !d.enabled P.BEAC || d.frozen P.BEAC || d.restarting P.BEAC || (r != 0 && r != 2) then d
  else (List.range 4).foldl (fun (d : Dev) f =>
    if d.flag (F.BEAC_TX_EN f) ∧ d.get (F.BEAC_TX_DOM f) = k then
      let st := d.angState k
      let known := if r = 0 then (st == 3 || st == 4) && d.srcRole k == 0 else (vGet (d.ang k).idx 2).isSome
      let idx := if !known then 0 else if r = 0 then d.srcIdx k else (vGet (d.ang k).idx 2).getD 0
      let seq := vGet d.beac.txSeq f
      let d1 : Dev := { d with beac := { d.beac with txSeq := vSet d.beac.txSeq f ((seq + 1) % 256) } }
      let d2 := d1.inc F.BEAC_CNT_C_TX
      (List.range 4).foldl (fun (d : Dev) p =>
        if (d.get (F.BEAC_TX_PORTS f)).testBit p ∧ d.carries p then
          let age := (now - e.t) + d.fresh % 65536
          (d.tickFree).beaconOut now p (e.t + age) (beaconB0 f 1 (r / 2) e.dir known seq) (beaconB1 idx age) (beaconB2 age) 1
        else d) d2
    else d) d

/-- Edges handed to trackers originate their beacons. -/
def Dev.originateAll (d : Dev) (now : Nat) (l : List (Nat × Nat × WEdge)) : Dev :=
  l.foldl (fun (d : Dev) x => d.originate now x.1 x.2.1 x.2.2) d

/-- The edge of an accepted beacon at follower k in role r (R427, R428). -/
def Dev.beaconEdge (d : Dev) (now k r trec : Nat) (dir : Bool) (idx : Option Nat) (up : Bool) (par cur : Nat) : Dev × Bool :=
  let key := 4 * k + r
  let last := (smGet d.beac.last key).getD none
  match qualify trec last (d.predFor k r) 0 (d.get (F.BEAC_RX_W_MIN k)) (d.get (F.BEAC_RX_W_MAX k)) false with
  | .short => (d, false)
  | .noise => ((d.incSat F.BEAC_CNT_C_QUAL).irq P.BEAC 4, false)
  | .accept ratio late =>
    let e : WEdge := { t := trec, ratio := ratio, late := late, dir := dir, hold := d.flag F.TB_STAT_HOLDOVER, prev := last }
    let st := d.angState k
    let d1 : Dev := { d with beac := { d.beac with last := smPut d.beac.last key (some trec) none }, upd := { d.upd with moveAt := now } }
    let d2 := ((d1.irq P.BEAC 0).updAng k (fun a => { a with upShadow := up, upPar := par })).angEdge now k r e cur
    let bad := match idx with
      | some i => r == 0 && (st == 3 || st == 4) && (d2.angState k == 3 || d2.angState k == 4) && d2.srcRole k == 0 && d2.srcIdx k != i
      | none => false
    (if bad then (((d2.swDrop now k).incSat F.BEAC_CNT_B_IDX).irq P.BEAC 2).rep P.BEAC 0x61 1 else d2, true)

/-- R426: the first arrival of (FDOM, SEQ). -/
def Dev.beaconSeen (d : Dev) (f seq : Nat) : Bool := (vGet d.beac.seen f).contains seq

/-- BEACON_RECEIVE (R424): a beacon on link n whose B0 arrived at `trx`. `dls` says how long after that a copy leaves each port; `up` and `par` are
upsets its tooth meets, `cur` the coil current an edge-locked channel finds. -/
def Dev.beaconIn (d : Dev) (now n trx : Nat) (b0 b1 b2 : BitVec 16) (dls : List Nat) (up : Bool) (par cur : Nat) : Dev :=
  let d0 := d.nlHear n
  if !d0.nlUp n then d0
  else
    let f := (b0.extractLsb' 14 2).toNat
    let hops := (b0.extractLsb' 11 3).toNat
    let role := (b0.extractLsb' 10 1).toNat
    let seq := (b0.extractLsb' 0 8).toNat
    let age := (b1.extractLsb' 0 7).toNat * 65536 + b2.toNat
    let idx := if b0.getLsbD 8 then some (b1.extractLsb' 7 9).toNat else none
    let note := fun (d : Dev) doms fwd =>
      let x := d.nl n
      d.setNl n { x with bcntRx := x.bcntRx + 1, rxTags := x.rxTags ++ [{ at0 := trx, doms := doms, fwd := fwd }] }
    if !d0.carries n || !d0.enabled P.BEAC || d0.frozen P.BEAC || d0.restarting P.BEAC || d0.flag (F.BEAC_TX_EN f) then note d0 [] []
    else if hops = 0 ∨ hops = 7 then note (((d0.incSat F.BEAC_CNT_A_HOPLIM).irq P.BEAC 3).rep P.BEAC 0x60 0) [] []
    else if d0.beaconSeen f seq then note (d0.incSat F.BEAC_CNT_A_DUP) [] []
    else
      let d1 : Dev := { d0 with beac := { d0.beac with seen := vSet d0.beac.seen f ((seq :: vGet d0.beac.seen f).take 32) } }
      let d2 := ((d1.setReg (R.BEAC_STAT f) (w32 (seq * 0x1000000 + hops * 0x200000 + n * 0x10000))).setReg (R.BEAC_AGE f) (w32 age)).probe now 0x12 f age
      let lat := d2.get (F.NL_LAT_LAT n)
      let ports := (List.range 4).filter (fun p => d2.flag (F.BEAC_FWD_EN f) && (d2.get (F.BEAC_FWD_PORTS f)).testBit p && p != n && d2.carries p)
      let (d3, sent) := ports.foldl (fun (s : Dev × List (Nat × Nat)) p =>
        let dl := dls.getD p 0
        let age' := age + dl + lat
        if 2 ^ 23 - 1 < age' ∨ 6 < hops + 1 then (s.1.incSat F.BEAC_CNT_A_HOPLIM, s.2)
        else
          let c0 := beaconB0 f (hops + 1) role (b0.getLsbD 9) (b0.getLsbD 8) seq
          (s.1.beaconOut now p (trx + dl) c0 (beaconB1 (b1.extractLsb' 7 9).toNat age') (beaconB2 age') 0, s.2 ++ [(p, trx + dl)])) (d2, [])
      let r := 2 * role
      let ks := [0, 1].filter (fun k => d3.enabled (P.ANG k) && !d3.frozen (P.ANG k) && !d3.restarting (P.ANG k) && d3.follows k r
        && d3.get (F.BEAC_RX_FDOM k) == f && d3.roleEn k r)
      let (d4, doms) := ks.foldl (fun (s : Dev × List Nat) k =>
        let x := s.1.beaconEdge now k r (trx - lat - age) (b0.getLsbD 9) idx up par cur
        (x.1, if x.2 then s.2 ++ [k] else s.2)) (d3, [])
      note d4 doms sent

/-! ## Echo requests of the peer -/

/-- ECHO_REQ (R425): the response pair waits for its place and then carries the residence. -/
def Dev.echoReq (d : Dev) (now n : Nat) : Dev :=
  let d1 := d.nlHear n
  if d1.nlUp n then d1.insertSyms now n (.echoRsp now) else d1

end Sys2Proof.Machine
end

