-- ==== Sys2Proof/Machine/Boot.lean ====
section
/-!
DEFINITION. Machine/Boot.lean: images put to use: configuration sets (R498), secure boot (R479, R499), activation (R503 to R506). Whether digests and
signatures verify reaches the model as operands (notes/assumptions/62.md).
-/

namespace Sys2Proof.Machine

def hdrAt (kind : Nat) (b : Bool) (i : Nat) : Nat := slotBase kind b + 4 * i

/-- An application image is copied into ITCM and DTCM from address 0 (R496). -/
def Dev.loadApp (d : Dev) (kind : Nat) (b : Bool) : Dev :=
  let n := kind - 1
  let la := (d.word (hdrAt kind b 3)).toNat
  let lb := (d.word (hdrAt kind b 4)).toNat
  let src := slotBase kind b + 256
  (d.setBytes (0x50000000 + 0x1000000 * n) (d.bytes src la)).setBytes (0x50800000 + 0x1000000 * n) (d.bytes (src + la) lb)

/-- `CORE_BOOT` := ENTRY and `APPnC_PCTL.ENABLE` := 1. -/
def Dev.startApp (d : Dev) (now kind : Nat) (b : Bool) : Dev :=
  (d.setReg (R.CORE_BOOT kind) (d.word (hdrAt kind b 5))).enableWrite now (P.CORE kind) true

/-! ## Configuration sets (R498) -/

/-- The fault kinds by which a page tells that it discarded or refused a write. -/
def refusalKinds : List Nat := [0x01, 0x02, 0x03, 0x04, 0x14, 0x15, 0x28, 0x41, 0x42, 0x45, 0x46, 0x4E, 0x51, 0x52]

/-- One word of a configuration set, written by SUP; a refused one is counted and told. -/
def Dev.cfgWord (d : Dev) (now a : Nat) (v : Word) : Dev :=
  let r := d.wordWrite now .sup a v
  let d1 := r.1
  let told := (d1.fcol.awaiting.drop d.fcol.awaiting.length).any (fun m => refusalKinds.contains m.kind)
    || d.get F.FCOL_CNT_C_QDROP != d1.get F.FCOL_CNT_C_QDROP
  if r.2 ≠ .ok ∨ told then
    let d2 := if d1.get F.UPD_CFGSTAT_REJECT = 0 then d1.setReg R.UPD_CFGADDR (w32 a) else d1
    ((d2.incSat F.UPD_CFGSTAT_REJECT).irq P.UPD 4).rep P.UPD 0x6B 0 0 a
  else d1

def Dev.cfgWords (d : Dev) (now a : Nat) : List Word → Dev
  | [] => d
  | w :: l => (d.cfgWord now a w).cfgWords now (a + 4) l

/-- The records from memory address `m` on, `fuel` at most; the words are those that stood in the image. -/
def Dev.cfgRecords (d : Dev) (now m : Nat) : Nat → Dev
  | 0 => d
  | fuel + 1 =>
    let w := d.word m
    let cnt := wordGet w 23 0
    if wordGet w 31 24 ≠ 1 then d
    else (d.cfgWords now (d.word (m + 4)).toNat (d.words (m + 8) cnt)).cfgRecords now (m + 8 + 4 * cnt) fuel

def Dev.cfgLen (d : Dev) (b : Bool) : Nat := (d.word (hdrAt 3 b 3)).toNat

/-- The set in a CFG slot is applied. -/
def Dev.cfgApply (d : Dev) (now : Nat) (b : Bool) : Dev := d.cfgRecords now (slotBase 3 b + 256) (d.cfgLen b / 4 + 1)

/-- The spans a set writes: address and words of each record. -/
def Dev.cfgSpans (d : Dev) (m : Nat) : Nat → List (Nat × Nat)
  | 0 => []
  | fuel + 1 =>
    let w := d.word m
    let cnt := wordGet w 23 0
    if wordGet w 31 24 ≠ 1 then [] else ((d.word (m + 4)).toNat, cnt) :: d.cfgSpans (m + 8 + 4 * cnt) fuel

/-- R503 step 3: engines whose program memory the set writes are halted first. -/
def Dev.cfgHalts (d : Dev) (now : Nat) (b : Bool) : Dev :=
  let spans := d.cfgSpans (slotBase 3 b + 256) (d.cfgLen b / 4 + 1)
  (List.range 8).foldl (fun (d : Dev) n =>
    let lo := 0x41300000 + 0x80 * n
    if spans.any (fun s => decide (s.1 < lo + 0x80) && decide (lo < s.1 + 4 * s.2)) && d.pioState n != 0 then
      ((d.pioHalt now n 1).updEng n (fun x => { x with halt := none, go := none })).pioHaltNow n 1
    else d) d

/-! ## Boot (R479, R499) -/

/-- The slot boot takes for a kind, with what choosing it tells; `ok`: which slots' digests and signatures verify. The content of a SUP slot is the
manufacturer's, so `ok` speaks for it alone. None: a written kind fails in both slots. -/
def Dev.bootKind (d : Dev) (kind : Nat) (ok : Bool → Bool) : Option (Dev × Option Bool) :=
  if d.absent kind then some (d, none)
  else
    let good := fun (b : Bool) => ok b && d.slotSt kind b == 1 && (kind == 0 || d.imageCheck kind b true == 0)
    let d1 := if (d.get F.UPD_SLOT_TRIAL).testBit kind then
        (((d.setBit F.UPD_SLOT_TRIAL kind false).setBit F.UPD_SLOT_ACTIVE_B kind (!d.activeB kind)).irq P.UPD 5).rep P.UPD 0x6C 0 0 kind
      else d
    let a := d1.activeB kind
    if good a then some (d1.setBit F.UPD_SLOT_VALID kind true, some a)
    else if good (!a) then
      some (((d1.setBit F.UPD_SLOT_ACTIVE_B kind (!a)).setBit F.UPD_SLOT_VALID kind true).rep P.UPD 0x6D 0 (!a).toNat kind, some (!a))
    else none

/-- BOOT_COMPLETE: `ok` bit 2k speaks for slot A of kind k and bit 2k+1 for slot B; `us` is the time boot took. -/
def Dev.bootDone (d : Dev) (now : Nat) (ok : BitVec 8) (us : Nat) : Dev :=
  let v := fun (k : Nat) (b : Bool) => ok.getLsbD (2 * k + b.toNat)
  if d.mode ≠ 3 ∨ !d.sys.booting ∨ !d.flag F.TB_STAT_CAL_LOCK ∨ d.lifecycle = 4 then d
  else match d.bootKind 0 (v 0) with
  | none => d
  | some (d1, _) => match d1.bootKind 1 (v 1) with
    | none => d
    | some (d2, s1) => match d2.bootKind 2 (v 2) with
      | none => d
      | some (d3, s2) => match d3.bootKind 3 (v 3) with
        | none => d
        | some (d4, s3) =>
          let load := fun (d : Dev) k (s : Option Bool) => match s with | some b => d.loadApp k b | none => d
          let run := fun (d : Dev) k (s : Option Bool) => match s with | some b => d.startApp now k b | none => d
          let d5 := load (load d4 1 s1) 2 s2
          let auto := match s3 with | some b => (d5.word (hdrAt 3 b 4)).getLsbD 0 | none => false
          let d6 := match s3 with | some b => d5.cfgApply now b | none => d5
          let d7 := (run (run d6 1 s1) 2 s2).put F.SYS_SVC_ALLOW (decide (d6.lifecycle ≤ 2))
          d7.bootComplete now auto us

/-! ## Activation (R503 to R506) -/

/-- Step 4: the slot control word of a kind. A revert clears TRIAL. -/
def Dev.switchSlot (d : Dev) (kind : Nat) : Dev :=
  let b := !d.activeB kind
  let d1 := ((d.setBit F.UPD_SLOT_ACTIVE_B kind b).setBit F.UPD_SLOT_STAGED kind false).setBit F.UPD_SLOT_VALID kind true
  if d.upd.trial && !d.upd.rev then d1.setBit F.UPD_SLOT_TRIAL kind true else (d1.setBit F.UPD_SLOT_TRIAL kind false).raiseRbc kind

/-- Both PEND bits return to 0; an edge that came in SERVICE now changes the mode (R472). -/
def Dev.actEnds (d : Dev) (now : Nat) : Dev :=
  let exit := d.sys.svcExit
  let d1 : Dev := { d with sys := { d.sys with act := false, svcExit := false }, upd := { d.upd with rev := false, trial := false } }
  let d2 := (d1.put F.UPD_ASTAT_PEND false).sysPend
  if exit && d2.mode == 9 then d2.enterMode now d2.runningMode else d2

/-- Step 6: SUPC takes a block restart; `ok` tells whether its new slot verifies there (R506). -/
def Dev.supSwitch (d : Dev) (now : Nat) (ok : Bool) : Dev :=
  let d1 := d.blockRestart now (P.CORE 0)
  if ok then d1
  else
    let b := !d1.activeB 0
    ((d1.setBit F.UPD_SLOT_ACTIVE_B 0 b).setBit F.UPD_SLOT_TRIAL 0 false).rep P.UPD 0x6D 0 b.toNat 0

/-- ACTIVATION_DONE: bit k of `sig` tells whether digest and signature of kind k verify, `sup` whether SUP's new slot verifies at its restart. -/
def Dev.activationDone (d : Dev) (now : Nat) (sig : BitVec 4) (sup : Bool) : Dev :=
  if !d.flag F.UPD_ASTAT_PEND then d
  else
    let mask := d.get F.UPD_ASTAT_MASK
    let kinds := [1, 2, 3].filter (fun k => mask.testBit k)
    let apps := [1, 2].filter (fun k => mask.testBit k)
    let d1 := apps.foldl (fun (d : Dev) k => d.enableWrite now (P.CORE k) false) d
    match kinds.find? (fun k => d1.imageCheck k (!d1.activeB k) (sig.getLsbD k) != 0) with
    | some k =>
      let d2 := apps.foldl (fun (d : Dev) a =>
        if d.slotSt a (d.activeB a) = 1 then (d.loadApp a (d.activeB a)).startApp now a (d.activeB a) else d) d1
      ((d2.setBit F.UPD_SLOT_STAGED k false).set F.UPD_ASTAT_REASON 8).actEnds now
    | none =>
      let d2 := apps.foldl (fun (d : Dev) k => d.loadApp k (!d.activeB k)) d1
      let d3 := if mask.testBit 3 then ((d2.cfgHalts now (!d2.activeB 3)).set F.UPD_CFGSTAT_REJECT 0).cfgApply now (!d2.activeB 3) else d2
      let d4 := kinds.foldl (fun (d : Dev) k => d.switchSlot k) d3
      let d5 := apps.foldl (fun (d : Dev) k => d.startApp now k (d.activeB k)) d4
      let d6 := if mask.testBit 0 then d5.switchSlot 0 else d5
      let d7 := (d6.put F.UPD_ASTAT_DONE true).irq P.UPD 2
      (if mask.testBit 0 then d7.supSwitch now sup else d7).actEnds now

end Sys2Proof.Machine
end

