-- ==== Sys2Proof/Machine/Debug.lean ====
section
/-!
DEFINITION. Machine/Debug.lean: the JTAG port: boundary scan (R555 to R557) and the debug module (R393, R394). Register layouts of the debug
module are those of External Debug Support 0.13.2, which R393 names (notes/assumptions/63.md).
-/

namespace Sys2Proof.Machine

/-! ## Harts under debug -/

/-- R394: debug reaches hart h. -/
def Dev.dbgOpen (d : Dev) (h : Nat) : Bool := match d.lifecycle with
  | 0 => decide (h < 3)
  | 1 => h == 1 || h == 2
  | 2 => h == 1 || h == 2
  | _ => false
/-- The debug module is closed to every hart. -/
def Dev.dbgClosed (d : Dev) : Bool := decide (3 ≤ d.lifecycle)

/-- The hart enters debug mode: `dpc` and `dcsr` keep where it was and why (3 halt request, 4 step), presentations to it end (R382). -/
def Dev.hartHalt (d : Dev) (h : Nat) (pc : Word) (cause : Nat) : Dev :=
  let x := d.hart h
  let dc := wordSet (wordSet (wordSet (x.csrGet 0x7B0) 31 28 4) 8 6 cause) 1 0 x.priv
  let y := { (x.csrSet 0x7B0 dc).csrSet 0x7B1 pc with pc := pc, halted := true, wfi := false, pres := none }
  ((d.setHart h y).irq (P.CORE h) 2).intcRefresh

/-- DEBUG_HALT: hart h stops before the instruction at `pc`. -/
def Dev.debugHalt (d : Dev) (h : Nat) (pc : Word) : Dev :=
  if d.dbgOpen h && d.hartRuns h then d.hartHalt h pc 3 else d

/-- DEBUG_RESUME: the hart goes on at `dpc` with the privilege of `dcsr`. -/
def Dev.debugResume (d : Dev) (h : Nat) : Dev :=
  let x := d.hart h
  if d.dbgOpen h && x.running && x.halted then
    let d1 := (d.setHart h x.resumed).intcRefresh
    { d1 with dm := { d1.dm with resumeack := vSet d1.dm.resumeack h true } }
  else d

/-- DEBUG_STEP: one instruction runs, which leaves the hart before `pc`, in user mode or not, with MIE as given; the hart halts again. -/
def Dev.debugStep (d : Dev) (h : Nat) (pc : Word) (user mie : Bool) : Dev :=
  if d.dbgOpen h && (d.hart h).running && (d.hart h).halted then
    let d1 := d.debugResume h
    let x := (d.hart h).boundary pc user mie
    (d1.setHart h { x with halted := false }).hartHalt h pc 4
  else d

/-! ## Registers of a halted hart -/

/-- A CSR of hart h (R360 to R362); `mcycle` and `minstret` count what the model leaves out. -/
def Dev.csrRead (d : Dev) (now h n : Nat) : Dev × Word :=
  let x := d.hart h
  match n with
  | 0xC01 => (d.setHart h { x with timeLatch := hi32 now }, lo32 now)
  | 0xC81 => (d, x.timeLatch)
  | 0xB00 => (d.tickFree, w32 d.fresh)
  | 0xB80 => (d.tickFree, w32 d.fresh)
  | 0xB02 => (d.tickFree, w32 d.fresh)
  | 0xB82 => (d.tickFree, w32 d.fresh)
  | 0xF14 => (d, w32 h)
  | 0x301 => (d, if h = 0 then 0x40001104 else 0x40101125)
  | 0x344 => (d, if (d.offered h).isSome then 0x800 else 0)
  | 0x7C1 => (d, 0)
  | _ => (d, x.csrGet n)

/-- A write of a CSR: `mxeoi` ends a level, `mxsrc` and the identity registers take no write. -/
def Dev.csrWrite (d : Dev) (h n : Nat) (v : Word) : Dev :=
  let x := d.hart h
  if n = 0x7C1 then d.mxeoi h x.pc (x.priv == 0) x.mie
  else if n = 0x7C0 ∨ n = 0xF14 ∨ n = 0x301 ∨ 0xC00 ≤ n then d
  else (d.setHart h (x.csrSet n v)).intcRefresh

/-- Abstract register numbers: CSRs, then 0x1000 general and 0x1020 floating-point registers; none: no such register. -/
def Dev.absRead (d : Dev) (now h n : Nat) : Option (Dev × Word) :=
  let x := d.hart h
  if n < 0x1000 then some (d.csrRead now h n)
  else if n < 0x1020 then some (d, if n = 0x1000 then 0 else smGetD x.gpr (n - 0x1000) 0)
  else if n < 0x1040 ∧ h ≠ 0 then some (d, smGetD x.fpr (n - 0x1020) 0)
  else none
def Dev.absWrite (d : Dev) (h n : Nat) (v : Word) : Option Dev :=
  let x := d.hart h
  if n < 0x1000 then some (d.csrWrite h n v)
  else if n < 0x1020 then some (if n = 0x1000 then d else d.setHart h { x with gpr := smPut x.gpr (n - 0x1000) v 0 })
  else if n < 0x1040 ∧ h ≠ 0 then some (d.setHart h { x with fpr := smPut x.fpr (n - 0x1020) v 0 })
  else none

/-! ## The debug module -/

def hartWho (h : Nat) : Initiator := match h with | 0 => .sup | 1 => .app0 | _ => .app1

def Dev.setDm (d : Dev) (x : Dm) : Dev := { d with dm := x }

/-- `dmstatus`: version 0.13, authenticated, and the selected hart's state. -/
def Dev.dmstatus (d : Dev) : Word :=
  let h := d.dm.hartsel
  let x := d.hart h
  let pair := fun (i : Nat) (b : Bool) => if b then 3 * 2 ^ i else 0
  let here := decide (h < 3)
  let un := here && (!d.dbgOpen h || !x.running)
  w32 (0x82 + pair 8 (here && !un && x.halted) + pair 10 (here && !un && !x.halted) + pair 12 un + pair 14 (!here)
    + pair 16 (vGet d.dm.resumeack h) + 0x400000)

/-- A system bus access of the selected hart's initiator; a closed hart's is refused. -/
def Dev.sbRead (d : Dev) (now : Nat) : Dev :=
  if d.dm.sberror ≠ 0 then d
  else if !d.dbgOpen d.dm.hartsel then d.setDm { d.dm with sberror := 7 }
  else
    let a := d.dm.sbaddr.toNat
    if a % 4 ≠ 0 then d.setDm { d.dm with sberror := 3 }
    else
      let r := d.busRead now (hartWho d.dm.hartsel) a
      let x := r.1.dm
      r.1.setDm { x with sbdata := r.2.1, sberror := if r.2.2 = .addr ∨ r.2.2 = .perm then 2 else 0,
                         sbaddr := if x.sbautoinc then x.sbaddr + 4 else x.sbaddr }
def Dev.sbWrite (d : Dev) (now : Nat) : Dev :=
  if d.dm.sberror ≠ 0 then d
  else if !d.dbgOpen d.dm.hartsel then d.setDm { d.dm with sberror := 7 }
  else
    let a := d.dm.sbaddr.toNat
    if a % 4 ≠ 0 then d.setDm { d.dm with sberror := 3 }
    else
      let r := d.wordWrite now (hartWho d.dm.hartsel) a d.dm.sbdata
      let x := r.1.dm
      r.1.setDm { x with sberror := if r.2 = .addr ∨ r.2 = .perm then 2 else 0, sbaddr := if x.sbautoinc then x.sbaddr + 4 else x.sbaddr }

/-- `command`: abstract register access of 32 bits. What a program buffer does reaches the model as the commands of the hart. -/
def Dev.abstractCmd (d : Dev) (now : Nat) (v : Word) : Dev :=
  let h := d.dm.hartsel
  if d.dm.cmderr ≠ 0 then d
  else if wordGet v 31 24 ≠ 0 ∨ (v.getLsbD 17 && wordGet v 22 20 != 2) then d.setDm { d.dm with cmderr := 2 }
  else if !d.dbgOpen h || !(d.hart h).halted then d.setDm { d.dm with cmderr := 4 }
  else if !v.getLsbD 17 then d
  else if v.getLsbD 16 then
    match d.absWrite h (wordGet v 15 0) d.dm.data0 with
    | some d1 => d1
    | none => d.setDm { d.dm with cmderr := 3 }
  else match d.absRead now h (wordGet v 15 0) with
    | some (d1, w) => d1.setDm { d1.dm with data0 := w }
    | none => d.setDm { d.dm with cmderr := 3 }

/-- `dmcontrol`: activation, hart selection, halt and resume requests; no write of it resets the die (R478). -/
def Dev.dmcontrol (d : Dev) (v : Word) : Dev :=
  if d.dbgClosed then d
  else if !v.getLsbD 0 then d.setDm {}
  else
    let h := wordGet v 25 16
    let d1 := d.setDm { d.dm with active := true, hartsel := h }
    if v.getLsbD 31 then d1.debugHalt h (d1.hart h).pc
    else if v.getLsbD 30 then
      let d2 := d1.setDm { d1.dm with resumeack := vSet d1.dm.resumeack h false }
      d2.debugResume h
    else d1

/-- A read of the register at `a` of the debug module. -/
def Dev.dmRead (d : Dev) (now a : Nat) : Dev × Word :=
  let x := d.dm
  if d.dbgClosed then (d, 0)
  else if a = 0x10 then (d, w32 (x.hartsel * 0x10000 + x.active.toNat))
  else if !x.active then (d, 0)
  else if a = 0x04 then (d, x.data0)
  else if a = 0x11 then (d, d.dmstatus)
  else if a = 0x16 then (d, w32 (8 * 0x1000000 + x.cmderr * 256 + 1))
  else if 0x20 ≤ a ∧ a < 0x28 then (d, vGet x.progbuf (a - 0x20))
  else if a = 0x38 then
    (d, w32 (0x20040404 + x.sbreadonaddr.toNat * 0x100000 + x.sbautoinc.toNat * 0x10000 + x.sbreadondata.toNat * 0x8000 + x.sberror * 0x1000))
  else if a = 0x39 then (d, x.sbaddr)
  else if a = 0x3C then (if x.sbreadondata then d.sbRead now else d, x.sbdata)
  else (d, 0)

/-- A write of it. -/
def Dev.dmWrite (d : Dev) (now a : Nat) (v : Word) : Dev :=
  let x := d.dm
  if a = 0x10 then d.dmcontrol v
  else if d.dbgClosed || !x.active then d
  else if a = 0x04 then d.setDm { x with data0 := v }
  else if a = 0x16 then d.setDm { x with cmderr := x.cmderr &&& (7 - wordGet v 10 8) }
  else if a = 0x17 then d.abstractCmd now v
  else if 0x20 ≤ a ∧ a < 0x28 then d.setDm { x with progbuf := vSet x.progbuf (a - 0x20) v }
  else if a = 0x38 then
    d.setDm { x with sbreadonaddr := v.getLsbD 20, sbautoinc := v.getLsbD 16, sbreadondata := v.getLsbD 15,
                     sberror := if v.getLsbD 12 || v.getLsbD 13 || v.getLsbD 14 then 0 else x.sberror }
  else if a = 0x39 then
    let d1 := d.setDm { x with sbaddr := v }
    if x.sbreadonaddr then d1.sbRead now else d1
  else if a = 0x3C then (d.setDm { x with sbdata := v }).sbWrite now
  else d

/-! ## JTAG instructions (R555, R557) -/

/-- R557: EXTEST, CLAMP and HIGHZ may take control of the pins. -/
def Dev.scanAllowed (d : Dev) : Bool := d.lifecycle == 0 || d.mode == 9

/-- An instruction is loaded: which one is in control of the pins (0 none), and the word its data register shifts out. -/
def Dev.jtagLoad (d : Dev) (ir ctl : Nat) (out : Word) : Dev :=
  { d with jtag := { d.jtag with ir := ir, ctl := if d.scanAllowed then ctl else 0, out := out } }

def Dev.extest (d : Dev) (v : BitVec 218) : Dev :=
  let d1 := d.jtagLoad 0x00 1 0
  { d1 with jtag := { d1.jtag with upd := v } }
def Dev.samplePreload (d : Dev) (cap v : BitVec 218) : Dev :=
  let d1 := d.jtagLoad 0x02 0 0
  { d1 with jtag := { d1.jtag with cap := cap, upd := v } }
def Dev.idcode (d : Dev) : Dev := d.jtagLoad 0x01 0 0x148961E3
def Dev.clampPins (d : Dev) : Dev := d.jtagLoad 0x03 2 0
def Dev.highz (d : Dev) : Dev := d.jtagLoad 0x04 3 0
/-- `dtmcs`: version 0.13, 7 address bits. -/
def Dev.dtmcs (d : Dev) : Dev := d.jtagLoad 0x10 0 0x71
def Dev.bypass (d : Dev) : Dev := d.jtagLoad 0x1F 0 0
/-- DMI: `op` 1 reads, 2 writes, the register at `a`. -/
def Dev.dmi (d : Dev) (now a : Nat) (v : Word) (op : Nat) : Dev :=
  let d1 := d.jtagLoad 0x11 0 0
  if op = 1 then let r := d1.dmRead now a; { r.1 with jtag := { r.1.jtag with out := r.2 } }
  else if op = 2 then d1.dmWrite now a v else d1

end Sys2Proof.Machine
end

