-- ==== Sys2Proof/Machine/Flags.lean ====
section
/-!
DEFINITION. Machine/Flags.lean: the status and interrupt flags of a page as a sender of commands sees them (R46, R52, R53).
-/

namespace Sys2Proof.Machine

/-- Interrupt status bit i of page `pg` (R46). -/
def Dev.pirqBit (d : Dev) (pg i : Nat) : Bool := (d.reg (R.PIRQ pg)).getLsbD i
/-- Page `pg` asserts its interrupt source: a status bit that is enabled stands (R52). -/
def Dev.asserts (d : Dev) (pg : Nat) : Bool := d.reg (R.PIRQ pg) &&& d.reg (R.PIEN pg) != 0
/-- The fault word the page sent last (R46). -/
def Dev.pageFault (d : Dev) (pg : Nat) : Word := d.reg (R.PFLT pg)
/-- The count of accepted configuration writes of page `pg` (R58). -/
def Dev.pageGen (d : Dev) (pg : Nat) : Word := d.reg (R.PGEN pg)
/-- `PSTAT.SHDW_PEND`: an RWS write of the page waits for its commit point (R46, R60). -/
def Dev.shadowPend (d : Dev) (pg : Nat) : Bool := d.shadow.any (fun e => pageOf e.1 == pg)

end Sys2Proof.Machine
end

