-- ==== Sys2Proof/Machine/Operands.lean ====
section
/-!
DEFINITION. Machine/Operands.lean: the forms the commands take. A register command is a write of its register by an initiator, with every
check of R55; an event command is its effect; each comes at a time, and commands are granted in the order of the queue
(notes/assumptions/1.md).
-/

namespace Sys2Proof.Machine

/-! ## Register commands -/

/-- A write of a word by `who` (R42, R55). -/
def Dev.wr (d : Dev) (now : Nat) (who : Initiator) (a : Nat) (v : Word) : Dev := (d.busWrite now who a v).1
/-- The bits of a row's fields in which a written 1 acts: a sender that means another field writes 0 there. -/
def actMask : List FRow → Word
  | [] => 0
  | f :: r => (if f.acc = .w1s ∨ f.acc = .w1c ∨ f.acc = .wo then BitVec.ofNat 32 (2 ^ (f.hi + 1 - f.lo) - 1) <<< f.lo else 0) ||| actMask r
def keepMask (a : Nat) : Word :=
  match pageInfo (pageOf a) with
  | none => 0
  | some (b, p) => match rowAt b p (a % 0x1000) with
    | none => 0
    | some (row, _) => ~~~(actMask row.fields)
/-- What a sender writes to the bits of the register at `a` it does not mean: RW fields as they stand, 0 where a 1 would act. -/
def Dev.repeated (d : Dev) (a : Nat) : Word := d.reg a &&& keepMask a
/-- PIRQ_CLEAR: bits of `v` whose hardware setting the write meets (`met`) end at 1, whichever was granted first; the others clear (R53). -/
def Dev.pirqClearMeet (d : Dev) (now : Nat) (who : Initiator) (pg : Nat) (v met : Word) : Dev :=
  let d1 := d.wr now who (R.PIRQ pg) (v &&& ~~~met)
  if v &&& met = 0 ∨ d1.restarting pg then d1 else d1.irqBits pg (v &&& met)
/-- A write that sets the bits of `m` and repeats the other fields. -/
def Dev.wrBits (d : Dev) (now : Nat) (who : Initiator) (a : Nat) (m : Word) : Dev := d.wr now who a (d.repeated a ||| m)
/-- A write that gives one field a value and repeats the others. -/
def Dev.wrField (d : Dev) (now : Nat) (who : Initiator) (f : Fld) (v : Nat) : Dev :=
  d.wr now who f.addr (wordSet (d.repeated f.addr) f.hi f.lo v)
/-- A write of one bit of `PCTL`; ENABLE, FREEZE and SHDW_HOLD are repeated as they stand (R48 to R51, R60). -/
def Dev.wrPctl (d : Dev) (now : Nat) (who : Initiator) (pg bit : Nat) (v : Bool) : Dev :=
  d.wr now who (R.PCTL pg) (wordSet (d.reg (R.PCTL pg) &&& 0x13) bit bit v.toNat)

/-! ## Commands that carry what they meet -/

/-- An edge that passed the glitch filter of an enabled input is movement (R502). -/
def Dev.edgeMoves (d old : Dev) (now n : Nat) : Dev :=
  if old.enabled (P.WHL n) && (old.whl n).cand.isSome && (d.whl n).cand != (old.whl n).cand then { d with upd := { d.upd with moveAt := now } } else d

/-- ARM_RING_ENTRY: `err` is the memory error its read meets: 0 none, 1 corrected, 2 double-bit, which stops the ring (R375). -/
def Dev.armEntry (d : Dev) (now r err : Nat) : Dev :=
  if !d.ringEn r || d.ringFill r == 0 then d
  else
    let a := d.ringAddr r (d.get (F.RING_TAIL_TAIL r))
    match err with
    | 0 => d.armRing now r
    | 1 => (d.memErr 3 a false).armRing now r
    | _ => (d.memErr 3 a true).ringUe r

/-- FTX_ENTRY with the memory error its read meets (R375). -/
def Dev.ftxEntryErr (d : Dev) (now r err : Nat) : Dev :=
  if !d.ringEn (16 + r) || d.ringFill (16 + r) == 0 then d
  else
    let a := d.ringAddr (16 + r) (d.get (F.RING_TAIL_TAIL (16 + r)))
    match err with
    | 0 => d.ftxEntry now r
    | 1 => (d.memErr 3 a false).ftxEntry now r
    | _ => (d.memErr 3 a true).ringUe (16 + r)

/-- RTC_SUB_READ with the value SUB stands at (R523). -/
def Dev.rtcRead (d : Dev) (now : Nat) (who : Initiator) (sub : Nat) : Dev :=
  if d.restarting P.RTC then d.readBack now who R.RTC_SUB
  else
    let d1 := (d.access now who).rtcSubRead who sub
    d1.readResult (w32 sub) .ok

/-- A write of `SEC_CMD` with what the command finds: `fmt` tells that its buffer is well formed, `sig` that its signature verifies.
A write while a command is in progress is discarded (R488). -/
def Dev.secCommand (d : Dev) (now : Nat) (who : Initiator) (cmd : Nat) (fmt sig : Bool) : Dev :=
  d.gated now who R.SEC_CMD (w32 (0x53000000 + cmd)) (fun d => if d.flag F.SEC_STAT_PEND then d else d.secCmd now who cmd fmt sig)

/-- Where PROGRAM_WRITE writes: program word i, or from 32 the registers A, B, LC, SEND, TAKE (R344). -/
def pioProgAddr (n i : Nat) : Nat :=
  match i with
  | 32 => R.PIO_A n
  | 33 => R.PIO_B n
  | 34 => R.PIO_LC n
  | 35 => R.PIO_SEND n
  | 36 => R.PIO_TAKE n
  | _ => pioAddr n i

/-! ## What a pin engine does at its next step -/

def PioDo.isGoto : PioDo → Bool | .issue (.goto _ _) => true | _ => false
def PioDo.isDrive : PioDo → Bool | .issue (.drive _ _ _ _) => true | _ => false
def PioDo.isEmit : PioDo → Bool | .issue (.emit _ _) => true | _ => false
def PioDo.isTake : PioDo → Bool | .issue (.take _ _) => true | _ => false
def PioDo.isXfer (o : XferOp) : PioDo → Bool | .issue (.xfer p _) => o == p | _ => false
def PioDo.isCalc (f : CalcFn) : PioDo → Bool | .issue (.calc g _) => f == g | _ => false
def PioDo.isMove : PioDo → Bool | .issue (.move _ _ _) => true | _ => false
def PioDo.isTicks : PioDo → Bool | .issue (.ticks _) => true | _ => false
def PioDo.isAwait : PioDo → Bool | .issue (.await _ _ _) => true | _ => false
def PioDo.isSignal : PioDo → Bool | .issue (.signal _ _) => true | _ => false
def PioDo.isStop : PioDo → Bool | .issue .stop => true | _ => false
def PioDo.isReva : PioDo → Bool | .issue .reva => true | _ => false
def PioDo.isNota : PioDo → Bool | .issue .nota => true | _ => false
def PioDo.isIllegal : PioDo → Bool | .issue (.illegal _) => true | _ => false
def PioDo.isMore : PioDo → Bool | .more => true | _ => false
def PioDo.isDelivery : PioDo → Bool | .delivery => true | _ => false

/-! ## One command at its time -/

/-- Commands are granted in the order of the queue: the count never goes back. -/
def State.clock (s : State) (t : Nat) : Nat := max s.now t

/-- The state after a command granted at t whose effect on the device is `d`: domains that began or ceased to commit settle, and
interrupt messages the step raised are formed. -/
def State.after (s : State) (t : Nat) (d : Dev) : State :=
  { s with now := s.clock t, dev := (s.dev.domSettle d (s.clock t)).fabPump (s.clock t) }

/-- A command with the effect `f` at its grant time. -/
def State.run (s : State) (t : Nat) (f : Nat → Dev → Dev) : Host.Outcome State Fault Refusal :=
  .next (s.after t (f (s.clock t) s.dev))

/-- A command that may also change the timebase count. -/
def State.runAt (s : State) (t : Nat) (f : Nat → Dev → Dev × Nat) : Host.Outcome State Fault Refusal :=
  let r := f (s.clock t) s.dev
  .next { s with now := r.2, dev := r.1 }

end Sys2Proof.Machine
end

