-- ==== Sys2Proof/Machine/ExecAngle.lean ====
section
/-!
DEFINITION. Machine/ExecAngle.lean: the meanings of the Angle family of commands.
-/

namespace Sys2Proof.Machine

/-- ANG_ENABLE (R99): Enabling an ANG page validates bindings and tooth tables and, on success, binds the wheels and enters NOSYNC. -/
def execAngEnable (t : Nat) (who : Initiator) (k : Fin 2) (s : State) : Host.Outcome State Fault Refusal :=
  s.run t (fun now d => d.wrPctl now who (P.ANG k) 0 true)

/-- GAP_NOTFOUND (R108): 2 × N_rev primary edges in GAPSEARCH without finding the gap report GAP_NOTFOUND once. -/
def execGapNotfound (t : Nat) (k : Fin 2) (s : State) : Host.Outcome State Fault Refusal :=
  s.run t (fun _ d => d.gapNotFound k)

/-- PHASE_UNKNOWN (R113): PHASE_TO revolutions in PRESYNC report PHASE_UNKNOWN and may enter LIMP_CRANK with the guessed phase. -/
def execPhaseUnknown (t : Nat) (k : Fin 2) (s : State) : Host.Outcome State Fault Refusal :=
  s.run t (fun now d => d.phaseUnknown now k)

/-- CAM_LOST (R112): CAM_LOSS_CYC cycles without a cam edge clear CAM_OK and may enter LIMP_CRANK or drop synchronisation. -/
def execCamLost (t : Nat) (k : Fin 2) (c : Fin 3) (s : State) : Host.Outcome State Fault Refusal :=
  s.run t (fun now d => d.camLostEv now k c)

/-- PRIM_LOST (R114): No primary edge within CRANK_LOSS × p loses the primary and fails over, enters LIMP_CAM or drops synchronisation. -/
def execPrimLost (t : Nat) (k : Fin 2) (cur : Nat) (s : State) : Host.Outcome State Fault Refusal :=
  s.run t (fun now d => d.primLost now k cur)

/-- STALL (R116): No accepted edge on any bound wheel within STALL_T freezes the angle and enters STALLED. -/
def execStall (t : Nat) (k : Fin 2) (s : State) : Host.Outcome State Fault Refusal :=
  s.run t (fun now d => d.stall now k)

/-- SW_DROP (R117): A write of ANG_CTL.SYNC_DROP drops synchronisation with cause SW_DROP. -/
def execSwDrop (t : Nat) (who : Initiator) (k : Fin 2) (s : State) : Host.Outcome State Fault Refusal :=
  s.run t (fun now d => d.wrBits now who (R.ANG_CTL k) 2)

/-- REACQ (R117): A write of ANG_CTL.REACQ clears WAIT_REACQ so acquisition can restart. -/
def execReacq (t : Nat) (who : Initiator) (k : Fin 2) (s : State) : Host.Outcome State Fault Refusal :=
  s.run t (fun now d => d.wrBits now who (R.ANG_CTL k) 1)

/-- ANG_CLR (R128): A write of ANG_CTL.CLR sets the ANG counters to 0. -/
def execAngClr (t : Nat) (who : Initiator) (k : Fin 2) (s : State) : Host.Outcome State Fault Refusal :=
  s.run t (fun now d => d.wrBits now who (R.ANG_CTL k) 4)

/-- ANG_POS_READ (R128): A read of ANG_POS latches ANG_TANGLE and ANG_CYC for the reading initiator. -/
def execAngPosRead (t : Nat) (who : Initiator) (k : Fin 2) (s : State) : Host.Outcome State Fault Refusal :=
  s.run t (fun now d => d.readBack now who (R.ANG_POS k))

/-- HOLD_LIMIT (R141): The model angle reaching θ_hold freezes the reported angle and sets HELD. -/
def execHoldLimit (t : Nat) (k : Fin 2) (s : State) : Host.Outcome State Fault Refusal :=
  s.run t (fun now d => d.holdLimit now k)

/-- PRED_ANGLE_READ (R140): A read of PRED_ANGLE returns the model angle at that handshake and latches its time. -/
def execPredAngleRead (t : Nat) (who : Initiator) (k : Fin 2) (s : State) : Host.Outcome State Fault Refusal :=
  s.run t (fun now d => d.readBack now who (R.PRED_ANGLE k))

/-- PRED_TK_LO_READ (R156): A read of PRED_TK_LO latches the model registers for the reading initiator. -/
def execPredTkLoRead (t : Nat) (who : Initiator) (k : Fin 2) (s : State) : Host.Outcome State Fault Refusal :=
  s.run t (fun now d => d.readBack now who (R.PRED_TK_LO k))

/-- DUNE_RESET (R156): A write of PRED_CTL.DUNE_RESET sets every RATIO to 0x8000 and CNT to 0. -/
def execDuneReset (t : Nat) (who : Initiator) (k : Fin 2) (s : State) : Host.Outcome State Fault Refusal :=
  s.run t (fun now d => d.wrBits now who (R.PRED_CTL k) 2)

/-- PRED_CLR (R156): A write of PRED_CTL.CLR sets the prediction counters to 0. -/
def execPredClr (t : Nat) (who : Initiator) (k : Fin 2) (s : State) : Host.Outcome State Fault Refusal :=
  s.run t (fun now d => d.wrBits now who (R.PRED_CTL k) 1)

/-- DUNE_PROFILE_WRITE (R146): A write to the dune profile is permitted or denied by LEARN and updates the normaliser. -/
def execDuneProfileWrite (t : Nat) (who : Initiator) (k : Fin 2) (entry : Fin 512) (w : Fin 2) (v : Word) (s : State) : Host.Outcome State Fault Refusal :=
  s.run t (fun now d => d.wr now who (0x41008000 + 0x1000 * k.val + 8 * entry.val + 4 * w.val) (v))

end Sys2Proof.Machine
end

