-- ==== Sys2Proof/Machine/ExecCaravan.lean ====
section
/-!
DEFINITION. Machine/ExecCaravan.lean: the meanings of the Caravan family of commands.
-/

namespace Sys2Proof.Machine

/-- ARM_RING_ENTRY (R163): The Caravan takes an arm request at TAIL of an enabled arm ring, processes it and writes back its status. -/
def execArmRingEntry (t : Nat) (r : Fin 8) (err : Fin 3) (s : State) : Host.Outcome State Fault Refusal :=
  s.run t (fun now d => d.armEntry now r err)

/-- DIRECT_ARM_SUBMIT (R164): A write of CARV_DARM_W3 submits the initiator's four request words. -/
def execDirectArmSubmit (t : Nat) (who : Initiator) (w3 : Word) (s : State) : Host.Outcome State Fault Refusal :=
  s.run t (fun now d => d.wr now who (R.CARV_DARM_W 3) (w3))

/-- ARM_RING_RESUME (R167): A ring stalled for lack of a slot resumes when a slot becomes available to it. -/
def execArmRingResume (t : Nat) (r : Fin 8) (s : State) : Host.Outcome State Fault Refusal :=
  s.run t (fun now d => d.armResume now r)

/-- LEAD_COMMIT (R176): A lead slot whose projected time enters the commit window hands its edge to the channel's placer. -/
def execLeadCommit (t : Nat) (slot : Fin 256) (s : State) : Host.Outcome State Fault Refusal :=
  s.run t (fun now d => d.leadCheck now slot)

/-- CANCEL (R187): A write of CARV_CANCEL cancels the named slot according to its state and TAG. -/
def execCancel (t : Nat) (who : Initiator) (w : Word) (s : State) : Host.Outcome State Fault Refusal :=
  s.run t (fun now d => d.wr now who (R.CARV_CANCEL) (w))

/-- FLUSH0 (R195): A write of CARV_CTL.FLUSH0 flushes the uncommitted one-shots of domain 0. -/
def execFlush0 (t : Nat) (who : Initiator) (s : State) : Host.Outcome State Fault Refusal :=
  s.run t (fun now d => d.wrBits now who (R.CARV_CTL) 1)

/-- FLUSH1 (R195): A write of CARV_CTL.FLUSH1 flushes the uncommitted one-shots of domain 1. -/
def execFlush1 (t : Nat) (who : Initiator) (s : State) : Host.Outcome State Fault Refusal :=
  s.run t (fun now d => d.wrBits now who (R.CARV_CTL) 2)

/-- CARV_CLR (R195): A write of CARV_CTL.CLR sets the Caravan counters to 0. -/
def execCarvClr (t : Nat) (who : Initiator) (s : State) : Host.Outcome State Fault Refusal :=
  s.run t (fun now d => d.wrBits now who (R.CARV_CTL) 4)

/-- CARV_INSP_SEL_WRITE (R195): A write of CARV_INSP_SEL latches the named slot into the inspection registers. -/
def execCarvInspSelWrite (t : Nat) (who : Initiator) (w : Word) (s : State) : Host.Outcome State Fault Refusal :=
  s.run t (fun now d => d.wr now who (R.CARV_INSP_SEL) (w))

/-- RESERVATION_WRITE (R166): A write of a ring reservation is applied or, if the sum would exceed 256, discarded and reported. -/
def execReservationWrite (t : Nat) (who : Initiator) (idx : Fin 4) (w : Word) (s : State) : Host.Outcome State Fault Refusal :=
  s.run t (fun now d => d.wr now who (R.CARV_RES idx) (w))

/-- TRIM_UPDATE (R314): A link update passes the Caravan port and moves the uncommitted edges of every slot naming the link. -/
def execTrimUpdate (t : Nat) (s : State) : Host.Outcome State Fault Refusal :=
  s.run t (fun now d => d.trimUpdate now)

/-- EDGE_RELEASE (R32): A placer releases its pending edge at the target time, or at load plus P_SETUP, and the channel acts on it. -/
def execEdgeRelease (t : Nat) (chan : Fin 104) (cur : Nat) (s : State) : Host.Outcome State Fault Refusal :=
  s.run t (fun now d => d.edgeRelease now chan cur)

/-- PLACER_HANDOVER (R198): A committed edge held at the Caravan for a full hand-over queue is handed to the placer when an entry frees. -/
def execPlacerHandover (t : Nat) (chan : Fin 104) (s : State) : Host.Outcome State Fault Refusal :=
  s.run t (fun now d => d.handover now chan)

end Sys2Proof.Machine
end

