-- ==== Sys2Proof/Machine/ExecChannel.lean ====
section
/-!
DEFINITION. Machine/ExecChannel.lean: the meanings of the Channel family of commands.
-/

namespace Sys2Proof.Machine

/-- TAP_SEL_WRITE (R205): A write of TAPC_CFGn.SEL switches the pin's source, the pin switching at most once. -/
def execTapSelWrite (t : Nat) (who : Initiator) (n : Fin 32) (sel : Fin 8) (s : State) : Host.Outcome State Fault Refusal :=
  s.run t (fun now d => d.wrField now who (F.TAPC_CFG_SEL n) sel)

/-- TRIG_SW (R211): A write of TRIG_SW emits one pulse on each selected software trigger source. -/
def execTrigSw (t : Nat) (who : Initiator) (mask : Word) (s : State) : Host.Outcome State Fault Refusal :=
  s.run t (fun now d => d.wr now who (R.TRIG_SW) (mask))

/-- TRIG_CLR (R211): A write of TRIG_CTL.CLR sets TRIG_OVF to 0. -/
def execTrigClr (t : Nat) (who : Initiator) (s : State) : Host.Outcome State Fault Refusal :=
  s.run t (fun now d => d.wrBits now who (R.TRIG_CTL) 1)

/-- DWELL_MAX (R215): A charge reaching IGN_DWELL.MAX without a spark ends by soft-off. -/
def execDwellMax (t : Nat) (n : Fin 24) (s : State) : Host.Outcome State Fault Refusal :=
  s.run t (fun now d => d.dwellMax now n)

/-- SOFT_OFF_RISE (R216): IGNSOFT rises SETUP before a scheduled soft-off. -/
def execSoftOffRise (t : Nat) (s : State) : Host.Outcome State Fault Refusal :=
  s.run t (fun now d => d.softRise now)

/-- SOFT_OFF_FALL (R216): The soft-off channels' IGNn fall at t_s while IGNSOFT is high. -/
def execSoftOffFall (t : Nat) (s : State) : Host.Outcome State Fault Refusal :=
  s.run t (fun now d => d.softFall now)

/-- SOFT_OFF_END (R216): IGNSOFT falls HOLD after the soft-off time. -/
def execSoftOffEnd (t : Nat) (s : State) : Host.Outcome State Fault Refusal :=
  s.run t (fun now d => d.softEnd now)

/-- IGN_FEEDBACK_EDGE (R219): An IGNnFB edge is timestamped and checked against the charge. -/
def execIgnFeedbackEdge (t : Nat) (n : Fin 24) (lvl : Bool) (s : State) : Host.Outcome State Fault Refusal :=
  s.run t (fun now d => d.ignFeedback now n lvl)

/-- IGN_NOCHG (R219): Feedback not asserted by the spark or RISE_MAX reports IGN_NOCHG. -/
def execIgnNochg (t : Nat) (n : Fin 24) (s : State) : Host.Outcome State Fault Refusal :=
  s.run t (fun now d => d.ignNochgTimeout now n)

/-- IGN_STUCK (R219): Feedback still asserted FALL_MAX after IGNn fell reports IGN_STUCK. -/
def execIgnStuck (t : Nat) (n : Fin 24) (s : State) : Host.Outcome State Fault Refusal :=
  s.run t (fun now d => d.ignStuck now n)

/-- IGN_UNINH (R223): A write of IGN_CTL.UNINH clears INHIBIT. -/
def execIgnUninh (t : Nat) (who : Initiator) (n : Fin 24) (s : State) : Host.Outcome State Fault Refusal :=
  s.run t (fun now d => d.wrBits now who (R.IGN_CTL n) 2)

/-- IGN_CLR (R223): A write of IGN_CTL.CLR sets the ignition counters to 0. -/
def execIgnClr (t : Nat) (who : Initiator) (n : Fin 24) (s : State) : Host.Outcome State Fault Refusal :=
  s.run t (fun now d => d.wrBits now who (R.IGN_CTL n) 1)

/-- IGN_LAST_LO_READ (R223): A read of IGN_LAST_LO latches the last charge registers for the reading initiator. -/
def execIgnLastLoRead (t : Nat) (who : Initiator) (n : Fin 24) (s : State) : Host.Outcome State Fault Refusal :=
  s.run t (fun now d => d.readBack now who (R.IGN_LAST_LO n))

end Sys2Proof.Machine
end

