-- ==== Sys2Proof/Machine/ExecCore.lean ====
section
/-!
DEFINITION. Machine/ExecCore.lean: the meanings of the Core family of commands.
-/

namespace Sys2Proof.Machine

/-- INTERRUPT_ENTRY (R383): A core accepts a presentation at an instruction boundary and enters the handler. -/
def execInterruptEntry (t : Nat) (h : Fin 3) (pc : Word) (user : Bool) (mie : Bool) (s : State) : Host.Outcome State Fault Refusal :=
  s.run t (fun now d => d.interruptEntry now h pc user mie)

/-- MXEOI_WRITE (R384): A write of mxeoi pops the innermost interrupt level and clears its source's ACT. -/
def execMxeoiWrite (t : Nat) (h : Fin 3) (pc : Word) (user : Bool) (mie : Bool) (s : State) : Host.Outcome State Fault Refusal :=
  s.run t (fun _ d => d.mxeoi h pc user mie)

/-- SCRUB_READ (R369): The scrubber reads the next memory word and corrects single-bit errors. -/
def execScrubRead (t : Nat) (m : Fin 4) (addr : Word) (err : Fin 3) (s : State) : Host.Outcome State Fault Refusal :=
  s.run t (fun _ d => d.scrubRead m addr.toNat err)

/-- CORE_SCRUB_CLR (R372): A write of CORE_SCRUB.CLR sets CORE_ECC to 0. -/
def execCoreScrubClr (t : Nat) (who : Initiator) (h : Fin 3) (s : State) : Host.Outcome State Fault Refusal :=
  s.run t (fun now d => d.wrBits now who (R.CORE_SCRUB h) 2)

/-- RING_INDEX_WRITE (R373): A write of a ring's software index advances it or is discarded if the fill would exceed N. -/
def execRingIndexWrite (t : Nat) (who : Initiator) (r : Fin 32) (v : Word) (s : State) : Host.Outcome State Fault Refusal :=
  s.run t (fun now d => d.wr now who (if ringDevice r then R.RING_TAIL r else R.RING_HEAD r) (v))

/-- RING_ENABLE_WRITE (R374): A write of RING_CFGr.EN checks the descriptor and enables the ring or stops it at an entry boundary. -/
def execRingEnableWrite (t : Nat) (who : Initiator) (r : Fin 32) (on : Bool) (s : State) : Host.Outcome State Fault Refusal :=
  s.run t (fun now d => d.wrField now who (F.RING_CFG_EN r) on.toNat)

/-- RING_REQUEST (R377): A trigger on a ring request line reads its register and writes a record. -/
def execRingRequest (t : Nat) (k : Fin 8) (s : State) : Host.Outcome State Fault Refusal :=
  s.run t (fun now d => d.ringRequest now k)

/-- RING_SCRUB_CLR (R378): A write of RING_SCRUB.CLR sets RING_ECC to 0. -/
def execRingScrubClr (t : Nat) (who : Initiator) (s : State) : Host.Outcome State Fault Refusal :=
  s.run t (fun now d => d.wrBits now who (R.RING_SCRUB) 2)

/-- INTC_SWI (R391): A write of INTC_SWI sets the selected software interrupt sources. -/
def execIntcSwi (t : Nat) (who : Initiator) (w : Word) (s : State) : Host.Outcome State Fault Refusal :=
  s.run t (fun now d => d.wr now who (R.INTC_SWI) (w))

/-- INTC_PEND_CLEAR (R380): A W1C write of INTC_PENDj clears latched sources. -/
def execIntcPendClear (t : Nat) (who : Initiator) (j : Fin 4) (w : Fin 4) (bits : Word) (s : State) : Host.Outcome State Fault Refusal :=
  s.run t (fun now d => d.wr now who (R.INTC_PEND j w) (bits))

/-- INTC_SOURCE_CFG_WRITE (R381): A write of a source's configuration or vector is applied or refused while enabled or for SUP targets. -/
def execIntcSourceCfgWrite (t : Nat) (who : Initiator) (src : Fin 512) (vec : Bool) (v : Word) (s : State) : Host.Outcome State Fault Refusal :=
  s.run t (fun now d => d.wr now who (if vec then R.INTC_SRC_VEC src else R.INTC_SRC_CFG src) (v))

/-- INTC_CLAIM (R387): A read of INTC_CLAIMn claims the pin's highest qualifying source. -/
def execIntcClaim (t : Nat) (who : Initiator) (n : Fin 4) (s : State) : Host.Outcome State Fault Refusal :=
  s.run t (fun now d => d.readBack now who (R.INTC_CLAIM n))

/-- INTC_COMPLETE (R387): A write of INTC_COMPLETEn clears the named source's ACT. -/
def execIntcComplete (t : Nat) (who : Initiator) (n : Fin 4) (src : Fin 512) (s : State) : Host.Outcome State Fault Refusal :=
  s.run t (fun now d => d.wr now who (R.INTC_COMPLETE n) (w32 src))

/-- DEBUG_HALT (R393): The debug module halts a hart. -/
def execDebugHalt (t : Nat) (h : Fin 3) (pc : Word) (s : State) : Host.Outcome State Fault Refusal :=
  s.run t (fun _ d => d.debugHalt h pc)

/-- DEBUG_RESUME (R393): The debug module resumes a halted hart. -/
def execDebugResume (t : Nat) (h : Fin 3) (s : State) : Host.Outcome State Fault Refusal :=
  s.run t (fun _ d => d.debugResume h)

/-- DEBUG_STEP (R393): The debug module single-steps a hart. -/
def execDebugStep (t : Nat) (h : Fin 3) (pc : Word) (user : Bool) (mie : Bool) (s : State) : Host.Outcome State Fault Refusal :=
  s.run t (fun _ d => d.debugStep h pc user mie)

end Sys2Proof.Machine
end

