-- ==== Sys2Proof/Machine/ExecDrive.lean ====
section
/-!
DEFINITION. Machine/ExecDrive.lean: the meanings of the Drive family of commands.
-/

namespace Sys2Proof.Machine

/-- BANK_ADMIT (R246): A waiting start is admitted when the conducting channel's profile ends. -/
def execBankAdmit (t : Nat) (b : Fin 12) (cur : Nat) (s : State) : Host.Outcome State Fault Refusal :=
  s.run t (fun now d => d.bankAdmit now b cur)

/-- START_TOLERANCE (R243): A start not admitted when its tolerance expires takes its late policy. -/
def execStartTolerance (t : Nat) (n : Fin 48) (s : State) : Host.Outcome State Fault Refusal :=
  s.run t (fun now d => d.startTolerance now n)

/-- BANK_WAIT_DROP (R246): A start still waiting at MAX_DELAY is dropped with DRIVE_DROP and reported. -/
def execBankWaitDrop (t : Nat) (n : Fin 48) (s : State) : Host.Outcome State Fault Refusal :=
  s.run t (fun now d => d.bankWaitDrop now n)

/-- BNR_READY (R251): READY arriving within BNR_WAIT lets a waiting start continue. -/
def execBnrReady (t : Nat) (n : Fin 48) (cur : Nat) (s : State) : Host.Outcome State Fault Refusal :=
  s.run t (fun now d => d.bnrReady now n cur)

/-- BNR_WAIT_EXPIRY (R251): A start waiting for boost READY beyond BNR_WAIT is dropped. -/
def execBnrWaitExpiry (t : Nat) (n : Fin 48) (s : State) : Host.Outcome State Fault Refusal :=
  s.run t (fun now d => d.bnrExpiry now n)

/-- CURRENT_THRESHOLD (R232): A regulation comparator switching at I_HI or I_LO changes the channel between charging and off-interval or exits the
phase. -/
def execCurrentThreshold (t : Nat) (n : Fin 48) (hi : Bool) (s : State) : Host.Outcome State Fault Refusal :=
  s.run t (fun now d => d.currentThreshold now n hi)

/-- FAST_DECAY_END (R232): FD_T elapsing ends a fast-decay off-interval. -/
def execFastDecayEnd (t : Nat) (n : Fin 48) (cur : Nat) (s : State) : Host.Outcome State Fault Refusal :=
  s.run t (fun now d => d.fastDecayEnd now n cur)

/-- PHASE_MIN_TIME (R233): T_MIN elapsing lets a phase exit on its condition or TIME. -/
def execPhaseMinTime (t : Nat) (n : Fin 48) (cur : Nat) (s : State) : Host.Outcome State Fault Refusal :=
  s.run t (fun now d => d.phaseMin now n cur)

/-- DRV_PH_TO (R234): A phase reaching T_MAX exits to the next phase or aborts, reporting DRV_PH_TO. -/
def execDrvPhTo (t : Nat) (n : Fin 48) (cur : Nat) (s : State) : Host.Outcome State Fault Refusal :=
  s.run t (fun now d => d.phaseTimeout now n cur)

/-- ARMATURE_DETECT (R239): A decimated current sample completes the dip-and-recovery search and records t_arm. -/
def execArmatureDetect (t : Nat) (n : Fin 48) (raws : List Nat) (s : State) : Host.Outcome State Fault Refusal :=
  s.run t (fun now d => d.armSample now n raws)

/-- DRV_ARM_MISS (R241): AW_END passing without detection sets ARM_MISS and reports it. -/
def execDrvArmMiss (t : Nat) (n : Fin 48) (s : State) : Host.Outcome State Fault Refusal :=
  s.run t (fun now d => d.armWindowEnd now n)

/-- END_DECAY_END (R236): DECAY_T elapsing ends the profile. -/
def execEndDecayEnd (t : Nat) (n : Fin 48) (peak : Nat) (s : State) : Host.Outcome State Fault Refusal :=
  s.run t (fun now d => d.profileEnd now n peak)

/-- OFF_MIN_END (R236): OFF_MIN elapsing after profile end makes the channel IDLE. -/
def execOffMinEnd (t : Nat) (n : Fin 48) (cur : Nat) (s : State) : Host.Outcome State Fault Refusal :=
  s.run t (fun now d => d.offMinEnd now n cur)

/-- DRV_ONMAX (R254): On-time reaching ON_MAX sends the channel to end decay. -/
def execDrvOnmax (t : Nat) (n : Fin 48) (s : State) : Host.Outcome State Fault Refusal :=
  s.run t (fun now d => d.onMax now n)

/-- DUTY_BUCKET (R255): At each bucket boundary the duty sum is updated and the limit entered or left. -/
def execDutyBucket (t : Nat) (n : Fin 48) (s : State) : Host.Outcome State Fault Refusal :=
  s.run t (fun now d => d.dutyBucket now n)

/-- DRV_OC (R256): The over-current comparator switching turns DRVnG off and may inhibit the channel. -/
def execDrvOc (t : Nat) (n : Fin 48) (s : State) : Host.Outcome State Fault Refusal :=
  s.run t (fun now d => d.overCurrent now n)

/-- DRV_LS_SHORT (R257): Current above OFF_I on a non-conducting channel with the high-side on for 5 µs inhibits it and latches the bank. -/
def execDrvLsShort (t : Nat) (n : Fin 48) (code : Nat) (s : State) : Host.Outcome State Fault Refusal :=
  s.run t (fun now d => d.lsShort now n code)

/-- BANK_HS_SHORT (R257): BKbSW above SW_HI with both high-sides off for 10 µs latches the bank. -/
def execBankHsShort (t : Nat) (b : Fin 12) (vsw : Nat) (s : State) : Host.Outcome State Fault Refusal :=
  s.run t (fun now d => d.hsShort now b vsw)

/-- BANK_GND_SHORT (R257): BKbSW below SW_LO 2 µs after a high-side turns on latches the bank. -/
def execBankGndShort (t : Nat) (b : Fin 12) (vsw : Nat) (s : State) : Host.Outcome State Fault Refusal :=
  s.run t (fun now d => d.gndShort now b vsw)

/-- DRV_ABORT (R235): A write of DRV_CTL.ABORT ends the command. -/
def execDrvAbort (t : Nat) (who : Initiator) (n : Fin 48) (cur : Nat) (s : State) : Host.Outcome State Fault Refusal :=
  s.run t (fun now d => d.gated now who (R.DRV_CTL n) 4 (fun d => d.drvAbort now n cur))

/-- DRV_UNINH (R258): A write of DRV_CTL.UNINH clears INHIBITED. -/
def execDrvUninh (t : Nat) (who : Initiator) (n : Fin 48) (s : State) : Host.Outcome State Fault Refusal :=
  s.run t (fun now d => d.wrBits now who (R.DRV_CTL n) 2)

/-- DRV_CLR (R268): A write of DRV_CTL.CLR sets the drive counters to 0. -/
def execDrvClr (t : Nat) (who : Initiator) (n : Fin 48) (s : State) : Host.Outcome State Fault Refusal :=
  s.run t (fun now d => d.wrBits now who (R.DRV_CTL n) 1)

/-- DRV_LAST_LO_READ (R268): A read of DRV_LAST_LO latches the last profile registers for the reading initiator. -/
def execDrvLastLoRead (t : Nat) (who : Initiator) (n : Fin 48) (s : State) : Host.Outcome State Fault Refusal :=
  s.run t (fun now d => d.readBack now who (R.DRV_LAST_LO n))

/-- UNLATCH (R258): A write of BANK_CTL.UNLATCH clears LATCHED. -/
def execUnlatch (t : Nat) (who : Initiator) (b : Fin 12) (s : State) : Host.Outcome State Fault Refusal :=
  s.run t (fun now d => d.wrBits now who (R.BANK_CTL b) 2)

/-- BANK_CLR (R269): A write of BANK_CTL.CLR sets the bank counters to 0. -/
def execBankClr (t : Nat) (who : Initiator) (b : Fin 12) (s : State) : Host.Outcome State Fault Refusal :=
  s.run t (fun now d => d.wrBits now who (R.BANK_CTL b) 1)

/-- BOOST_MEASURE (R252): Every 1 µs the converter measures VHV and starts or stops switching and updates READY. -/
def execBoostMeasure (t : Nat) (k : Fin 2) (vhv : Nat) (vb : Nat) (s : State) : Host.Outcome State Fault Refusal :=
  s.run t (fun now d => d.boostMeasure now k vhv vb)

/-- BOOST_CYCLE_END (R252): A switching cycle ends after TON and TOFF and commits pending settings. -/
def execBoostCycleEnd (t : Nat) (k : Fin 2) (s : State) : Host.Outcome State Fault Refusal :=
  s.run t (fun now d => d.bstCycleEnd now k)

/-- BST_TON_END (R252): TON elapses within a boost switching cycle, and BSTkG turns off for TOFF. -/
def execBstTonEnd (t : Nat) (k : Fin 2) (s : State) : Host.Outcome State Fault Refusal :=
  s.run t (fun now d => d.bstTonEnd now k)

/-- BST_TIMEOUT (R253): READY at 0 for CHG_TO while switching reports BST_TIMEOUT. -/
def execBstTimeout (t : Nat) (k : Fin 2) (s : State) : Host.Outcome State Fault Refusal :=
  s.run t (fun now d => d.bstTimeout now k)

/-- BST_CLR (R270): A write of BST_CTL.CLR sets the boost counters to 0. -/
def execBstClr (t : Nat) (who : Initiator) (k : Fin 2) (s : State) : Host.Outcome State Fault Refusal :=
  s.run t (fun now d => d.wrBits now who (R.BST_CTL k) 1)

/-- PROF_LOAD (R230): A write of PROF_LOAD starts validation of a staged profile. -/
def execProfLoad (t : Nat) (who : Initiator) (p : Fin 16) (s : State) : Host.Outcome State Fault Refusal :=
  s.run t (fun now d => d.wr now who (R.PROF_LOAD) (w32 p))

/-- PROF_LOAD_DONE (R230): Validation completes and the profile is copied to the active store or the failure recorded. -/
def execProfLoadDone (t : Nat) (s : State) : Host.Outcome State Fault Refusal :=
  s.run t (fun _ d => d.profLoadDone)

end Sys2Proof.Machine
end

