-- ==== Sys2Proof/Machine/ExecFabric.lean ====
section
/-!
DEFINITION. Machine/ExecFabric.lean: the meanings of the Fabric family of commands.
-/

namespace Sys2Proof.Machine

/-- HELLO_TIMER (R409): Every 1 ms a node sends HELLO on every UP link. -/
def execHelloTimer (t : Nat) (s : State) : Host.Outcome State Fault Refusal :=
  s.run t (fun now d => d.sendHello now)

/-- HELLO (R409): A received HELLO updates the neighbour's advertisement and the adopted root and parent. -/
def execHello (t : Nat) (n : Fin 4) (fr : LinkFrame) (s : State) : Host.Outcome State Fault Refusal :=
  s.run t (fun now d => d.frameIn now n fr false (isLink 2) (fun d b => d.helloIn now n b))

/-- TOPO (R410): A received TOPO is forwarded to the root or collected there. -/
def execTopo (t : Nat) (n : Fin 4) (fr : LinkFrame) (s : State) : Host.Outcome State Fault Refusal :=
  s.run t (fun now d => d.frameIn now n fr false (isLink 3) (fun d b => d.topoIn now n b))

/-- ASSIGN (R411): A received ASSIGN replaces the node's address and routing table or is forwarded down. -/
def execAssign (t : Nat) (n : Fin 4) (fr : LinkFrame) (s : State) : Host.Outcome State Fault Refusal :=
  s.run t (fun now d => d.frameIn now n fr false (isLink 4) (fun d b => d.assignIn now b))

/-- CHG (R411): A received CHG at the root starts a new discovery epoch. -/
def execChg (t : Nat) (n : Fin 4) (fr : LinkFrame) (s : State) : Host.Outcome State Fault Refusal :=
  s.run t (fun now d => d.frameIn now n fr false (isLink 5) (fun d b => d.chgIn now b))

/-- SETTLE_EXPIRY (R411): SETTLE elapsing without a new TOPO ends collection and the root assigns addresses. -/
def execSettleExpiry (t : Nat) (s : State) : Host.Outcome State Fault Refusal :=
  s.run t (fun now d => d.settleExpiry now)

/-- REDISC (R433): A write of FAB_CTL.REDISC sends CHG. -/
def execRedisc (t : Nat) (who : Initiator) (s : State) : Host.Outcome State Fault Refusal :=
  s.run t (fun now d => d.wrBits now who (R.FAB_CTL) 2)

/-- FAB_CLR (R433): A write of FAB_CTL.CLR sets the fabric counters to 0. -/
def execFabClr (t : Nat) (who : Initiator) (s : State) : Host.Outcome State Fault Refusal :=
  s.run t (fun now d => d.wrBits now who (R.FAB_CTL) 1)

/-- FTX_ENTRY (R418): The device takes a message at TAIL of an FTX ring and sends it. -/
def execFtxEntry (t : Nat) (r : Fin 4) (err : Fin 3) (s : State) : Host.Outcome State Fault Refusal :=
  s.run t (fun now d => d.ftxEntryErr now r err)

/-- REG_RD (R417): A received REG_RD reads registers as initiator FAB and answers REG_RSP. -/
def execRegRd (t : Nat) (n : Fin 4) (fr : LinkFrame) (err : Fin 3) (s : State) : Host.Outcome State Fault Refusal :=
  s.run t (fun now d => d.msgIn now n fr 0 none 0 err)

/-- REG_WR (R417): A received REG_WR writes registers as initiator FAB and answers REG_RSP. -/
def execRegWr (t : Nat) (n : Fin 4) (fr : LinkFrame) (s : State) : Host.Outcome State Fault Refusal :=
  s.run t (fun now d => d.msgIn now n fr 1 none 0 0)

/-- REG_RSP (R418): A received REG_RSP completes its message and writes back status and data. -/
def execRegRsp (t : Nat) (n : Fin 4) (fr : LinkFrame) (s : State) : Host.Outcome State Fault Refusal :=
  s.run t (fun now d => d.msgIn now n fr 2 none 0 0)

/-- INTR (R389): A received INTR message sets its latched interrupt source and is acknowledged. -/
def execIntr (t : Nat) (n : Fin 4) (fr : LinkFrame) (s : State) : Host.Outcome State Fault Refusal :=
  s.run t (fun now d => d.msgIn now n fr 3 none 0 0)

/-- INTR_ACK (R389): A received INTR_ACK clears the sending source's ACT. -/
def execIntrAck (t : Nat) (n : Fin 4) (fr : LinkFrame) (s : State) : Host.Outcome State Fault Refusal :=
  s.run t (fun now d => d.msgIn now n fr 4 none 0 0)

/-- MSG (R418): A received MSG is written into its FRX ring or answered RX_FULL. -/
def execMsg (t : Nat) (n : Fin 4) (fr : LinkFrame) (rxq : Fin 4) (s : State) : Host.Outcome State Fault Refusal :=
  s.run t (fun now d => d.msgIn now n fr 5 none rxq 0)

/-- MSG_ACK (R418): A received MSG_ACK completes the message with OK or RX_FULL. -/
def execMsgAck (t : Nat) (n : Fin 4) (fr : LinkFrame) (s : State) : Host.Outcome State Fault Refusal :=
  s.run t (fun now d => d.msgIn now n fr 6 none 0 0)

/-- NOTICE_HOLD (R419): A NOTICE HOLD pauses the message's transport timer. -/
def execNoticeHold (t : Nat) (n : Fin 4) (fr : LinkFrame) (s : State) : Host.Outcome State Fault Refusal :=
  s.run t (fun now d => d.msgIn now n fr 7 (some 0) 0 0)

/-- NOTICE_RELEASE (R419): A NOTICE RELEASE resumes the message's transport timer. -/
def execNoticeRelease (t : Nat) (n : Fin 4) (fr : LinkFrame) (s : State) : Host.Outcome State Fault Refusal :=
  s.run t (fun now d => d.msgIn now n fr 7 (some 1) 0 0)

/-- NOTICE_PATH (R420): A NOTICE PATH completes the message with PATH_FAIL. -/
def execNoticePath (t : Nat) (n : Fin 4) (fr : LinkFrame) (s : State) : Host.Outcome State Fault Refusal :=
  s.run t (fun now d => d.msgIn now n fr 7 (some 2) 0 0)

/-- MESSAGE_TIMEOUT (R421): A message whose timer reaches its class timeout completes with TIMEOUT. -/
def execMessageTimeout (t : Nat) (r : Fin 5) (src : Fin 512) (s : State) : Host.Outcome State Fault Refusal :=
  s.run t (fun now d => d.messageTimeout now r src)

/-- MAX_PAUSE (R419): Pauses reaching MAX_PAUSE restart the message's timer. -/
def execMaxPause (t : Nat) (r : Fin 5) (src : Fin 512) (s : State) : Host.Outcome State Fault Refusal :=
  s.run t (fun now d => d.maxPause now r src)

/-- BTAG_T_EXPIRY (R429): No frame within BTAG_T after a beacon sends a tag carrier. -/
def execBtagTExpiry (t : Nat) (n : Fin 4) (s : State) : Host.Outcome State Fault Refusal :=
  s.run t (fun now d => d.btagExpiry now n)

/-- BEACON_VTO (R429): A beacon whose tag has not arrived within VTO fails verification. -/
def execBeaconVto (t : Nat) (n : Fin 4) (s : State) : Host.Outcome State Fault Refusal :=
  s.run t (fun now d => d.beaconVto now n)

/-- BEACON_RECEIVE (R424): A received beacon is checked, deduplicated, forwarded and delivered to a follower. -/
def execBeaconReceive (t : Nat) (n : Fin 4) (trx : Nat) (b0 : BitVec 16) (b1 : BitVec 16) (b2 : BitVec 16) (dls : List Nat) (up : Bool) (par : Fin 3) (cur : Nat) (s : State) : Host.Outcome State Fault Refusal :=
  s.run t (fun now d => d.beaconIn now n trx b0 b1 b2 dls up par cur)

/-- BEAC_STAT_READ (R434): A read of BEAC_STATf latches BEAC_AGEf. -/
def execBeacStatRead (t : Nat) (who : Initiator) (f : Fin 4) (s : State) : Host.Outcome State Fault Refusal :=
  s.run t (fun now d => d.readBack now who (R.BEAC_STAT f))

/-- BEAC_CLR (R434): A write of BEAC_CTL.CLR sets the beacon counters to 0. -/
def execBeacClr (t : Nat) (who : Initiator) (s : State) : Host.Outcome State Fault Refusal :=
  s.run t (fun now d => d.wrBits now who (R.BEAC_CTL) 1)

end Sys2Proof.Machine
end

