-- ==== Sys2Proof/Machine/ExecFault.lean ====
section
/-!
DEFINITION. Machine/ExecFault.lean: the meanings of the Fault family of commands.
-/

namespace Sys2Proof.Machine

/-- FAULT_MESSAGE (R436): FCOL accepts a fault message and sets level, notification, latch, pin and log. -/
def execFaultMessage (t : Nat) (src : Fin 512) (s : State) : Host.Outcome State Fault Refusal :=
  s.run t (fun now d => d.faultMessage now src)

/-- REACT_TIMEOUT (R440): A source's react deadline passing at a reference edge enters L3. -/
def execReactTimeout (t : Nat) (src : Fin 512) (s : State) : Host.Outcome State Fault Refusal :=
  s.run t (fun now d => d.reactTimeout now src)

/-- FCOL_ACK (R445): A write of FCOL_ACK.SRC acknowledges one source's fault. -/
def execFcolAck (t : Nat) (who : Initiator) (src : Fin 512) (s : State) : Host.Outcome State Fault Refusal :=
  s.run t (fun now d => d.wr now who (R.FCOL_ACK) (w32 src))

/-- FCOL_ACK_ALL (R445): A write of FCOL_ACK.ALL acknowledges every source. -/
def execFcolAckAll (t : Nat) (who : Initiator) (s : State) : Host.Outcome State Fault Refusal :=
  s.run t (fun now d => d.wr now who (R.FCOL_ACK) (0x80000000))

/-- DHOLD_CLEAR (R442): A W1C of FCOL_DHOLD releases a domain when no DOMAIN_SAFE_END fault on it is unacknowledged. -/
def execDholdClear (t : Nat) (who : Initiator) (w : Word) (s : State) : Host.Outcome State Fault Refusal :=
  s.run t (fun now d => d.wr now who (R.FCOL_DHOLD) (w))

/-- FIRST_CLR (R448): A write of FCOL_CTL.FIRST_CLR empties the first-fault latch. -/
def execFirstClr (t : Nat) (who : Initiator) (s : State) : Host.Outcome State Fault Refusal :=
  s.run t (fun now d => d.wrBits now who (R.FCOL_CTL) 2)

/-- FCOL_CLR (R463): A write of FCOL_CTL.CLR sets the FCOL counters to 0. -/
def execFcolClr (t : Nat) (who : Initiator) (s : State) : Host.Outcome State Fault Refusal :=
  s.run t (fun now d => d.wrBits now who (R.FCOL_CTL) 1)

/-- FCOL_FIRST_W0_READ (R448): A read of FCOL_FIRST_W0 latches the rest of the first-fault record. -/
def execFcolFirstW0Read (t : Nat) (who : Initiator) (s : State) : Host.Outcome State Fault Refusal :=
  s.run t (fun now d => d.readBack now who (R.FCOL_FIRST_W0))

/-- SWLVL_WRITE (R449): A write of FCOL_ERRPIN.SWLVL sets ERRn outside MINW or is discarded inside it. -/
def execSwlvlWrite (t : Nat) (who : Initiator) (v : Bool) (s : State) : Host.Outcome State Fault Refusal :=
  s.run t (fun now d => d.wrField now who F.FCOL_ERRPIN_SWLVL v.toNat)

/-- MINW_END (R449): The MINW interval ends and ERRn follows SWLVL. -/
def execMinwEnd (t : Nat) (s : State) : Host.Outcome State Fault Refusal :=
  s.run t (fun now d => d.minwEnds now)

/-- FAULT_FORCE (R454): A force bit write in CONFIG or SERVICE sends one forced fault message from the source. -/
def execFaultForce (t : Nat) (who : Initiator) (src : Fin 512) (viaPage : Bool) (s : State) : Host.Outcome State Fault Refusal :=
  s.run t (fun now d => if viaPage then d.wr now who (R.PFFRC src) 1 else d.wr now who (R.FFRC_FRC (src / 256) (src % 256 / 32)) (1#32 <<< (src.val % 32)))

/-- SW_FAULT (R455): A write of FCOL_SWF sends a software fault message. -/
def execSwFault (t : Nat) (who : Initiator) (w : Word) (s : State) : Host.Outcome State Fault Refusal :=
  s.run t (fun now d => d.wr now who (R.FCOL_SWF) (w))

/-- MON_SNAP (R459): A write of MON_CTL.SNAP copies the live values into the snapshot. -/
def execMonSnap (t : Nat) (who : Initiator) (m : Fin 16) (s : State) : Host.Outcome State Fault Refusal :=
  s.run t (fun now d => d.wrBits now who (R.MON_CTL m) 1)

/-- MON_SNAPCLR (R459): A write of MON_CTL.SNAPCLR snapshots and empties the live values. -/
def execMonSnapclr (t : Nat) (who : Initiator) (m : Fin 16) (s : State) : Host.Outcome State Fault Refusal :=
  s.run t (fun now d => d.wrBits now who (R.MON_CTL m) 2)

/-- MON_CLR (R465): A write of MON_CTL.CLR empties the live values. -/
def execMonClr (t : Nat) (who : Initiator) (m : Fin 16) (s : State) : Host.Outcome State Fault Refusal :=
  s.run t (fun now d => d.wrBits now who (R.MON_CTL m) 4)

/-- MON_CFG_WRITE (R460): A write of MON_CFG is refused for settings while enabled and empties values on enable. -/
def execMonCfgWrite (t : Nat) (who : Initiator) (m : Fin 16) (w : Word) (s : State) : Host.Outcome State Fault Refusal :=
  s.run t (fun now d => d.wr now who (R.MON_CFG m) (w))

end Sys2Proof.Machine
end

