-- ==== Sys2Proof/Machine/ExecHostPort.lean ====
section
/-!
DEFINITION. Machine/ExecHostPort.lean: the meanings of the HostPort family of commands.
-/

namespace Sys2Proof.Machine

/-- HOST_READ (R65): A host READ transaction is checked for CRC, OPC and address, its words read in ascending address, and the response sent. -/
def execHostRead (t : Nat) (cmd : Word) (addr : Word) (crc : BitVec 16) (r : Reading) (s : State) : Host.Outcome State Fault Refusal :=
  s.run t (fun now d => d.hostRead now cmd addr crc r.err r.met)

/-- HOST_WRITE (R65): A host WRITE transaction is buffered, checked for CRC, OPC and address, and its words applied in ascending address. -/
def execHostWrite (t : Nat) (cmd : Word) (addr : Word) (b : Burst) (crc : BitVec 16) (s : State) : Host.Outcome State Fault Refusal :=
  s.run t (fun now d => d.hostWrite now cmd addr b.data crc b.met)

/-- HOST_WAIT_TIMEOUT (R67): A read whose wait reaches WAIT_MAX sends the start nibble, status TIMEOUT and zero data. -/
def execHostWaitTimeout (t : Nat) (cmd : Word) (addr : Word) (crc : BitVec 16) (k : Fin 257) (s : State) : Host.Outcome State Fault Refusal :=
  s.run t (fun now d => d.hostTimeout now cmd addr crc k)

/-- HOST_ABORT (R68): HCSn rising before the response ends aborts the transaction and sets HOSTP_STAT.ABORT. -/
def execHostAbort (t : Nat) (cmd : Word) (addr : Word) (data : List Word) (crc : BitVec 16) (after : Bool) (r : Reached) (s : State) : Host.Outcome State Fault Refusal :=
  s.run t (fun now d => d.hostAbort now cmd addr data crc after r.k r.late)

end Sys2Proof.Machine
end

