-- ==== Sys2Proof/Machine/ExecJtag.lean ====
section
/-!
DEFINITION. Machine/ExecJtag.lean: the meanings of the Jtag family of commands.
-/

namespace Sys2Proof.Machine

/-- EXTEST (R557): JTAG EXTEST drives boundary pins in MANUFACTURE or SERVICE, else acts as BYPASS. -/
def execExtest (t : Nat) (v : BitVec 218) (s : State) : Host.Outcome State Fault Refusal :=
  s.run t (fun _ d => d.extest v)

/-- IDCODE (R555): JTAG IDCODE selects the IDCODE register. -/
def execIdcode (t : Nat) (s : State) : Host.Outcome State Fault Refusal :=
  s.run t (fun _ d => d.idcode)

/-- SAMPLE_PRELOAD (R557): JTAG SAMPLE/PRELOAD samples the boundary without driving pins. -/
def execSamplePreload (t : Nat) (cap : BitVec 218) (v : BitVec 218) (s : State) : Host.Outcome State Fault Refusal :=
  s.run t (fun _ d => d.samplePreload cap v)

/-- CLAMP (R557): JTAG CLAMP holds the pins from the boundary register when permitted. -/
def execClamp (t : Nat) (s : State) : Host.Outcome State Fault Refusal :=
  s.run t (fun _ d => d.clampPins)

/-- HIGHZ (R557): JTAG HIGHZ sets the chain pins high-impedance when permitted. -/
def execHighz (t : Nat) (s : State) : Host.Outcome State Fault Refusal :=
  s.run t (fun _ d => d.highz)

/-- DTMCS (R555): JTAG DTMCS selects the debug transport control register. -/
def execDtmcs (t : Nat) (s : State) : Host.Outcome State Fault Refusal :=
  s.run t (fun _ d => d.dtmcs)

/-- DMI (R555): JTAG DMI accesses the debug module interface. -/
def execDmi (t : Nat) (a : Fin 128) (v : Word) (op : Fin 4) (s : State) : Host.Outcome State Fault Refusal :=
  s.run t (fun now d => d.dmi now a v op)

/-- BYPASS (R555): JTAG BYPASS selects the one-bit bypass register. -/
def execBypass (t : Nat) (s : State) : Host.Outcome State Fault Refusal :=
  s.run t (fun _ d => d.bypass)

/-- TEST_LOGIC_RESET (R555): Test-logic reset makes IDCODE the current instruction. -/
def execTestLogicReset (t : Nat) (s : State) : Host.Outcome State Fault Refusal :=
  s.run t (fun _ d => d.idcode)

end Sys2Proof.Machine
end

