-- ==== Sys2Proof/Machine/ExecLink.lean ====
section
/-!
DEFINITION. Machine/ExecLink.lean: the meanings of the Link family of commands.
-/

namespace Sys2Proof.Machine

/-- LINK_ALIGN (R397): Eight consecutive IDLE symbols decoded at one phase move a link from DOWN to ALIGN. -/
def execLinkAlign (t : Nat) (n : Fin 4) (s : State) : Host.Outcome State Fault Refusal :=
  s.run t (fun now d => d.linkAlign now n)

/-- RATE (R397): The peer's RATE symbol is received in ALIGN. -/
def execRate (t : Nat) (n : Fin 4) (rate : BitVec 7) (s : State) : Host.Outcome State Fault Refusal :=
  s.run t (fun _ d => d.nlRate n rate.toNat)

/-- RATE_SWITCH (R397): After four further IDLE symbols the transmitter switches to the agreed rate. -/
def execRateSwitch (t : Nat) (n : Fin 4) (s : State) : Host.Outcome State Fault Refusal :=
  s.run t (fun _ d => d.rateSwitch n)

/-- INVALID_SYMBOL (R398): An invalid symbol is received and four in a row take the link DOWN. -/
def execInvalidSymbol (t : Nat) (n : Fin 4) (run : Bool) (s : State) : Host.Outcome State Fault Refusal :=
  s.run t (fun now d => d.invalidSymbol now n run)

/-- SYMBOL_TIMEOUT (R397): No symbol for 2 µs takes the link DOWN with cause ALIGN. -/
def execSymbolTimeout (t : Nat) (n : Fin 4) (s : State) : Host.Outcome State Fault Refusal :=
  s.run t (fun now d => d.nlDown now n 1)

/-- RESET (R398): A RESET control symbol from the peer takes the link DOWN. -/
def execReset (t : Nat) (n : Fin 4) (s : State) : Host.Outcome State Fault Refusal :=
  s.run t (fun now d => d.nlDown now n 3)

/-- AUTH (R406): A LINK AUTH frame advances the SM2 link authentication, completing to UP or FAILED. -/
def execAuth (t : Nat) (n : Fin 4) (fr : LinkFrame) (res : Fin 3) (uid : List Word) (port : Fin 4) (txSeq : BitVec 8) (s : State) : Host.Outcome State Fault Refusal :=
  s.run t (fun now d => d.authIn now n fr res uid port txSeq.toNat)

/-- AUTH_TIMEOUT (R406): AUTH not completed in time puts the link in FAILED. -/
def execAuthTimeout (t : Nat) (n : Fin 4) (s : State) : Host.Outcome State Fault Refusal :=
  s.run t (fun now d => d.authFail now n)

/-- BACKOFF_END (R397): BACKOFF elapsing in FAILED returns the link to DOWN. -/
def execBackoffEnd (t : Nat) (n : Fin 4) (s : State) : Host.Outcome State Fault Refusal :=
  s.run t (fun now d => d.backoffEnd now n)

/-- NL_CTL_DOWN (R432): A write of NL_CTL.DOWN sends RESET and enters DOWN. -/
def execNlCtlDown (t : Nat) (who : Initiator) (n : Fin 4) (s : State) : Host.Outcome State Fault Refusal :=
  s.run t (fun now d => d.wrBits now who (R.NL_CTL n) 2)

/-- NL_CLR (R432): A write of NL_CTL.CLR sets the link counters to 0. -/
def execNlClr (t : Nat) (who : Initiator) (n : Fin 4) (s : State) : Host.Outcome State Fault Refusal :=
  s.run t (fun now d => d.wrBits now who (R.NL_CTL n) 1)

/-- NL_PEER0_READ (R432): A read of NL_PEER0 latches NL_PEER1 to NL_PEER3. -/
def execNlPeer0Read (t : Nat) (who : Initiator) (n : Fin 4) (s : State) : Host.Outcome State Fault Refusal :=
  s.run t (fun now d => d.readBack now who (R.NL_PEER n 0))

/-- ACK (R404): An ACK frees acknowledged frames from the replay buffer. -/
def execAck (t : Nat) (n : Fin 4) (seq : BitVec 8) (s : State) : Host.Outcome State Fault Refusal :=
  s.run t (fun now d => d.nlAck now n seq.toNat)

/-- NACK (R404): A NACK retransmits the replay buffer from the expected number. -/
def execNack (t : Nat) (n : Fin 4) (seq : BitVec 8) (s : State) : Host.Outcome State Fault Refusal :=
  s.run t (fun now d => d.nlNack now n seq.toNat)

/-- CREDIT (R403): A CREDIT returns receive buffers to the transmitter. -/
def execCredit (t : Nat) (n : Fin 4) (k : Fin 17) (s : State) : Host.Outcome State Fault Refusal :=
  s.run t (fun now d => d.nlCredit now n k)

/-- ACK_TIMEOUT (R404): The oldest frame unacknowledged for ACK_TO is retransmitted with the rest. -/
def execAckTimeout (t : Nat) (n : Fin 4) (s : State) : Host.Outcome State Fault Refusal :=
  s.run t (fun now d => d.ackTimeout now n)

/-- ECHO_REQUEST_TIMER (R425): A link sends an echo request at its scheduled interval. -/
def execEchoRequestTimer (t : Nat) (n : Fin 4) (s : State) : Host.Outcome State Fault Refusal :=
  s.run t (fun now d => d.echoTimer now n)

/-- ECHO_REQ (R425): A received echo request is answered with a residence-carrying response pair. -/
def execEchoReq (t : Nat) (n : Fin 4) (s : State) : Host.Outcome State Fault Refusal :=
  s.run t (fun now d => d.echoReq now n)

/-- ECHO_RSP (R425): A received echo response gives a latency sample and updates LAT. -/
def execEchoRsp (t : Nat) (n : Fin 4) (resid : Nat) (t4 : Nat) (s : State) : Host.Outcome State Fault Refusal :=
  s.run t (fun now d => d.echoRsp now n resid t4)

/-- ECHO_TIMEOUT (R425): An echo request unanswered within 1 ms is abandoned. -/
def execEchoTimeout (t : Nat) (n : Fin 4) (s : State) : Host.Outcome State Fault Refusal :=
  s.run t (fun now d => d.echoTimeout now n)

/-- TAG_CARRIER (R429): A received tag carrier frame delivers beacon tags for verification. -/
def execTagCarrier (t : Nat) (n : Fin 4) (fr : LinkFrame) (s : State) : Host.Outcome State Fault Refusal :=
  s.run t (fun now d => d.tagCarrier now n fr)

end Sys2Proof.Machine
end

