-- ==== Sys2Proof/Machine/ExecModeCmd.lean ====
section
/-!
DEFINITION. Machine/ExecModeCmd.lean: the meanings of the ModeCmd family of commands.
-/

namespace Sys2Proof.Machine

/-- MODE_CMD_CONFIG (R471): A CONFIG mode command enters CONFIG or is refused. -/
def execModeCmdConfig (t : Nat) (who : Initiator) (key : BitVec 8) (s : State) : Host.Outcome State Fault Refusal :=
  s.run t (fun now d => d.wr now who (R.SYS_MODECMD) (w32 (key.toNat * 256 + 4)))

/-- MODE_CMD_READY (R471): A READY mode command enters the running mode of the lead domain or is refused. -/
def execModeCmdReady (t : Nat) (who : Initiator) (key : BitVec 8) (s : State) : Host.Outcome State Fault Refusal :=
  s.run t (fun now d => d.wr now who (R.SYS_MODECMD) (w32 (key.toNat * 256 + 5)))

/-- MODE_CMD_SERVICE (R471): A SERVICE mode command enters SERVICE or is refused. -/
def execModeCmdService (t : Nat) (who : Initiator) (key : BitVec 8) (s : State) : Host.Outcome State Fault Refusal :=
  s.run t (fun now d => d.wr now who (R.SYS_MODECMD) (w32 (key.toNat * 256 + 9)))

/-- MODE_CMD_SHUTDOWN (R481): A SHUTDOWN mode command starts the ordered shutdown or is refused. -/
def execModeCmdShutdown (t : Nat) (who : Initiator) (key : BitVec 8) (s : State) : Host.Outcome State Fault Refusal :=
  s.run t (fun now d => d.wr now who (R.SYS_MODECMD) (w32 (key.toNat * 256 + 10)))

/-- MODE_CMD_SAFE (R471): A SAFE mode command enters SAFE with cause SW. -/
def execModeCmdSafe (t : Nat) (who : Initiator) (key : BitVec 8) (s : State) : Host.Outcome State Fault Refusal :=
  s.run t (fun now d => d.wr now who (R.SYS_MODECMD) (w32 (key.toNat * 256 + 11)))

/-- LEAD_WRITE (R468): A write of SYS_MODE.LEAD changes the lead domain and the running mode. -/
def execLeadWrite (t : Nat) (who : Initiator) (v : Fin 2) (s : State) : Host.Outcome State Fault Refusal :=
  s.run t (fun now d => d.wrField now who F.SYS_MODE_LEAD v)

/-- SAFEACK_WRITE (R476): A write of SYS_SAFEACK advances the acknowledgement sequence and leaves SAFE or records a refusal. -/
def execSafeackWrite (t : Nat) (who : Initiator) (w : Word) (s : State) : Host.Outcome State Fault Refusal :=
  s.run t (fun now d => d.wr now who (R.SYS_SAFEACK) (w))

/-- SHUTDOWN_DRAIN_END (R481): All channels idle or SHUT_T elapsed drops both domains and inhibits outputs. -/
def execShutdownDrainEnd (t : Nat) (s : State) : Host.Outcome State Fault Refusal :=
  s.run t (fun now d => d.drainEnd now)

/-- SHUTDOWN_DONE (R481): Logs, rings and MRAM writes complete, DONE is set and WAKEn may be released. -/
def execShutdownDone (t : Nat) (s : State) : Host.Outcome State Fault Refusal :=
  s.run t (fun _ d => d.shutdownDone)

/-- BOOT_COMPLETE (R479): Boot completes and the device enters READY or CONFIG by AUTOREADY. -/
def execBootComplete (t : Nat) (ok : BitVec 8) (us : Nat) (s : State) : Host.Outcome State Fault Refusal :=
  s.run t (fun now d => d.bootDone now ok us)

/-- BOOT_FAIL (R480): A failing boot step leaves the device in BOOT and records its code. -/
def execBootFail (t : Nat) (code : BitVec 8) (s : State) : Host.Outcome State Fault Refusal :=
  s.run t (fun _ d => d.bootFail code.toNat)

/-- REBOOT (R480): A write of SYS_CTL.REBOOT in BOOT runs boot again from step 3. -/
def execReboot (t : Nat) (who : Initiator) (s : State) : Host.Outcome State Fault Refusal :=
  s.run t (fun now d => d.wrBits now who (R.SYS_CTL) 1)

/-- SYS_CLR (R482): A write of SYS_CTL.CLR sets SYS_CNT_A and REFUSED to 0. -/
def execSysClr (t : Nat) (who : Initiator) (s : State) : Host.Outcome State Fault Refusal :=
  s.run t (fun now d => d.wrBits now who (R.SYS_CTL) 2)

/-- SYS_SAFE_TS_LO_READ (R482): A read of SYS_SAFE_TS_LO latches SYS_SAFE_TS_HI. -/
def execSysSafeTsLoRead (t : Nat) (who : Initiator) (s : State) : Host.Outcome State Fault Refusal :=
  s.run t (fun now d => d.readBack now who (R.SYS_SAFE_TS_LO))

end Sys2Proof.Machine
end

