-- ==== Sys2Proof/Machine/ExecOasisCmd.lean ====
section
/-!
DEFINITION. Machine/ExecOasisCmd.lean: the meanings of the OasisCmd family of commands.
-/

namespace Sys2Proof.Machine

/-- OASIS_WRITE_TRANSFER (R520): A buffered write reaches the Oasis domain at the second 32.768 kHz edge. -/
def execOasisWriteTransfer (t : Nat) (a : Nat) (s : State) : Host.Outcome State Fault Refusal :=
  s.run t (fun _ d => d.oasisTransfer a)

/-- RTC_SET (R522): A write of RTC_SET sets SEC, clears SUB and acc and sets VALID. -/
def execRtcSet (t : Nat) (who : Initiator) (w : Word) (s : State) : Host.Outcome State Fault Refusal :=
  s.run t (fun now d => d.wr now who (R.RTC_SET) (w))

/-- RTC_SECOND (R521): SUB wraps, SEC increments with trim correction and the boundary is timestamped. -/
def execRtcSecond (t : Nat) (s : State) : Host.Outcome State Fault Refusal :=
  s.run t (fun now d => d.rtcSecond now)

/-- RTC_XTAL (R525): No crystal edge for 4 ms moves the calendar to the internal oscillator. -/
def execRtcXtal (t : Nat) (s : State) : Host.Outcome State Fault Refusal :=
  s.run t (fun _ d => d.rtcXtal)

/-- XTAL_RECOVER (R525): 256 consecutive crystal edges return the calendar to the crystal. -/
def execXtalRecover (t : Nat) (s : State) : Host.Outcome State Fault Refusal :=
  s.run t (fun _ d => d.xtalRecover)

/-- RTC_SUB_READ (R523): A read of RTC_SUB latches SEC for the reading initiator. -/
def execRtcSubRead (t : Nat) (who : Initiator) (sub : Fin 32768) (s : State) : Host.Outcome State Fault Refusal :=
  s.run t (fun now d => d.rtcRead now who sub)

/-- RTC_TB_LO_READ (R523): A read of RTC_TB_LO latches RTC_TB_HI and RTC_TB_SEC. -/
def execRtcTbLoRead (t : Nat) (who : Initiator) (s : State) : Host.Outcome State Fault Refusal :=
  s.run t (fun now d => d.readBack now who (R.RTC_TB_LO))

/-- OASIS_RAM_READ (R527): A read of retained RAM returns the word and reports a parity error if found. -/
def execOasisRamRead (t : Nat) (who : Initiator) (w : Fin 64) (bad : Option Nat) (s : State) : Host.Outcome State Fault Refusal :=
  s.run t (fun now d => (d.oasisRamRead w bad).readBack now who (R.OPWR_RAM w))

/-- SENTINEL_TICK (R528): At each sample tick the sentinel samples its inputs and decides events and rotation. -/
def execSentinelTick (t : Nat) (lvl : BitVec 8) (vals : List Nat) (s : State) : Host.Outcome State Fault Refusal :=
  s.run t (fun _ d => d.sentTick lvl vals)

/-- STANDSTILL_CROSSING (R530): A negative-going crossing at the standstill comparator increments TCNT. -/
def execStandstillCrossing (x : Crossing) (s : State) : Host.Outcome State Fault Refusal :=
  s.run x.t (fun _ d => d.standstill x.neg)

/-- SENT_EVT_CLEAR (R530): A W1C of SENT_EVT or WHL_SSC.SSC_EVT clears the shared event bits. -/
def execSentEvtClear (t : Nat) (who : Initiator) (viaWhl : Bool) (n : Fin 8) (bits : Word) (s : State) : Host.Outcome State Fault Refusal :=
  s.run t (fun now d => d.wr now who (if viaWhl then R.WHL_SSC n else R.SENT_EVT) (bits))

/-- VBAT_MEASURE (R518): A VBAT measurement sets or clears the low and critical conditions. -/
def execVbatMeasure (t : Nat) (mv : Nat) (s : State) : Host.Outcome State Fault Refusal :=
  s.run t (fun _ d => d.vbatMeasure mv)

/-- OASIS_SUPPLY_CHANGEOVER (R517): The Oasis domain switches between VDDIO and VBAT. -/
def execOasisSupplyChangeover (t : Nat) (vddio : Bool) (s : State) : Host.Outcome State Fault Refusal :=
  s.run t (fun _ d => d.oasisSource vddio)

/-- OASIS_START (R519): The Oasis domain starts afresh after its supply fell below 1.60 V. -/
def execOasisStart (t : Nat) (s : State) : Host.Outcome State Fault Refusal :=
  s.run t (fun _ d => d.oasisStart)

end Sys2Proof.Machine
end

