-- ==== Sys2Proof/Machine/ExecPages.lean ====
section
/-!
DEFINITION. Machine/ExecPages.lean: the meanings of the Pages family of commands.
-/

namespace Sys2Proof.Machine

/-- PRESET_WRITE (R10): A write of a PRESET field loads every expert field of the function with the preset values and makes MODE read the preset code. -/
def execPresetWrite (t : Nat) (who : Initiator) (a : Nat) (code : Fin 16) (s : State) : Host.Outcome State Fault Refusal :=
  s.run t (fun now d => d.wrField now who ⟨a, 3, 0⟩ code)

/-- PRESET_ALL (R13): A write of PCTL.PRESET_ALL applies every default preset of the page in one handshake. -/
def execPresetAll (t : Nat) (who : Initiator) (page : Fin 256) (s : State) : Host.Outcome State Fault Refusal :=
  s.run t (fun now d => d.wrPctl now who page 3 true)

/-- REGISTER_WRITE (R55): A write to a register that has no row of its own is checked against PACC and PLOCK, then applied field by field. -/
def execRegisterWrite (t : Nat) (who : Initiator) (a : Nat) (v : Word) (s : State) : Host.Outcome State Fault Refusal :=
  s.run t (fun now d => (d.sizedWrite now who a 4 v).1)

/-- WINDOW_WRITE (R44): A write to a memory window is checked against its owner page's PACC and the block's own restrictions, and increments the
owner's PGEN. -/
def execWindowWrite (t : Nat) (who : Initiator) (a : Nat) (size : Nat) (v : Word) (s : State) : Host.Outcome State Fault Refusal :=
  s.run t (fun now d => (d.sizedWrite now who a size v).1)

/-- ENABLE_WRITE (R48): A write of PCTL.ENABLE enables a block or ends its outputs with their safe-end actions and stops new work. -/
def execEnableWrite (t : Nat) (who : Initiator) (page : Fin 256) (on : Bool) (s : State) : Host.Outcome State Fault Refusal :=
  s.run t (fun now d => d.wrPctl now who page 0 on)

/-- FREEZE_WRITE (R50): A write of PCTL.FREEZE halts or releases a block for debug, refused outside CONFIG, SERVICE or a debug halt. -/
def execFreezeWrite (t : Nat) (who : Initiator) (page : Fin 256) (on : Bool) (s : State) : Host.Outcome State Fault Refusal :=
  s.run t (fun now d => d.wrPctl now who page 1 on)

/-- BLOCK_RESTART (R51): A write of 1 to PCTL.RESTART starts a block restart: safe end, handshakes completed or refused, registers to reset values. -/
def execBlockRestart (t : Nat) (who : Initiator) (page : Fin 256) (s : State) : Host.Outcome State Fault Refusal :=
  s.run t (fun now d => d.wrPctl now who page 2 true)

/-- BLOCK_RESTART_DONE (R51): A running block restart completes and RESTARTING and RESTART return to 0. -/
def execBlockRestartDone (t : Nat) (page : Fin 256) (s : State) : Host.Outcome State Fault Refusal :=
  s.run t (fun _ d => d.restartDone page)

/-- SHDW_HOLD_WRITE (R60): A write of PCTL.SHDW_HOLD holds pending RWS writes, or releases them to the next commit point. -/
def execShdwHoldWrite (t : Nat) (who : Initiator) (page : Fin 256) (on : Bool) (s : State) : Host.Outcome State Fault Refusal :=
  s.run t (fun now d => d.wrPctl now who page 4 on)

/-- PIFRC_WRITE (R46): A write of PIFRC sets the same bits of PIRQ. -/
def execPifrcWrite (t : Nat) (who : Initiator) (page : Fin 256) (v : Word) (s : State) : Host.Outcome State Fault Refusal :=
  s.run t (fun now d => d.wr now who (R.PIFRC page) (v))

/-- PIRQ_CLEAR (R53): A W1C write of PIRQ clears interrupt status bits, a simultaneous hardware set winning. -/
def execPirqClear (t : Nat) (who : Initiator) (page : Fin 256) (v : Clearing) (s : State) : Host.Outcome State Fault Refusal :=
  s.run t (fun now d => d.pirqClearMeet now who page v.v v.met)

/-- PLOCK_WRITE (R57): A write of PLOCK advances the two-key unlock sequence or locks the page. -/
def execPlockWrite (t : Nat) (who : Initiator) (page : Fin 256) (v : Word) (s : State) : Host.Outcome State Fault Refusal :=
  s.run t (fun now d => d.wr now who (R.PLOCK page) (v))

end Sys2Proof.Machine
end

