-- ==== Sys2Proof/Machine/ExecPinEngine.lean ====
section
/-!
DEFINITION. Machine/ExecPinEngine.lean: the meanings of the PinEngine family of commands.
-/

namespace Sys2Proof.Machine

/-- GOTO (R345): A pin-engine GOTO jumps to ADDR when its condition holds. -/
def execGoto (t : Nat) (n : Fin 8) (ext : Word) (s : State) : Host.Outcome State Fault Refusal :=
  s.run t (fun now d => d.pioStep now n ext (PioDo.isGoto))

/-- DRIVE (R345): A pin-engine DRIVE sets level or direction latches of masked output pins. -/
def execDrive (t : Nat) (n : Fin 8) (ext : Word) (s : State) : Host.Outcome State Fault Refusal :=
  s.run t (fun now d => d.pioStep now n ext (PioDo.isDrive))

/-- EMIT (R346): A pin-engine EMIT moves N bits out of SEND to the pins or to A. -/
def execEmit (t : Nat) (n : Fin 8) (ext : Word) (s : State) : Host.Outcome State Fault Refusal :=
  s.run t (fun now d => d.pioStep now n ext (PioDo.isEmit))

/-- TAKE (R347): A pin-engine TAKE moves N bits into TAKE from the pin, A, B or zero. -/
def execTake (t : Nat) (n : Fin 8) (ext : Word) (s : State) : Host.Outcome State Fault Refusal :=
  s.run t (fun now d => d.pioStep now n ext (PioDo.isTake))

/-- XFER_FILL (R345): XFER FILL loads SEND from TX. -/
def execXferFill (t : Nat) (n : Fin 8) (ext : Word) (s : State) : Host.Outcome State Fault Refusal :=
  s.run t (fun now d => d.pioStep now n ext (PioDo.isXfer .fill))

/-- XFER_DELIVER (R345): XFER DELIVER moves TAKE to RX. -/
def execXferDeliver (t : Nat) (n : Fin 8) (ext : Word) (s : State) : Host.Outcome State Fault Refusal :=
  s.run t (fun now d => d.pioStep now n ext (PioDo.isXfer .deliver))

/-- XFER_TXA (R345): XFER TXA loads A from TX. -/
def execXferTxa (t : Nat) (n : Fin 8) (ext : Word) (s : State) : Host.Outcome State Fault Refusal :=
  s.run t (fun now d => d.pioStep now n ext (PioDo.isXfer .txa))

/-- XFER_ARX (R345): XFER ARX moves A to RX. -/
def execXferArx (t : Nat) (n : Fin 8) (ext : Word) (s : State) : Host.Outcome State Fault Refusal :=
  s.run t (fun now d => d.pioStep now n ext (PioDo.isXfer .arx))

/-- CALC_ADD_IMM_A (R345): CALC FN 0 adds a signed immediate to A. -/
def execCalcAddImmA (t : Nat) (n : Fin 8) (ext : Word) (s : State) : Host.Outcome State Fault Refusal :=
  s.run t (fun now d => d.pioStep now n ext (PioDo.isCalc .addImmA))

/-- CALC_ADD_IMM_B (R345): CALC FN 1 adds a signed immediate to B. -/
def execCalcAddImmB (t : Nat) (n : Fin 8) (ext : Word) (s : State) : Host.Outcome State Fault Refusal :=
  s.run t (fun now d => d.pioStep now n ext (PioDo.isCalc .addImmB))

/-- CALC_ADD (R345): CALC FN 2 sets A to A + B. -/
def execCalcAdd (t : Nat) (n : Fin 8) (ext : Word) (s : State) : Host.Outcome State Fault Refusal :=
  s.run t (fun now d => d.pioStep now n ext (PioDo.isCalc .add))

/-- CALC_SUB (R345): CALC FN 3 sets A to A − B. -/
def execCalcSub (t : Nat) (n : Fin 8) (ext : Word) (s : State) : Host.Outcome State Fault Refusal :=
  s.run t (fun now d => d.pioStep now n ext (PioDo.isCalc .sub))

/-- CALC_AND (R345): CALC FN 4 sets A to A AND B. -/
def execCalcAnd (t : Nat) (n : Fin 8) (ext : Word) (s : State) : Host.Outcome State Fault Refusal :=
  s.run t (fun now d => d.pioStep now n ext (PioDo.isCalc .band))

/-- CALC_XOR (R345): CALC FN 5 sets A to A XOR B. -/
def execCalcXor (t : Nat) (n : Fin 8) (ext : Word) (s : State) : Host.Outcome State Fault Refusal :=
  s.run t (fun now d => d.pioStep now n ext (PioDo.isCalc .bxor))

/-- CALC_SHR (R345): CALC FN 6 shifts A right by S. -/
def execCalcShr (t : Nat) (n : Fin 8) (ext : Word) (s : State) : Host.Outcome State Fault Refusal :=
  s.run t (fun now d => d.pioStep now n ext (PioDo.isCalc .shr))

/-- CALC_SHL (R345): CALC FN 7 shifts A left by S. -/
def execCalcShl (t : Nat) (n : Fin 8) (ext : Word) (s : State) : Host.Outcome State Fault Refusal :=
  s.run t (fun now d => d.pioStep now n ext (PioDo.isCalc .shl))

/-- MOVE (R345): A pin-engine MOVE copies a source to a destination register, pins or PC. -/
def execMove (t : Nat) (n : Fin 8) (ext : Word) (s : State) : Host.Outcome State Fault Refusal :=
  s.run t (fun now d => d.pioStep now n ext (PioDo.isMove))

/-- TICKS (R345): A pin-engine TICKS occupies n + 1 steps. -/
def execTicks (t : Nat) (n : Fin 8) (ext : Word) (s : State) : Host.Outcome State Fault Refusal :=
  s.run t (fun now d => d.pioStep now n ext (PioDo.isTicks))

/-- AWAIT (R348): A pin-engine AWAIT holds until its input or trigger event, optionally capturing the step count. -/
def execAwait (t : Nat) (n : Fin 8) (ext : Word) (s : State) : Host.Outcome State Fault Refusal :=
  s.run t (fun now d => d.pioStep now n ext (PioDo.isAwait))

/-- SIGNAL (R345): A pin-engine SIGNAL sets the FLAG interrupt and/or pulses its trigger source. -/
def execSignal (t : Nat) (n : Fin 8) (ext : Word) (s : State) : Host.Outcome State Fault Refusal :=
  s.run t (fun now d => d.pioStep now n ext (PioDo.isSignal))

/-- STOP (R349): A pin-engine STOP halts the engine with cause PROGRAM. -/
def execStop (t : Nat) (n : Fin 8) (ext : Word) (s : State) : Host.Outcome State Fault Refusal :=
  s.run t (fun now d => d.pioStep now n ext (PioDo.isStop))

/-- REVA (R345): A pin-engine REVA reverses the bit order of A. -/
def execReva (t : Nat) (n : Fin 8) (ext : Word) (s : State) : Host.Outcome State Fault Refusal :=
  s.run t (fun now d => d.pioStep now n ext (PioDo.isReva))

/-- NOTA (R345): A pin-engine NOTA inverts A. -/
def execNota (t : Nat) (n : Fin 8) (ext : Word) (s : State) : Host.Outcome State Fault Refusal :=
  s.run t (fun now d => d.pioStep now n ext (PioDo.isNota))

/-- PIO_ILLEGAL (R349): An illegal instruction halts the engine with cause ILLEGAL without executing it. -/
def execPioIllegal (t : Nat) (n : Fin 8) (ext : Word) (s : State) : Host.Outcome State Fault Refusal :=
  s.run t (fun now d => d.pioStep now n ext (PioDo.isIllegal))

/-- PIO_STEP_CONTINUE (R342): At a step time a multi-step instruction runs its next step. -/
def execPioStepContinue (t : Nat) (n : Fin 8) (ext : Word) (s : State) : Host.Outcome State Fault Refusal :=
  s.run t (fun now d => d.pioStep now n ext PioDo.isMore)

/-- DELIVERY_RESUME (R350): A pending automatic delivery completes at the first step with RX empty. -/
def execDeliveryResume (t : Nat) (n : Fin 8) (ext : Word) (s : State) : Host.Outcome State Fault Refusal :=
  s.run t (fun now d => d.pioStep now n ext PioDo.isDelivery)

/-- PIO_TX_WRITE (R351): A write of PIO_TX fills TX or overflows. -/
def execPioTxWrite (t : Nat) (who : Initiator) (n : Fin 8) (w : Word) (s : State) : Host.Outcome State Fault Refusal :=
  s.run t (fun now d => d.wr now who (R.PIO_TX n) (w))

/-- PIO_RX_READ (R351): A read of PIO_RX returns and empties RX or underflows. -/
def execPioRxRead (t : Nat) (who : Initiator) (n : Fin 8) (s : State) : Host.Outcome State Fault Refusal :=
  s.run t (fun now d => d.readBack now who (R.PIO_RX n))

/-- PIO_HALT (R352): A write of PIO_CTL.HALT halts the engine at its next step keeping its state. -/
def execPioHalt (t : Nat) (who : Initiator) (n : Fin 8) (s : State) : Host.Outcome State Fault Refusal :=
  s.run t (fun now d => d.wrBits now who (R.PIO_CTL n) 1)

/-- PIO_RESUME (R353): A write of PIO_CTL.RESUME continues a halted engine when the program is unchanged, else is refused. -/
def execPioResume (t : Nat) (who : Initiator) (n : Fin 8) (s : State) : Host.Outcome State Fault Refusal :=
  s.run t (fun now d => d.wrBits now who (R.PIO_CTL n) 2)

/-- PIO_RESTART (R353): A write of PIO_CTL.RESTART clears the shifters, restarts the divider and starts at ENTRY. -/
def execPioRestart (t : Nat) (who : Initiator) (n : Fin 8) (s : State) : Host.Outcome State Fault Refusal :=
  s.run t (fun now d => d.wrBits now who (R.PIO_CTL n) 4)

/-- PIO_CLR (R358): A write of PIO_CTL.CLR sets PIO_CNT to 0. -/
def execPioClr (t : Nat) (who : Initiator) (n : Fin 8) (s : State) : Host.Outcome State Fault Refusal :=
  s.run t (fun now d => d.wrBits now who (R.PIO_CTL n) 8)

/-- PROGRAM_WRITE (R344): A write to pin-engine program memory or registers is accepted only while HALTED. -/
def execProgramWrite (t : Nat) (who : Initiator) (n : Fin 8) (idx : Fin 37) (w : Word) (s : State) : Host.Outcome State Fault Refusal :=
  s.run t (fun now d => d.wr now who (pioProgAddr n idx) (w))

/-- PIOG_START (R354): A write of PIOG_START restarts the masked engines with one common t0 or is refused. -/
def execPiogStart (t : Nat) (who : Initiator) (mask : BitVec 8) (s : State) : Host.Outcome State Fault Refusal :=
  s.run t (fun now d => d.wr now who (R.PIOG_START) (mask.setWidth 32))

/-- PIOG_HALT (R354): A write of PIOG_HALT halts each masked engine. -/
def execPiogHalt (t : Nat) (who : Initiator) (mask : BitVec 8) (s : State) : Host.Outcome State Fault Refusal :=
  s.run t (fun now d => d.wr now who (R.PIOG_HALT) (mask.setWidth 32))

/-- PIOG_RESUME (R354): A write of PIOG_RESUME resumes each masked engine on its own. -/
def execPiogResume (t : Nat) (who : Initiator) (mask : BitVec 8) (s : State) : Host.Outcome State Fault Refusal :=
  s.run t (fun now d => d.wr now who (R.PIOG_RESUME) (mask.setWidth 32))

/-- PIOG_DSYNC (R354): A write of PIOG_DSYNC halts running masked engines and continues them at one common t0. -/
def execPiogDsync (t : Nat) (who : Initiator) (mask : BitVec 8) (s : State) : Host.Outcome State Fault Refusal :=
  s.run t (fun now d => d.wr now who (R.PIOG_DSYNC) (mask.setWidth 32))

end Sys2Proof.Machine
end

