-- ==== Sys2Proof/Machine/ExecSampling.lean ====
section
/-!
DEFINITION. Machine/ExecSampling.lean: the meanings of the Sampling family of commands.
-/

namespace Sys2Proof.Machine

/-- APERTURE_OPEN (R276): A free converter opens the aperture for the selected queued request at its target time. -/
def execApertureOpen (t : Nat) (k : Fin 8) (s : State) : Host.Outcome State Fault Refusal :=
  s.run t (fun now d => d.apertureOpen now k)

/-- CONVERSION_DONE (R274): A conversion completes and its value is passed to its consumer. -/
def execConversionDone (t : Nat) (k : Fin 8) (uv : Int) (s : State) : Host.Outcome State Fault Refusal :=
  s.run t (fun now d => d.conversionDone now k uv)

/-- BUSY_INTERVAL_END (R274): A converter's busy interval T_BUSY ends. BUSY clears, and with the queue empty the ADC RWS fields commit. -/
def execBusyIntervalEnd (t : Nat) (k : Fin 8) (s : State) : Host.Outcome State Fault Refusal :=
  s.run t (fun now d => d.busyEnds now k)

/-- ADC_SW_GO (R275): A write of ADC_SW.GO submits a software conversion request. -/
def execAdcSwGo (t : Nat) (who : Initiator) (k : Fin 8) (inp : Fin 64) (s : State) : Host.Outcome State Fault Refusal :=
  s.run t (fun now d => d.wr now who (R.ADC_SW k) (w32 (0x80000000 + inp)))

/-- ADC_SWRES_READ (R298): A read of ADC_SWRES latches the software result's aperture time. -/
def execAdcSwresRead (t : Nat) (who : Initiator) (k : Fin 8) (s : State) : Host.Outcome State Fault Refusal :=
  s.run t (fun now d => d.readBack now who (R.ADC_SWRES k))

/-- ADC_CLR (R298): A write of ADC_CTL.CLR sets the converter counters to 0. -/
def execAdcClr (t : Nat) (who : Initiator) (k : Fin 8) (s : State) : Host.Outcome State Fault Refusal :=
  s.run t (fun now d => d.wrBits now who (R.ADC_CTL k) 1)

/-- RUN_ENABLE_WRITE (R280): A write of SMPL_DOMd_RUN.EN validates descriptors and enables or disables runs. -/
def execRunEnableWrite (t : Nat) (who : Initiator) (k : Fin 2) (w : Word) (s : State) : Host.Outcome State Fault Refusal :=
  s.run t (fun now d => d.wr now who (R.SMPL_DOM_RUN k) (w))

/-- SAMPLE_COMMIT (R282): A run's next sample entering the commit window becomes a TABLE request. -/
def execSampleCommit (t : Nat) (k : Fin 2) (r : Fin 16) (s : State) : Host.Outcome State Fault Refusal :=
  s.run t (fun now d => d.sampleCheck now k r)

/-- SMPL_CLR (R299): A write of SMPL_CTL.CLR sets the sampling counters to 0. -/
def execSmplClr (t : Nat) (who : Initiator) (s : State) : Host.Outcome State Fault Refusal :=
  s.run t (fun now d => d.wrBits now who (R.SMPL_CTL) 1)

/-- KNOCK_WINDOW_OPEN (R290): A knock window opens at its committed angle and starts its sample grid. -/
def execKnockWindowOpen (t : Nat) (w : Fin 32) (s : State) : Host.Outcome State Fault Refusal :=
  s.run t (fun now d => d.knkOpen now w)

/-- KNOCK_WINDOW_CLOSE (R294): A knock window closes at its committed angle or on passing, abort or disable. -/
def execKnockWindowClose (t : Nat) (c : Fin 8) (s : State) : Host.Outcome State Fault Refusal :=
  s.run t (fun now d => d.knkClose now c)

/-- KNK_CLR (R300): A write of KNK_CTL.CLR sets the knock counters to 0. -/
def execKnkClr (t : Nat) (who : Initiator) (s : State) : Host.Outcome State Fault Refusal :=
  s.run t (fun now d => d.wrBits now who (R.KNK_CTL) 1)

/-- CYLINDER_ENABLE_WRITE (R303): A write of CMB_CYLEN validates and allocates or ends cylinders. -/
def execCylinderEnableWrite (t : Nat) (who : Initiator) (w : Word) (s : State) : Host.Outcome State Fault Refusal :=
  s.run t (fun now d => d.wr now who (R.CMB_CYLEN) (w))

/-- CMB_INSP_SEL_WRITE (R319): A write of CMB_INSP_SEL latches the cylinder's inspection registers. -/
def execCmbInspSelWrite (t : Nat) (who : Initiator) (w : Word) (s : State) : Host.Outcome State Fault Refusal :=
  s.run t (fun now d => d.wr now who (R.CMB_INSP_SEL) (w))

/-- CMB_CLR (R319): A write of CMB_CTL.CLR sets the combustion counters to 0. -/
def execCmbClr (t : Nat) (who : Initiator) (s : State) : Host.Outcome State Fault Refusal :=
  s.run t (fun now d => d.wrBits now who (R.CMB_CTL) 1)

/-- TRIM_ZERO (R320): A write of TRIM_ZERO sets the selected link offsets to 0 and sends them as updates. -/
def execTrimZero (t : Nat) (who : Initiator) (hi : Bool) (w : Word) (s : State) : Host.Outcome State Fault Refusal :=
  s.run t (fun now d => d.wr now who (if hi then R.TRIM_ZERO_HI else R.TRIM_ZERO_LO) (w))

/-- TRIM_CLR (R320): A write of TRIM_CTL.CLR sets every link counter to 0. -/
def execTrimClr (t : Nat) (who : Initiator) (s : State) : Host.Outcome State Fault Refusal :=
  s.run t (fun now d => d.wrBits now who (R.TRIM_CTL) 1)

end Sys2Proof.Machine
end

