-- ==== Sys2Proof/Machine/ExecSecurity.lean ====
section
/-!
DEFINITION. Machine/ExecSecurity.lean: the meanings of the Security family of commands.
-/

namespace Sys2Proof.Machine

/-- CHALLENGE (R490): SEC CHALLENGE produces a new 128-bit challenge. -/
def execChallenge (t : Nat) (who : Initiator) (fmt : Bool) (sig : Bool) (s : State) : Host.Outcome State Fault Refusal :=
  s.run t (fun now d => d.secCommand now who 1 fmt sig)

/-- QUOTE (R493): SEC QUOTE writes a signed attestation quote with the given nonce. -/
def execQuote (t : Nat) (who : Initiator) (fmt : Bool) (sig : Bool) (s : State) : Host.Outcome State Fault Refusal :=
  s.run t (fun now d => d.secCommand now who 2 fmt sig)

/-- ENROLL (R489): SEC ENROLL stores an owner key and enters OWNED. -/
def execEnroll (t : Nat) (who : Initiator) (fmt : Bool) (sig : Bool) (s : State) : Host.Outcome State Fault Refusal :=
  s.run t (fun now d => d.secCommand now who 3 fmt sig)

/-- ENDORSE (R491): SEC ENDORSE verifies and stores the owner's endorsement. -/
def execEndorse (t : Nat) (who : Initiator) (fmt : Bool) (sig : Bool) (s : State) : Host.Outcome State Fault Refusal :=
  s.run t (fun now d => d.secCommand now who 4 fmt sig)

/-- LOCK (R489): SEC LOCK moves OWNED to LOCKED on a signed command. -/
def execLock (t : Nat) (who : Initiator) (fmt : Bool) (sig : Bool) (s : State) : Host.Outcome State Fault Refusal :=
  s.run t (fun now d => d.secCommand now who 5 fmt sig)

/-- UNLOCK (R489): SEC UNLOCK moves LOCKED to OWNED on a signed command. -/
def execUnlock (t : Nat) (who : Initiator) (fmt : Bool) (sig : Bool) (s : State) : Host.Outcome State Fault Refusal :=
  s.run t (fun now d => d.secCommand now who 6 fmt sig)

/-- DECOMMISSION (R485): SEC DECOMMISSION erases keys, enters DECOMMISSIONED and restarts SUP. -/
def execDecommission (t : Nat) (who : Initiator) (fmt : Bool) (sig : Bool) (s : State) : Host.Outcome State Fault Refusal :=
  s.run t (fun now d => d.secCommand now who 7 fmt sig)

/-- STAGE_BEGIN (R500): Staging BEGIN invalidates the inactive slot and opens a staging. -/
def execStageBegin (t : Nat) (who : Initiator) (kind : Fin 4) (s : State) : Host.Outcome State Fault Refusal :=
  s.run t (fun now d => d.wr now who (R.UPD_STAGE) (w32 (0x55000000 + kind)))

/-- STAGE_WRITE (R500): Staging WRITE copies bytes from shared SRAM into the slot. -/
def execStageWrite (t : Nat) (who : Initiator) (kind : Fin 4) (rep : Fin 4) (fail : Bool) (s : State) : Host.Outcome State Fault Refusal :=
  s.run t (fun now d => d.gated now who R.UPD_STAGE (w32 (0x55000100 + kind)) (fun d => d.stageWrite kind rep fail))

/-- STAGE_FINISH (R500): Staging FINISH verifies the slot and sets STAGED. -/
def execStageFinish (t : Nat) (who : Initiator) (kind : Fin 4) (sig : Bool) (fail : Bool) (s : State) : Host.Outcome State Fault Refusal :=
  s.run t (fun now d => d.gated now who R.UPD_STAGE (w32 (0x55000200 + kind)) (fun d => d.stageFinish kind sig fail))

/-- STAGE_ABORT (R500): Staging ABORT closes the staging and leaves the slot invalid. -/
def execStageAbort (t : Nat) (who : Initiator) (kind : Fin 4) (s : State) : Host.Outcome State Fault Refusal :=
  s.run t (fun now d => d.wr now who (R.UPD_STAGE) (w32 (0x55000300 + kind)))

/-- ACTIVATE (R501): A write of UPD_ACT checks and accepts or refuses an activation. -/
def execActivate (t : Nat) (who : Initiator) (mask : BitVec 4) (s : State) : Host.Outcome State Fault Refusal :=
  s.run t (fun now d => d.wr now who (R.UPD_ACT) (w32 (0x41000000 + mask.toNat)))

/-- ACTIVATION_DONE (R503): An accepted activation completes its steps, switches slots and sets DONE. -/
def execActivationDone (t : Nat) (sig : BitVec 4) (sup : Bool) (s : State) : Host.Outcome State Fault Refusal :=
  s.run t (fun now d => d.activationDone now sig sup)

/-- CONFIRM (R507): A write of UPD_CTL.CONFIRM ends a trial and raises the rollback counter. -/
def execConfirm (t : Nat) (who : Initiator) (mask : BitVec 4) (s : State) : Host.Outcome State Fault Refusal :=
  s.run t (fun now d => d.wr now who (R.UPD_CTL) (w32 mask.toNat))

/-- REVERT (R507): A write of UPD_CTL.REVERT reactivates the previous slot of a kind. -/
def execRevert (t : Nat) (who : Initiator) (mask : BitVec 4) (s : State) : Host.Outcome State Fault Refusal :=
  s.run t (fun now d => d.wr now who (R.UPD_CTL) (w32 (mask.toNat * 256)))

/-- MRAM_DIRECT_WRITE (R511): A write of MRAMC_WDHI starts a direct 64-bit MRAM word write. -/
def execMramDirectWrite (t : Nat) (who : Initiator) (w : Word) (s : State) : Host.Outcome State Fault Refusal :=
  s.run t (fun now d => d.wr now who (R.MRAMC_WDHI) (w))

/-- MRAM_WRITE_DONE (R508): An MRAM word write completes after read-back and repetitions. -/
def execMramWriteDone (t : Nat) (rep : Fin 4) (fail : Bool) (s : State) : Host.Outcome State Fault Refusal :=
  s.run t (fun _ d => d.mramDone rep fail)

/-- LOG_APPEND (R512): A write of MRAMC_LAPP starts appending a 32-byte record to the log store. -/
def execLogAppend (t : Nat) (who : Initiator) (src : Word) (s : State) : Host.Outcome State Fault Refusal :=
  s.run t (fun now d => d.wr now who (R.MRAMC_LAPP) (src))

/-- LOG_APPEND_DONE (R512): A log append completes and LHEAD increments. -/
def execLogAppendDone (t : Nat) (rep : Fin 4) (fail : Bool) (s : State) : Host.Outcome State Fault Refusal :=
  s.run t (fun _ d => d.logDone rep fail)

/-- MRAMC_CLR (R516): A write of MRAMC_CTL.CLR sets MRAMC_CNT to 0. -/
def execMramcClr (t : Nat) (who : Initiator) (s : State) : Host.Outcome State Fault Refusal :=
  s.run t (fun now d => d.wrBits now who (R.MRAMC_CTL) 1)

/-- RANDOM_GENERATOR_HEALTH_TEST (R513): The SEC random generator fails, or again passes, its health test. On failure it reports SEC_RNG, and commands
that need it give FORMAT until it passes. -/
def execRandomGeneratorHealthTest (t : Nat) (pass : Bool) (s : State) : Host.Outcome State Fault Refusal :=
  s.run t (fun _ d => d.rngTest pass)

end Sys2Proof.Machine
end

