-- ==== Sys2Proof/Machine/ExecTimebase.lean ====
section
/-!
DEFINITION. Machine/ExecTimebase.lean: the meanings of the Timebase family of commands.
-/

namespace Sys2Proof.Machine

/-- TB_NOW_LO_READ (R29): A read of TB_NOW_LO returns count bits [31:0] and latches bits [63:32] for the reading initiator. -/
def execTbNowLoRead (t : Nat) (who : Initiator) (s : State) : Host.Outcome State Fault Refusal :=
  s.run t (fun now d => d.readBack now who (R.TB_NOW_LO))

/-- STAGE_METER_WINDOW (R17): At the end of each 10.24 µs window the stage meter writes a stage time and applies pending settings. -/
def execStageMeterWindow (t : Nat) (stage : Nat) (mv : Nat) (s : State) : Host.Outcome State Fault Refusal :=
  s.run t (fun now d => d.stageWindow now stage mv)

/-- STGM_CLR (R18): A write of SYS_STGM_CTL.CLR resets MIN and MAX at the next window end. -/
def execStgmClr (t : Nat) (who : Initiator) (s : State) : Host.Outcome State Fault Refusal :=
  s.run t (fun now d => d.wrBits now who (R.SYS_STGM_CTL) 1)

/-- VDDC_UNDERSPEC (R21): VDDC falling below 0.72 V sets UNDERSPEC and reports VDDC_LOW. -/
def execVddcUnderspec (t : Nat) (mv : Nat) (s : State) : Host.Outcome State Fault Refusal :=
  s.run t (fun _ d => d.vddcFall mv)

/-- VDDC_RECOVER (R21): VDDC rising back through a threshold plus hysteresis clears the corresponding condition. -/
def execVddcRecover (t : Nat) (mv : Nat) (s : State) : Host.Outcome State Fault Refusal :=
  s.run t (fun now d => d.vddcRecover now mv)

/-- BROWNOUT (R21): VDDC falling through 0.65 V reports BROWNOUT, sets SYS_VMON.BROWNOUT and enters SAFE. -/
def execBrownout (t : Nat) (s : State) : Host.Outcome State Fault Refusal :=
  s.run t (fun now d => d.brownout now)

/-- VDDC_COLLAPSE (R23): VDDC below 0.62 V makes the analog die force all outputs off and the device return through power-on. -/
def execVddcCollapse (t : Nat) (mv : Nat) (s : State) : Host.Outcome State Fault Refusal :=
  s.runAt t (fun now d => (d.collapse mv, if mv < 620 then 0 else now))

/-- REFERENCE_LOSS (R26): No reference edge within 256 stages declares reference loss, enters holdover and reports REF_LOSS. -/
def execReferenceLoss (t : Nat) (s : State) : Host.Outcome State Fault Refusal :=
  s.run t (fun _ d => d.referenceLoss)

/-- REFERENCE_RELOCK (R26): The calibrator relocks on resumed reference edges and reconciles the count by stepping forward or slewing. -/
def execReferenceRelock (t : Nat) (span : BitVec 16) (s : State) : Host.Outcome State Fault Refusal :=
  s.runAt t (fun now d => d.relock now span.toNat)

/-- SLEW_END (R26): The reference-implied count catches up with the slewed count and SLEW returns to 0. -/
def execSlewEnd (t : Nat) (s : State) : Host.Outcome State Fault Refusal :=
  s.run t (fun now d => d.slewEnd now)

/-- REFSEL_WRITE (R31): A change of TB_CTL.REFSEL in CONFIG or SERVICE is handled as a loss followed by relock on the new source. -/
def execRefselWrite (t : Nat) (who : Initiator) (v : Fin 2) (s : State) : Host.Outcome State Fault Refusal :=
  s.run t (fun now d => d.wrField now who F.TB_CTL_REFSEL v)

/-- REFSEL_RELOCK_TIMEOUT (R31): A new reference source that has not relocked 10 ms after the change is declared a reference loss. -/
def execRefselRelockTimeout (t : Nat) (s : State) : Host.Outcome State Fault Refusal :=
  s.run t (fun now d => d.refselTimeout now)

/-- CORE_SUPPLY_GOOD (R477): All supplies and PORn reaching good start boot. -/
def execCoreSupplyGood (t : Nat) (pinLow : Bool) (vbat : Bool) (s : State) : Host.Outcome State Fault Refusal :=
  s.run t (fun now d => d.supplyGood now pinLow vbat)

/-- PORN_LOW (R478): PORn held low returns the digital die to power-on. -/
def execPornLow (t : Nat) (ns : Nat) (s : State) : Host.Outcome State Fault Refusal :=
  s.runAt t (fun now d => (d.pornLow ns, if d.pornTaken ns then 0 else now))

/-- CALIBRATOR_FIRST_LOCK (R27): The calibrator first locks after power-on, and the timebase count starts at 0 at the next reference edge. -/
def execCalibratorFirstLock (t : Nat) (span : BitVec 16) (s : State) : Host.Outcome State Fault Refusal :=
  s.runAt t (fun now d => (let q := d.firstLock span.toNat; (q.1, if q.2 then 0 else now)))

/-- VDDA_LOW (R452): VDDA stays below 4.60 V for 10 µs, or leaves that condition, and source 0x0E3 reports VDDA_LOW once per entry. -/
def execVddaLow (t : Nat) (low : Bool) (mv : Nat) (s : State) : Host.Outcome State Fault Refusal :=
  s.run t (fun _ d => d.vddaEvent low mv)

/-- VB_LOW (R452): VB stays below 5.50 V for 10 µs, or leaves that condition, and source 0x0E3 reports VB_LOW once per entry. -/
def execVbLow (t : Nat) (low : Bool) (mv : Nat) (s : State) : Host.Outcome State Fault Refusal :=
  s.run t (fun _ d => d.vbEvent low mv)

/-- D2D_COMMAND_FAIL (R452): A die-to-die command fails its check code and is repeated. The retry ends in D2D_CE, or in D2D_UE with the analog die
holding its outputs at safe end until a command passes again. -/
def execD2dCommandFail (t : Nat) (chan : Fin 104) (passed : Bool) (s : State) : Host.Outcome State Fault Refusal :=
  s.run t (fun now d => d.d2dFail now chan passed)

end Sys2Proof.Machine
end

