-- ==== Sys2Proof/Machine/ExecTimer.lean ====
section
/-!
DEFINITION. Machine/ExecTimer.lean: the meanings of the Timer family of commands.
-/

namespace Sys2Proof.Machine

/-- TIMER_TICK (R323): A timer tick decrements or reloads the count and produces wrap and match events. -/
def execTimerTick (t : Nat) (k : Fin 32) (s : State) : Host.Outcome State Fault Refusal :=
  s.run t (fun now d => d.timerTick now k)

/-- RELOAD_WRITE (R325): A write of TMR_RELOAD fills the period buffer and may force a wrap. -/
def execReloadWrite (t : Nat) (who : Initiator) (k : Fin 32) (w : Word) (s : State) : Host.Outcome State Fault Refusal :=
  s.run t (fun now d => d.wr now who (R.TMR_RELOAD k) (w))

/-- COMPARE_WRITE (R326): A write of TMR_COMPARE fills the preload and, in immediate mode, sets the active compare and IMM_RES. -/
def execCompareWrite (t : Nat) (who : Initiator) (k : Fin 32) (w : Word) (s : State) : Host.Outcome State Fault Refusal :=
  s.run t (fun now d => d.wr now who (R.TMR_COMPARE k) (w))

/-- TIMER_RUN (R328): A write of RUN = 1 schedules a stopped channel's start tick. -/
def execTimerRun (t : Nat) (who : Initiator) (k : Fin 32) (s : State) : Host.Outcome State Fault Refusal :=
  s.run t (fun now d => d.wrField now who (F.TMR_CTL_RUN k) 1)

/-- TIMER_STOP (R328): A write of RUN = 0 stops the channel at its next tick decision. -/
def execTimerStop (t : Nat) (who : Initiator) (k : Fin 32) (s : State) : Host.Outcome State Fault Refusal :=
  s.run t (fun now d => d.wrField now who (F.TMR_CTL_RUN k) 0)

/-- TIMER_FWRAP (R328): A write of TMR_CTL.FWRAP makes the next decided tick a forced wrap. -/
def execTimerFwrap (t : Nat) (who : Initiator) (k : Fin 32) (s : State) : Host.Outcome State Fault Refusal :=
  s.run t (fun now d => d.wrBits now who (R.TMR_CTL k) 2)

/-- TIMER_CLR (R338): A write of TMR_CTL.CLR sets the channel counters to 0. -/
def execTimerClr (t : Nat) (who : Initiator) (k : Fin 32) (s : State) : Host.Outcome State Fault Refusal :=
  s.run t (fun now d => d.wrBits now who (R.TMR_CTL k) 4)

/-- START_TICK (R328): At the start tick the prescaler restarts, the count loads and a wrap event occurs. -/
def execStartTick (t : Nat) (k : Fin 32) (s : State) : Host.Outcome State Fault Refusal :=
  s.run t (fun now d => d.startTick now k)

/-- TIMER_TRIGGER (R329): A trigger accepted on a timer acts by TRIG_ACT. -/
def execTimerTrigger (t : Nat) (k : Fin 32) (s : State) : Host.Outcome State Fault Refusal :=
  s.run t (fun now d => d.timerTrigger now k)

/-- GROUP_START (R333): A write of TMR_GRPg_CTL.START starts the group's members with staggered offsets or is refused. -/
def execGroupStart (t : Nat) (who : Initiator) (g : Fin 8) (s : State) : Host.Outcome State Fault Refusal :=
  s.run t (fun now d => d.wr now who (R.TMR_GRP_CTL g) (1))

/-- GROUP_STOP (R333): A write of TMR_GRPg_CTL.STOP stops every member at one tick decision. -/
def execGroupStop (t : Nat) (who : Initiator) (g : Fin 8) (s : State) : Host.Outcome State Fault Refusal :=
  s.run t (fun now d => d.wr now who (R.TMR_GRP_CTL g) (2))

/-- TMR_WRAP_LO_READ (R338): A read of TMR_WRAP_LO latches TMR_WRAP_HI for the reading initiator. -/
def execTmrWrapLoRead (t : Nat) (who : Initiator) (k : Fin 32) (s : State) : Host.Outcome State Fault Refusal :=
  s.run t (fun now d => d.readBack now who (R.TMR_WRAP_LO k))

end Sys2Proof.Machine
end

