-- ==== Sys2Proof/Machine/ExecWheel.lean ====
section
/-!
DEFINITION. Machine/ExecWheel.lean: the meanings of the Wheel family of commands.
-/

namespace Sys2Proof.Machine

/-- WHEEL_TRANSITION (R79): A comparator transition at a wheel input is timestamped and enters the glitch filter. -/
def execWheelTransition (t : Nat) (n : Fin 8) (pin : Bool) (peak : Nat) (frac : Fin 65536) (s : State) : Host.Outcome State Fault Refusal :=
  s.run t (fun now d => d.wheelTransition now n pin (peak * 65536 + frac))

/-- WHEEL_EDGE_CONFIRM (R80): The glitch filter confirms a transition, which is qualified and, when accepted, runs the tooth path through tracker,
predictor and lead set. -/
def execWheelEdgeConfirm (t : Nat) (n : Fin 8) (dip : Nat) (u : Upsets) (cur : Nat) (s : State) : Host.Outcome State Fault Refusal :=
  s.run t (fun now d => (let q := d.wheelConfirm now n dip u.up u.par cur; (q.1.edgeMoves d now n).originateAll now q.2))

/-- PWDIR_CLASSIFY (R77): A PWDIR pulse is classified at its trailing edge or when its width passes PW_THR and its tooth delivered. -/
def execPwdirClassify (t : Nat) (n : Fin 8) (up : Bool) (par : Fin 3) (cur : Nat) (s : State) : Host.Outcome State Fault Refusal :=
  s.run t (fun now d => (let q := d.pwdirClassify now n up par cur; q.1.originateAll now q.2))

/-- HOLDING_QUEUE_DELIVER (R86): Edges held while the tracker was frozen or restarting are delivered in timestamp order when it resumes. -/
def execHoldingQueueDeliver (t : Nat) (k : Fin 2) (s : State) : Host.Outcome State Fault Refusal :=
  s.run t (fun now d => (let q := d.holdingDeliver now k; q.1.originateAll now q.2))

/-- WHL_COMMIT_TIMEOUT (R89): Pending WHL RWS writes commit when no edge has been accepted for 10 ms. -/
def execWhlCommitTimeout (t : Nat) (n : Fin 8) (s : State) : Host.Outcome State Fault Refusal :=
  s.run t (fun now d => d.whlCommitTimeout now n)

/-- WHL_OPEN (R93): A DC differential voltage above 0.60 V for 50 ms sets SENS_OPEN and reports WHL_OPEN. -/
def execWhlOpen (t : Nat) (n : Fin 8) (s : State) : Host.Outcome State Fault Refusal :=
  s.run t (fun _ d => d.sensorFault n false)

/-- WHL_SHORT (R93): A common-mode voltage near a rail for 50 ms sets SENS_SHORT and reports WHL_SHORT. -/
def execWhlShort (t : Nat) (n : Fin 8) (s : State) : Host.Outcome State Fault Refusal :=
  s.run t (fun _ d => d.sensorFault n true)

/-- SENSOR_CLEAR (R93): A sensor condition absent for 50 ms returns its status bit to 0. -/
def execSensorClear (t : Nat) (n : Fin 8) (short : Bool) (s : State) : Host.Outcome State Fault Refusal :=
  s.run t (fun _ d => d.sensorClear n short)

/-- WHL_LAST_LO_READ (R92): A read of WHL_LAST_LO latches WHL_LAST_HI and WHL_RATIO for the reading initiator. -/
def execWhlLastLoRead (t : Nat) (who : Initiator) (n : Fin 8) (s : State) : Host.Outcome State Fault Refusal :=
  s.run t (fun now d => d.readBack now who (R.WHL_LAST_LO n))

/-- WHL_CLR (R92): A write of WHL_CLR.CNT sets the wheel counters to 0. -/
def execWhlClr (t : Nat) (who : Initiator) (n : Fin 8) (s : State) : Host.Outcome State Fault Refusal :=
  s.run t (fun now d => d.wrBits now who (R.WHL_CLR n) 1)

end Sys2Proof.Machine
end

