-- ==== Sys2Proof/Machine/Dispatch.lean ====
section
/-! DEFINITION. Machine/Dispatch.lean: the meaning of every command, one arm each. -/

namespace Sys2Proof.Machine

def exec (i : Instr) (s : State) : Host.Outcome State Fault Refusal :=
  match i with
  | .presetWrite t who a code => Sys2Proof.Machine.execPresetWrite t who a code s
  | .presetAll t who page => Sys2Proof.Machine.execPresetAll t who page s
  | .registerWrite t who a v => Sys2Proof.Machine.execRegisterWrite t who a v s
  | .windowWrite t who a size v => Sys2Proof.Machine.execWindowWrite t who a size v s
  | .enableWrite t who page on => Sys2Proof.Machine.execEnableWrite t who page on s
  | .freezeWrite t who page on => Sys2Proof.Machine.execFreezeWrite t who page on s
  | .blockRestart t who page => Sys2Proof.Machine.execBlockRestart t who page s
  | .blockRestartDone t page => Sys2Proof.Machine.execBlockRestartDone t page s
  | .shdwHoldWrite t who page on => Sys2Proof.Machine.execShdwHoldWrite t who page on s
  | .pifrcWrite t who page v => Sys2Proof.Machine.execPifrcWrite t who page v s
  | .pirqClear t who page v => Sys2Proof.Machine.execPirqClear t who page v s
  | .plockWrite t who page v => Sys2Proof.Machine.execPlockWrite t who page v s
  | .hostRead t cmd addr crc r => Sys2Proof.Machine.execHostRead t cmd addr crc r s
  | .hostWrite t cmd addr b crc => Sys2Proof.Machine.execHostWrite t cmd addr b crc s
  | .hostWaitTimeout t cmd addr crc k => Sys2Proof.Machine.execHostWaitTimeout t cmd addr crc k s
  | .hostAbort t cmd addr data crc after r => Sys2Proof.Machine.execHostAbort t cmd addr data crc after r s
  | .tbNowLoRead t who => Sys2Proof.Machine.execTbNowLoRead t who s
  | .stageMeterWindow t stage mv => Sys2Proof.Machine.execStageMeterWindow t stage mv s
  | .stgmClr t who => Sys2Proof.Machine.execStgmClr t who s
  | .vddcUnderspec t mv => Sys2Proof.Machine.execVddcUnderspec t mv s
  | .vddcRecover t mv => Sys2Proof.Machine.execVddcRecover t mv s
  | .brownout t => Sys2Proof.Machine.execBrownout t s
  | .vddcCollapse t mv => Sys2Proof.Machine.execVddcCollapse t mv s
  | .referenceLoss t => Sys2Proof.Machine.execReferenceLoss t s
  | .referenceRelock t span => Sys2Proof.Machine.execReferenceRelock t span s
  | .slewEnd t => Sys2Proof.Machine.execSlewEnd t s
  | .refselWrite t who v => Sys2Proof.Machine.execRefselWrite t who v s
  | .refselRelockTimeout t => Sys2Proof.Machine.execRefselRelockTimeout t s
  | .edgeRelease t chan cur => Sys2Proof.Machine.execEdgeRelease t chan cur s
  | .placerHandover t chan => Sys2Proof.Machine.execPlacerHandover t chan s
  | .wheelTransition t n pin peak frac => Sys2Proof.Machine.execWheelTransition t n pin peak frac s
  | .wheelEdgeConfirm t n dip u cur => Sys2Proof.Machine.execWheelEdgeConfirm t n dip u cur s
  | .pwdirClassify t n up par cur => Sys2Proof.Machine.execPwdirClassify t n up par cur s
  | .holdingQueueDeliver t k => Sys2Proof.Machine.execHoldingQueueDeliver t k s
  | .whlCommitTimeout t n => Sys2Proof.Machine.execWhlCommitTimeout t n s
  | .whlOpen t n => Sys2Proof.Machine.execWhlOpen t n s
  | .whlShort t n => Sys2Proof.Machine.execWhlShort t n s
  | .sensorClear t n short => Sys2Proof.Machine.execSensorClear t n short s
  | .whlLastLoRead t who n => Sys2Proof.Machine.execWhlLastLoRead t who n s
  | .whlClr t who n => Sys2Proof.Machine.execWhlClr t who n s
  | .angEnable t who k => Sys2Proof.Machine.execAngEnable t who k s
  | .gapNotfound t k => Sys2Proof.Machine.execGapNotfound t k s
  | .phaseUnknown t k => Sys2Proof.Machine.execPhaseUnknown t k s
  | .camLost t k c => Sys2Proof.Machine.execCamLost t k c s
  | .primLost t k cur => Sys2Proof.Machine.execPrimLost t k cur s
  | .stall t k => Sys2Proof.Machine.execStall t k s
  | .swDrop t who k => Sys2Proof.Machine.execSwDrop t who k s
  | .reacq t who k => Sys2Proof.Machine.execReacq t who k s
  | .angClr t who k => Sys2Proof.Machine.execAngClr t who k s
  | .angPosRead t who k => Sys2Proof.Machine.execAngPosRead t who k s
  | .holdLimit t k => Sys2Proof.Machine.execHoldLimit t k s
  | .predAngleRead t who k => Sys2Proof.Machine.execPredAngleRead t who k s
  | .predTkLoRead t who k => Sys2Proof.Machine.execPredTkLoRead t who k s
  | .duneReset t who k => Sys2Proof.Machine.execDuneReset t who k s
  | .predClr t who k => Sys2Proof.Machine.execPredClr t who k s
  | .duneProfileWrite t who k entry w v => Sys2Proof.Machine.execDuneProfileWrite t who k entry w v s
  | .armRingEntry t r err => Sys2Proof.Machine.execArmRingEntry t r err s
  | .directArmSubmit t who w3 => Sys2Proof.Machine.execDirectArmSubmit t who w3 s
  | .armRingResume t r => Sys2Proof.Machine.execArmRingResume t r s
  | .leadCommit t slot => Sys2Proof.Machine.execLeadCommit t slot s
  | .cancel t who w => Sys2Proof.Machine.execCancel t who w s
  | .flush0 t who => Sys2Proof.Machine.execFlush0 t who s
  | .flush1 t who => Sys2Proof.Machine.execFlush1 t who s
  | .carvClr t who => Sys2Proof.Machine.execCarvClr t who s
  | .carvInspSelWrite t who w => Sys2Proof.Machine.execCarvInspSelWrite t who w s
  | .reservationWrite t who idx w => Sys2Proof.Machine.execReservationWrite t who idx w s
  | .tapSelWrite t who n sel => Sys2Proof.Machine.execTapSelWrite t who n sel s
  | .trigSw t who mask => Sys2Proof.Machine.execTrigSw t who mask s
  | .trigClr t who => Sys2Proof.Machine.execTrigClr t who s
  | .dwellMax t n => Sys2Proof.Machine.execDwellMax t n s
  | .softOffRise t => Sys2Proof.Machine.execSoftOffRise t s
  | .softOffFall t => Sys2Proof.Machine.execSoftOffFall t s
  | .softOffEnd t => Sys2Proof.Machine.execSoftOffEnd t s
  | .ignFeedbackEdge t n lvl => Sys2Proof.Machine.execIgnFeedbackEdge t n lvl s
  | .ignNochg t n => Sys2Proof.Machine.execIgnNochg t n s
  | .ignStuck t n => Sys2Proof.Machine.execIgnStuck t n s
  | .ignUninh t who n => Sys2Proof.Machine.execIgnUninh t who n s
  | .ignClr t who n => Sys2Proof.Machine.execIgnClr t who n s
  | .ignLastLoRead t who n => Sys2Proof.Machine.execIgnLastLoRead t who n s
  | .bankAdmit t b cur => Sys2Proof.Machine.execBankAdmit t b cur s
  | .startTolerance t n => Sys2Proof.Machine.execStartTolerance t n s
  | .bankWaitDrop t n => Sys2Proof.Machine.execBankWaitDrop t n s
  | .bnrReady t n cur => Sys2Proof.Machine.execBnrReady t n cur s
  | .bnrWaitExpiry t n => Sys2Proof.Machine.execBnrWaitExpiry t n s
  | .currentThreshold t n hi => Sys2Proof.Machine.execCurrentThreshold t n hi s
  | .fastDecayEnd t n cur => Sys2Proof.Machine.execFastDecayEnd t n cur s
  | .phaseMinTime t n cur => Sys2Proof.Machine.execPhaseMinTime t n cur s
  | .drvPhTo t n cur => Sys2Proof.Machine.execDrvPhTo t n cur s
  | .armatureDetect t n raws => Sys2Proof.Machine.execArmatureDetect t n raws s
  | .drvArmMiss t n => Sys2Proof.Machine.execDrvArmMiss t n s
  | .endDecayEnd t n peak => Sys2Proof.Machine.execEndDecayEnd t n peak s
  | .offMinEnd t n cur => Sys2Proof.Machine.execOffMinEnd t n cur s
  | .drvOnmax t n => Sys2Proof.Machine.execDrvOnmax t n s
  | .dutyBucket t n => Sys2Proof.Machine.execDutyBucket t n s
  | .drvOc t n => Sys2Proof.Machine.execDrvOc t n s
  | .drvLsShort t n code => Sys2Proof.Machine.execDrvLsShort t n code s
  | .bankHsShort t b vsw => Sys2Proof.Machine.execBankHsShort t b vsw s
  | .bankGndShort t b vsw => Sys2Proof.Machine.execBankGndShort t b vsw s
  | .drvAbort t who n cur => Sys2Proof.Machine.execDrvAbort t who n cur s
  | .drvUninh t who n => Sys2Proof.Machine.execDrvUninh t who n s
  | .drvClr t who n => Sys2Proof.Machine.execDrvClr t who n s
  | .drvLastLoRead t who n => Sys2Proof.Machine.execDrvLastLoRead t who n s
  | .unlatch t who b => Sys2Proof.Machine.execUnlatch t who b s
  | .bankClr t who b => Sys2Proof.Machine.execBankClr t who b s
  | .boostMeasure t k vhv vb => Sys2Proof.Machine.execBoostMeasure t k vhv vb s
  | .boostCycleEnd t k => Sys2Proof.Machine.execBoostCycleEnd t k s
  | .bstTimeout t k => Sys2Proof.Machine.execBstTimeout t k s
  | .bstClr t who k => Sys2Proof.Machine.execBstClr t who k s
  | .profLoad t who p => Sys2Proof.Machine.execProfLoad t who p s
  | .profLoadDone t => Sys2Proof.Machine.execProfLoadDone t s
  | .apertureOpen t k => Sys2Proof.Machine.execApertureOpen t k s
  | .conversionDone t k uv => Sys2Proof.Machine.execConversionDone t k uv s
  | .adcSwGo t who k inp => Sys2Proof.Machine.execAdcSwGo t who k inp s
  | .adcSwresRead t who k => Sys2Proof.Machine.execAdcSwresRead t who k s
  | .adcClr t who k => Sys2Proof.Machine.execAdcClr t who k s
  | .runEnableWrite t who k w => Sys2Proof.Machine.execRunEnableWrite t who k w s
  | .sampleCommit t k r => Sys2Proof.Machine.execSampleCommit t k r s
  | .smplClr t who => Sys2Proof.Machine.execSmplClr t who s
  | .knockWindowOpen t w => Sys2Proof.Machine.execKnockWindowOpen t w s
  | .knockWindowClose t c => Sys2Proof.Machine.execKnockWindowClose t c s
  | .knkClr t who => Sys2Proof.Machine.execKnkClr t who s
  | .trimUpdate t => Sys2Proof.Machine.execTrimUpdate t s
  | .cylinderEnableWrite t who w => Sys2Proof.Machine.execCylinderEnableWrite t who w s
  | .cmbInspSelWrite t who w => Sys2Proof.Machine.execCmbInspSelWrite t who w s
  | .cmbClr t who => Sys2Proof.Machine.execCmbClr t who s
  | .trimZero t who hi w => Sys2Proof.Machine.execTrimZero t who hi w s
  | .trimClr t who => Sys2Proof.Machine.execTrimClr t who s
  | .timerTick t k => Sys2Proof.Machine.execTimerTick t k s
  | .reloadWrite t who k w => Sys2Proof.Machine.execReloadWrite t who k w s
  | .compareWrite t who k w => Sys2Proof.Machine.execCompareWrite t who k w s
  | .timerRun t who k => Sys2Proof.Machine.execTimerRun t who k s
  | .timerStop t who k => Sys2Proof.Machine.execTimerStop t who k s
  | .timerFwrap t who k => Sys2Proof.Machine.execTimerFwrap t who k s
  | .timerClr t who k => Sys2Proof.Machine.execTimerClr t who k s
  | .startTick t k => Sys2Proof.Machine.execStartTick t k s
  | .timerTrigger t k => Sys2Proof.Machine.execTimerTrigger t k s
  | .groupStart t who g => Sys2Proof.Machine.execGroupStart t who g s
  | .groupStop t who g => Sys2Proof.Machine.execGroupStop t who g s
  | .tmrWrapLoRead t who k => Sys2Proof.Machine.execTmrWrapLoRead t who k s
  | .goto t n ext => Sys2Proof.Machine.execGoto t n ext s
  | .drive t n ext => Sys2Proof.Machine.execDrive t n ext s
  | .emit t n ext => Sys2Proof.Machine.execEmit t n ext s
  | .take t n ext => Sys2Proof.Machine.execTake t n ext s
  | .xferFill t n ext => Sys2Proof.Machine.execXferFill t n ext s
  | .xferDeliver t n ext => Sys2Proof.Machine.execXferDeliver t n ext s
  | .xferTxa t n ext => Sys2Proof.Machine.execXferTxa t n ext s
  | .xferArx t n ext => Sys2Proof.Machine.execXferArx t n ext s
  | .calcAddImmA t n ext => Sys2Proof.Machine.execCalcAddImmA t n ext s
  | .calcAddImmB t n ext => Sys2Proof.Machine.execCalcAddImmB t n ext s
  | .calcAdd t n ext => Sys2Proof.Machine.execCalcAdd t n ext s
  | .calcSub t n ext => Sys2Proof.Machine.execCalcSub t n ext s
  | .calcAnd t n ext => Sys2Proof.Machine.execCalcAnd t n ext s
  | .calcXor t n ext => Sys2Proof.Machine.execCalcXor t n ext s
  | .calcShr t n ext => Sys2Proof.Machine.execCalcShr t n ext s
  | .calcShl t n ext => Sys2Proof.Machine.execCalcShl t n ext s
  | .move t n ext => Sys2Proof.Machine.execMove t n ext s
  | .ticks t n ext => Sys2Proof.Machine.execTicks t n ext s
  | .await t n ext => Sys2Proof.Machine.execAwait t n ext s
  | .signal t n ext => Sys2Proof.Machine.execSignal t n ext s
  | .stop t n ext => Sys2Proof.Machine.execStop t n ext s
  | .reva t n ext => Sys2Proof.Machine.execReva t n ext s
  | .nota t n ext => Sys2Proof.Machine.execNota t n ext s
  | .pioIllegal t n ext => Sys2Proof.Machine.execPioIllegal t n ext s
  | .pioStepContinue t n ext => Sys2Proof.Machine.execPioStepContinue t n ext s
  | .deliveryResume t n ext => Sys2Proof.Machine.execDeliveryResume t n ext s
  | .pioTxWrite t who n w => Sys2Proof.Machine.execPioTxWrite t who n w s
  | .pioRxRead t who n => Sys2Proof.Machine.execPioRxRead t who n s
  | .pioHalt t who n => Sys2Proof.Machine.execPioHalt t who n s
  | .pioResume t who n => Sys2Proof.Machine.execPioResume t who n s
  | .pioRestart t who n => Sys2Proof.Machine.execPioRestart t who n s
  | .pioClr t who n => Sys2Proof.Machine.execPioClr t who n s
  | .programWrite t who n idx w => Sys2Proof.Machine.execProgramWrite t who n idx w s
  | .piogStart t who mask => Sys2Proof.Machine.execPiogStart t who mask s
  | .piogHalt t who mask => Sys2Proof.Machine.execPiogHalt t who mask s
  | .piogResume t who mask => Sys2Proof.Machine.execPiogResume t who mask s
  | .piogDsync t who mask => Sys2Proof.Machine.execPiogDsync t who mask s
  | .interruptEntry t h pc user mie => Sys2Proof.Machine.execInterruptEntry t h pc user mie s
  | .mxeoiWrite t h pc user mie => Sys2Proof.Machine.execMxeoiWrite t h pc user mie s
  | .scrubRead t m addr err => Sys2Proof.Machine.execScrubRead t m addr err s
  | .coreScrubClr t who h => Sys2Proof.Machine.execCoreScrubClr t who h s
  | .ringIndexWrite t who r v => Sys2Proof.Machine.execRingIndexWrite t who r v s
  | .ringEnableWrite t who r on => Sys2Proof.Machine.execRingEnableWrite t who r on s
  | .ringRequest t k => Sys2Proof.Machine.execRingRequest t k s
  | .ringScrubClr t who => Sys2Proof.Machine.execRingScrubClr t who s
  | .intcSwi t who w => Sys2Proof.Machine.execIntcSwi t who w s
  | .intcPendClear t who j w bits => Sys2Proof.Machine.execIntcPendClear t who j w bits s
  | .intcSourceCfgWrite t who src vec v => Sys2Proof.Machine.execIntcSourceCfgWrite t who src vec v s
  | .intcClaim t who n => Sys2Proof.Machine.execIntcClaim t who n s
  | .intcComplete t who n src => Sys2Proof.Machine.execIntcComplete t who n src s
  | .debugHalt t h pc => Sys2Proof.Machine.execDebugHalt t h pc s
  | .debugResume t h => Sys2Proof.Machine.execDebugResume t h s
  | .debugStep t h pc user mie => Sys2Proof.Machine.execDebugStep t h pc user mie s
  | .linkAlign t n => Sys2Proof.Machine.execLinkAlign t n s
  | .rate t n rate => Sys2Proof.Machine.execRate t n rate s
  | .rateSwitch t n => Sys2Proof.Machine.execRateSwitch t n s
  | .invalidSymbol t n run => Sys2Proof.Machine.execInvalidSymbol t n run s
  | .symbolTimeout t n => Sys2Proof.Machine.execSymbolTimeout t n s
  | .reset t n => Sys2Proof.Machine.execReset t n s
  | .auth t n fr res uid port txSeq => Sys2Proof.Machine.execAuth t n fr res uid port txSeq s
  | .authTimeout t n => Sys2Proof.Machine.execAuthTimeout t n s
  | .backoffEnd t n => Sys2Proof.Machine.execBackoffEnd t n s
  | .nlCtlDown t who n => Sys2Proof.Machine.execNlCtlDown t who n s
  | .nlClr t who n => Sys2Proof.Machine.execNlClr t who n s
  | .nlPeer0Read t who n => Sys2Proof.Machine.execNlPeer0Read t who n s
  | .ack t n seq => Sys2Proof.Machine.execAck t n seq s
  | .nack t n seq => Sys2Proof.Machine.execNack t n seq s
  | .credit t n k => Sys2Proof.Machine.execCredit t n k s
  | .ackTimeout t n => Sys2Proof.Machine.execAckTimeout t n s
  | .echoRequestTimer t n => Sys2Proof.Machine.execEchoRequestTimer t n s
  | .echoReq t n => Sys2Proof.Machine.execEchoReq t n s
  | .echoRsp t n resid t4 => Sys2Proof.Machine.execEchoRsp t n resid t4 s
  | .echoTimeout t n => Sys2Proof.Machine.execEchoTimeout t n s
  | .helloTimer t => Sys2Proof.Machine.execHelloTimer t s
  | .hello t n fr => Sys2Proof.Machine.execHello t n fr s
  | .topo t n fr => Sys2Proof.Machine.execTopo t n fr s
  | .assign t n fr => Sys2Proof.Machine.execAssign t n fr s
  | .chg t n fr => Sys2Proof.Machine.execChg t n fr s
  | .settleExpiry t => Sys2Proof.Machine.execSettleExpiry t s
  | .redisc t who => Sys2Proof.Machine.execRedisc t who s
  | .fabClr t who => Sys2Proof.Machine.execFabClr t who s
  | .ftxEntry t r err => Sys2Proof.Machine.execFtxEntry t r err s
  | .regRd t n fr err => Sys2Proof.Machine.execRegRd t n fr err s
  | .regWr t n fr => Sys2Proof.Machine.execRegWr t n fr s
  | .regRsp t n fr => Sys2Proof.Machine.execRegRsp t n fr s
  | .intr t n fr => Sys2Proof.Machine.execIntr t n fr s
  | .intrAck t n fr => Sys2Proof.Machine.execIntrAck t n fr s
  | .msg t n fr rxq => Sys2Proof.Machine.execMsg t n fr rxq s
  | .msgAck t n fr => Sys2Proof.Machine.execMsgAck t n fr s
  | .noticeHold t n fr => Sys2Proof.Machine.execNoticeHold t n fr s
  | .noticeRelease t n fr => Sys2Proof.Machine.execNoticeRelease t n fr s
  | .noticePath t n fr => Sys2Proof.Machine.execNoticePath t n fr s
  | .messageTimeout t r src => Sys2Proof.Machine.execMessageTimeout t r src s
  | .maxPause t r src => Sys2Proof.Machine.execMaxPause t r src s
  | .tagCarrier t n fr => Sys2Proof.Machine.execTagCarrier t n fr s
  | .btagTExpiry t n => Sys2Proof.Machine.execBtagTExpiry t n s
  | .beaconVto t n => Sys2Proof.Machine.execBeaconVto t n s
  | .beaconReceive t n trx b0 b1 b2 dls up par cur => Sys2Proof.Machine.execBeaconReceive t n trx b0 b1 b2 dls up par cur s
  | .beacStatRead t who f => Sys2Proof.Machine.execBeacStatRead t who f s
  | .beacClr t who => Sys2Proof.Machine.execBeacClr t who s
  | .faultMessage t src => Sys2Proof.Machine.execFaultMessage t src s
  | .reactTimeout t src => Sys2Proof.Machine.execReactTimeout t src s
  | .fcolAck t who src => Sys2Proof.Machine.execFcolAck t who src s
  | .fcolAckAll t who => Sys2Proof.Machine.execFcolAckAll t who s
  | .dholdClear t who w => Sys2Proof.Machine.execDholdClear t who w s
  | .firstClr t who => Sys2Proof.Machine.execFirstClr t who s
  | .fcolClr t who => Sys2Proof.Machine.execFcolClr t who s
  | .fcolFirstW0Read t who => Sys2Proof.Machine.execFcolFirstW0Read t who s
  | .swlvlWrite t who v => Sys2Proof.Machine.execSwlvlWrite t who v s
  | .minwEnd t => Sys2Proof.Machine.execMinwEnd t s
  | .faultForce t who src viaPage => Sys2Proof.Machine.execFaultForce t who src viaPage s
  | .swFault t who w => Sys2Proof.Machine.execSwFault t who w s
  | .monSnap t who m => Sys2Proof.Machine.execMonSnap t who m s
  | .monSnapclr t who m => Sys2Proof.Machine.execMonSnapclr t who m s
  | .monClr t who m => Sys2Proof.Machine.execMonClr t who m s
  | .monCfgWrite t who m w => Sys2Proof.Machine.execMonCfgWrite t who m w s
  | .modeCmdConfig t who key => Sys2Proof.Machine.execModeCmdConfig t who key s
  | .modeCmdReady t who key => Sys2Proof.Machine.execModeCmdReady t who key s
  | .modeCmdService t who key => Sys2Proof.Machine.execModeCmdService t who key s
  | .modeCmdShutdown t who key => Sys2Proof.Machine.execModeCmdShutdown t who key s
  | .modeCmdSafe t who key => Sys2Proof.Machine.execModeCmdSafe t who key s
  | .leadWrite t who v => Sys2Proof.Machine.execLeadWrite t who v s
  | .safeackWrite t who w => Sys2Proof.Machine.execSafeackWrite t who w s
  | .shutdownDrainEnd t => Sys2Proof.Machine.execShutdownDrainEnd t s
  | .shutdownDone t => Sys2Proof.Machine.execShutdownDone t s
  | .coreSupplyGood t pinLow vbat => Sys2Proof.Machine.execCoreSupplyGood t pinLow vbat s
  | .pornLow t ns => Sys2Proof.Machine.execPornLow t ns s
  | .bootComplete t ok us => Sys2Proof.Machine.execBootComplete t ok us s
  | .bootFail t code => Sys2Proof.Machine.execBootFail t code s
  | .reboot t who => Sys2Proof.Machine.execReboot t who s
  | .sysClr t who => Sys2Proof.Machine.execSysClr t who s
  | .sysSafeTsLoRead t who => Sys2Proof.Machine.execSysSafeTsLoRead t who s
  | .challenge t who fmt sig => Sys2Proof.Machine.execChallenge t who fmt sig s
  | .quote t who fmt sig => Sys2Proof.Machine.execQuote t who fmt sig s
  | .enroll t who fmt sig => Sys2Proof.Machine.execEnroll t who fmt sig s
  | .endorse t who fmt sig => Sys2Proof.Machine.execEndorse t who fmt sig s
  | .lock t who fmt sig => Sys2Proof.Machine.execLock t who fmt sig s
  | .unlock t who fmt sig => Sys2Proof.Machine.execUnlock t who fmt sig s
  | .decommission t who fmt sig => Sys2Proof.Machine.execDecommission t who fmt sig s
  | .stageBegin t who kind => Sys2Proof.Machine.execStageBegin t who kind s
  | .stageWrite t who kind rep fail => Sys2Proof.Machine.execStageWrite t who kind rep fail s
  | .stageFinish t who kind sig fail => Sys2Proof.Machine.execStageFinish t who kind sig fail s
  | .stageAbort t who kind => Sys2Proof.Machine.execStageAbort t who kind s
  | .activate t who mask => Sys2Proof.Machine.execActivate t who mask s
  | .activationDone t sig sup => Sys2Proof.Machine.execActivationDone t sig sup s
  | .confirm t who mask => Sys2Proof.Machine.execConfirm t who mask s
  | .revert t who mask => Sys2Proof.Machine.execRevert t who mask s
  | .mramDirectWrite t who w => Sys2Proof.Machine.execMramDirectWrite t who w s
  | .mramWriteDone t rep fail => Sys2Proof.Machine.execMramWriteDone t rep fail s
  | .logAppend t who src => Sys2Proof.Machine.execLogAppend t who src s
  | .logAppendDone t rep fail => Sys2Proof.Machine.execLogAppendDone t rep fail s
  | .mramcClr t who => Sys2Proof.Machine.execMramcClr t who s
  | .oasisWriteTransfer t a => Sys2Proof.Machine.execOasisWriteTransfer t a s
  | .rtcSet t who w => Sys2Proof.Machine.execRtcSet t who w s
  | .rtcSecond t => Sys2Proof.Machine.execRtcSecond t s
  | .rtcXtal t => Sys2Proof.Machine.execRtcXtal t s
  | .xtalRecover t => Sys2Proof.Machine.execXtalRecover t s
  | .rtcSubRead t who sub => Sys2Proof.Machine.execRtcSubRead t who sub s
  | .rtcTbLoRead t who => Sys2Proof.Machine.execRtcTbLoRead t who s
  | .oasisRamRead t who w bad => Sys2Proof.Machine.execOasisRamRead t who w bad s
  | .sentinelTick t lvl vals => Sys2Proof.Machine.execSentinelTick t lvl vals s
  | .standstillCrossing x => Sys2Proof.Machine.execStandstillCrossing x s
  | .sentEvtClear t who viaWhl n bits => Sys2Proof.Machine.execSentEvtClear t who viaWhl n bits s
  | .vbatMeasure t mv => Sys2Proof.Machine.execVbatMeasure t mv s
  | .oasisSupplyChangeover t vddio => Sys2Proof.Machine.execOasisSupplyChangeover t vddio s
  | .oasisStart t => Sys2Proof.Machine.execOasisStart t s
  | .extest t v => Sys2Proof.Machine.execExtest t v s
  | .idcode t => Sys2Proof.Machine.execIdcode t s
  | .samplePreload t cap v => Sys2Proof.Machine.execSamplePreload t cap v s
  | .clamp t => Sys2Proof.Machine.execClamp t s
  | .highz t => Sys2Proof.Machine.execHighz t s
  | .dtmcs t => Sys2Proof.Machine.execDtmcs t s
  | .dmi t a v op => Sys2Proof.Machine.execDmi t a v op s
  | .bypass t => Sys2Proof.Machine.execBypass t s
  | .testLogicReset t => Sys2Proof.Machine.execTestLogicReset t s
  | .calibratorFirstLock t span => Sys2Proof.Machine.execCalibratorFirstLock t span s
  | .vddaLow t low mv => Sys2Proof.Machine.execVddaLow t low mv s
  | .vbLow t low mv => Sys2Proof.Machine.execVbLow t low mv s
  | .d2dCommandFail t chan passed => Sys2Proof.Machine.execD2dCommandFail t chan passed s
  | .busyIntervalEnd t k => Sys2Proof.Machine.execBusyIntervalEnd t k s
  | .bstTonEnd t k => Sys2Proof.Machine.execBstTonEnd t k s
  | .randomGeneratorHealthTest t pass => Sys2Proof.Machine.execRandomGeneratorHealthTest t pass s

end Sys2Proof.Machine
end

