-- ==== Sys2Proof/WellFormed.lean ====
section
/-!
DEFINITION. WellFormed.lean: which commands can be sent at all: a page command names an allocated page (R41), a register command an aligned
a write an address and a size its initiator can send (R42, R43), a host transaction the length its command word
says (R64), every command a time the timebase can show (R27). Ranges of channel, ring, link and timer numbers are in the types of the operands.
-/

namespace Sys2Proof

/-- Page `p` is allocated (R41). -/
def isPage (p : Nat) : Bool := (Machine.pageInfo p).isSome

/-- A write of `size` bytes at `a` that `who` can send: a core any address, aligned or not, of 1, 2 or 4 bytes; the host port and the fabric
whole aligned words (R43). Where it falls decides what becomes of it (R42). -/
def Machine.sendable (who : Machine.Initiator) (a size : Nat) : Bool :=
  decide (a < 2 ^ 32) && (size == 4 || ((size == 1 || size == 2) && who != .host && who != .fab))
    && (a % 4 == 0 || (who != .host && who != .fab))

/-- A write between two words of a host burst is another initiator's (R71). -/
def Machine.Grant.wf (g : Machine.Grant) : Bool := g.who != .host && Machine.sendable g.who g.addr 4

/-- Address a is that of a register with a PRESET field (R10). -/
def isPreset (a : Nat) : Bool :=
  Machine.isPageAddr a && (match Machine.pageInfo (Machine.pageOf a) with
    | some (b, p) => (Machine.presetWords b p).contains a
    | none => false)

/-- When the command is granted, in timebase units (R27). -/
def Instr.time : Instr → Nat
  | .presetWrite t _ _ _ => t
  | .presetAll t _ _ => t
  | .registerWrite t _ _ _ => t
  | .windowWrite t _ _ _ _ => t
  | .enableWrite t _ _ _ => t
  | .freezeWrite t _ _ _ => t
  | .blockRestart t _ _ => t
  | .blockRestartDone t _ => t
  | .shdwHoldWrite t _ _ _ => t
  | .pifrcWrite t _ _ _ => t
  | .pirqClear t _ _ _ => t
  | .plockWrite t _ _ _ => t
  | .hostRead t _ _ _ _ => t
  | .hostWrite t _ _ _ _ => t
  | .hostWaitTimeout t _ _ _ _ => t
  | .hostAbort t _ _ _ _ _ _ => t
  | .tbNowLoRead t _ => t
  | .stageMeterWindow t _ _ => t
  | .stgmClr t _ => t
  | .vddcUnderspec t _ => t
  | .vddcRecover t _ => t
  | .brownout t => t
  | .vddcCollapse t _ => t
  | .referenceLoss t => t
  | .referenceRelock t _ => t
  | .slewEnd t => t
  | .refselWrite t _ _ => t
  | .refselRelockTimeout t => t
  | .edgeRelease t _ _ => t
  | .placerHandover t _ => t
  | .wheelTransition t _ _ _ _ => t
  | .wheelEdgeConfirm t _ _ _ _ => t
  | .pwdirClassify t _ _ _ _ => t
  | .holdingQueueDeliver t _ => t
  | .whlCommitTimeout t _ => t
  | .whlOpen t _ => t
  | .whlShort t _ => t
  | .sensorClear t _ _ => t
  | .whlLastLoRead t _ _ => t
  | .whlClr t _ _ => t
  | .angEnable t _ _ => t
  | .gapNotfound t _ => t
  | .phaseUnknown t _ => t
  | .camLost t _ _ => t
  | .primLost t _ _ => t
  | .stall t _ => t
  | .swDrop t _ _ => t
  | .reacq t _ _ => t
  | .angClr t _ _ => t
  | .angPosRead t _ _ => t
  | .holdLimit t _ => t
  | .predAngleRead t _ _ => t
  | .predTkLoRead t _ _ => t
  | .duneReset t _ _ => t
  | .predClr t _ _ => t
  | .duneProfileWrite t _ _ _ _ _ => t
  | .armRingEntry t _ _ => t
  | .directArmSubmit t _ _ => t
  | .armRingResume t _ => t
  | .leadCommit t _ => t
  | .cancel t _ _ => t
  | .flush0 t _ => t
  | .flush1 t _ => t
  | .carvClr t _ => t
  | .carvInspSelWrite t _ _ => t
  | .reservationWrite t _ _ _ => t
  | .tapSelWrite t _ _ _ => t
  | .trigSw t _ _ => t
  | .trigClr t _ => t
  | .dwellMax t _ => t
  | .softOffRise t => t
  | .softOffFall t => t
  | .softOffEnd t => t
  | .ignFeedbackEdge t _ _ => t
  | .ignNochg t _ => t
  | .ignStuck t _ => t
  | .ignUninh t _ _ => t
  | .ignClr t _ _ => t
  | .ignLastLoRead t _ _ => t
  | .bankAdmit t _ _ => t
  | .startTolerance t _ => t
  | .bankWaitDrop t _ => t
  | .bnrReady t _ _ => t
  | .bnrWaitExpiry t _ => t
  | .currentThreshold t _ _ => t
  | .fastDecayEnd t _ _ => t
  | .phaseMinTime t _ _ => t
  | .drvPhTo t _ _ => t
  | .armatureDetect t _ _ => t
  | .drvArmMiss t _ => t
  | .endDecayEnd t _ _ => t
  | .offMinEnd t _ _ => t
  | .drvOnmax t _ => t
  | .dutyBucket t _ => t
  | .drvOc t _ => t
  | .drvLsShort t _ _ => t
  | .bankHsShort t _ _ => t
  | .bankGndShort t _ _ => t
  | .drvAbort t _ _ _ => t
  | .drvUninh t _ _ => t
  | .drvClr t _ _ => t
  | .drvLastLoRead t _ _ => t
  | .unlatch t _ _ => t
  | .bankClr t _ _ => t
  | .boostMeasure t _ _ _ => t
  | .boostCycleEnd t _ => t
  | .bstTimeout t _ => t
  | .bstClr t _ _ => t
  | .profLoad t _ _ => t
  | .profLoadDone t => t
  | .apertureOpen t _ => t
  | .conversionDone t _ _ => t
  | .adcSwGo t _ _ _ => t
  | .adcSwresRead t _ _ => t
  | .adcClr t _ _ => t
  | .runEnableWrite t _ _ _ => t
  | .sampleCommit t _ _ => t
  | .smplClr t _ => t
  | .knockWindowOpen t _ => t
  | .knockWindowClose t _ => t
  | .knkClr t _ => t
  | .trimUpdate t => t
  | .cylinderEnableWrite t _ _ => t
  | .cmbInspSelWrite t _ _ => t
  | .cmbClr t _ => t
  | .trimZero t _ _ _ => t
  | .trimClr t _ => t
  | .timerTick t _ => t
  | .reloadWrite t _ _ _ => t
  | .compareWrite t _ _ _ => t
  | .timerRun t _ _ => t
  | .timerStop t _ _ => t
  | .timerFwrap t _ _ => t
  | .timerClr t _ _ => t
  | .startTick t _ => t
  | .timerTrigger t _ => t
  | .groupStart t _ _ => t
  | .groupStop t _ _ => t
  | .tmrWrapLoRead t _ _ => t
  | .goto t _ _ => t
  | .drive t _ _ => t
  | .emit t _ _ => t
  | .take t _ _ => t
  | .xferFill t _ _ => t
  | .xferDeliver t _ _ => t
  | .xferTxa t _ _ => t
  | .xferArx t _ _ => t
  | .calcAddImmA t _ _ => t
  | .calcAddImmB t _ _ => t
  | .calcAdd t _ _ => t
  | .calcSub t _ _ => t
  | .calcAnd t _ _ => t
  | .calcXor t _ _ => t
  | .calcShr t _ _ => t
  | .calcShl t _ _ => t
  | .move t _ _ => t
  | .ticks t _ _ => t
  | .await t _ _ => t
  | .signal t _ _ => t
  | .stop t _ _ => t
  | .reva t _ _ => t
  | .nota t _ _ => t
  | .pioIllegal t _ _ => t
  | .pioStepContinue t _ _ => t
  | .deliveryResume t _ _ => t
  | .pioTxWrite t _ _ _ => t
  | .pioRxRead t _ _ => t
  | .pioHalt t _ _ => t
  | .pioResume t _ _ => t
  | .pioRestart t _ _ => t
  | .pioClr t _ _ => t
  | .programWrite t _ _ _ _ => t
  | .piogStart t _ _ => t
  | .piogHalt t _ _ => t
  | .piogResume t _ _ => t
  | .piogDsync t _ _ => t
  | .interruptEntry t _ _ _ _ => t
  | .mxeoiWrite t _ _ _ _ => t
  | .scrubRead t _ _ _ => t
  | .coreScrubClr t _ _ => t
  | .ringIndexWrite t _ _ _ => t
  | .ringEnableWrite t _ _ _ => t
  | .ringRequest t _ => t
  | .ringScrubClr t _ => t
  | .intcSwi t _ _ => t
  | .intcPendClear t _ _ _ _ => t
  | .intcSourceCfgWrite t _ _ _ _ => t
  | .intcClaim t _ _ => t
  | .intcComplete t _ _ _ => t
  | .debugHalt t _ _ => t
  | .debugResume t _ => t
  | .debugStep t _ _ _ _ => t
  | .linkAlign t _ => t
  | .rate t _ _ => t
  | .rateSwitch t _ => t
  | .invalidSymbol t _ _ => t
  | .symbolTimeout t _ => t
  | .reset t _ => t
  | .auth t _ _ _ _ _ _ => t
  | .authTimeout t _ => t
  | .backoffEnd t _ => t
  | .nlCtlDown t _ _ => t
  | .nlClr t _ _ => t
  | .nlPeer0Read t _ _ => t
  | .ack t _ _ => t
  | .nack t _ _ => t
  | .credit t _ _ => t
  | .ackTimeout t _ => t
  | .echoRequestTimer t _ => t
  | .echoReq t _ => t
  | .echoRsp t _ _ _ => t
  | .echoTimeout t _ => t
  | .helloTimer t => t
  | .hello t _ _ => t
  | .topo t _ _ => t
  | .assign t _ _ => t
  | .chg t _ _ => t
  | .settleExpiry t => t
  | .redisc t _ => t
  | .fabClr t _ => t
  | .ftxEntry t _ _ => t
  | .regRd t _ _ _ => t
  | .regWr t _ _ => t
  | .regRsp t _ _ => t
  | .intr t _ _ => t
  | .intrAck t _ _ => t
  | .msg t _ _ _ => t
  | .msgAck t _ _ => t
  | .noticeHold t _ _ => t
  | .noticeRelease t _ _ => t
  | .noticePath t _ _ => t
  | .messageTimeout t _ _ => t
  | .maxPause t _ _ => t
  | .tagCarrier t _ _ => t
  | .btagTExpiry t _ => t
  | .beaconVto t _ => t
  | .beaconReceive t _ _ _ _ _ _ _ _ _ => t
  | .beacStatRead t _ _ => t
  | .beacClr t _ => t
  | .faultMessage t _ => t
  | .reactTimeout t _ => t
  | .fcolAck t _ _ => t
  | .fcolAckAll t _ => t
  | .dholdClear t _ _ => t
  | .firstClr t _ => t
  | .fcolClr t _ => t
  | .fcolFirstW0Read t _ => t
  | .swlvlWrite t _ _ => t
  | .minwEnd t => t
  | .faultForce t _ _ _ => t
  | .swFault t _ _ => t
  | .monSnap t _ _ => t
  | .monSnapclr t _ _ => t
  | .monClr t _ _ => t
  | .monCfgWrite t _ _ _ => t
  | .modeCmdConfig t _ _ => t
  | .modeCmdReady t _ _ => t
  | .modeCmdService t _ _ => t
  | .modeCmdShutdown t _ _ => t
  | .modeCmdSafe t _ _ => t
  | .leadWrite t _ _ => t
  | .safeackWrite t _ _ => t
  | .shutdownDrainEnd t => t
  | .shutdownDone t => t
  | .coreSupplyGood t _ _ => t
  | .pornLow t _ => t
  | .bootComplete t _ _ => t
  | .bootFail t _ => t
  | .reboot t _ => t
  | .sysClr t _ => t
  | .sysSafeTsLoRead t _ => t
  | .challenge t _ _ _ => t
  | .quote t _ _ _ => t
  | .enroll t _ _ _ => t
  | .endorse t _ _ _ => t
  | .lock t _ _ _ => t
  | .unlock t _ _ _ => t
  | .decommission t _ _ _ => t
  | .stageBegin t _ _ => t
  | .stageWrite t _ _ _ _ => t
  | .stageFinish t _ _ _ _ => t
  | .stageAbort t _ _ => t
  | .activate t _ _ => t
  | .activationDone t _ _ => t
  | .confirm t _ _ => t
  | .revert t _ _ => t
  | .mramDirectWrite t _ _ => t
  | .mramWriteDone t _ _ => t
  | .logAppend t _ _ => t
  | .logAppendDone t _ _ => t
  | .mramcClr t _ => t
  | .oasisWriteTransfer t _ => t
  | .rtcSet t _ _ => t
  | .rtcSecond t => t
  | .rtcXtal t => t
  | .xtalRecover t => t
  | .rtcSubRead t _ _ => t
  | .rtcTbLoRead t _ => t
  | .oasisRamRead t _ _ _ => t
  | .sentinelTick t _ _ => t
  | .standstillCrossing x => x.t
  | .sentEvtClear t _ _ _ _ => t
  | .vbatMeasure t _ => t
  | .oasisSupplyChangeover t _ => t
  | .oasisStart t => t
  | .extest t _ => t
  | .idcode t => t
  | .samplePreload t _ _ => t
  | .clamp t => t
  | .highz t => t
  | .dtmcs t => t
  | .dmi t _ _ _ => t
  | .bypass t => t
  | .testLogicReset t => t
  | .calibratorFirstLock t _ => t
  | .vddaLow t _ _ => t
  | .vbLow t _ _ => t
  | .d2dCommandFail t _ _ => t
  | .busyIntervalEnd t _ => t
  | .bstTonEnd t _ => t
  | .randomGeneratorHealthTest t _ => t

/-- The operands of the command can be sent. -/
def Instr.operandsOk : Instr → Bool
  | .presetWrite _ _ a _ => isPreset a
  | .presetAll _ _ page => isPage page
  | .registerWrite _ who a _ => Machine.sendable who a 4
  | .windowWrite _ who a size _ => Machine.sendable who a size
  | .enableWrite _ _ page _ => isPage page
  | .freezeWrite _ _ page _ => isPage page
  | .blockRestart _ _ page => isPage page
  | .blockRestartDone _ page => isPage page
  | .shdwHoldWrite _ _ page _ => isPage page
  | .pifrcWrite _ _ page _ => isPage page
  | .pirqClear _ _ page _ => isPage page
  | .plockWrite _ _ page _ => isPage page
  | .hostRead _ _ _ _ r => r.met.all Machine.Grant.wf
  | .hostWrite _ cmd _ b _ => b.data.length == Machine.hostLen cmd && b.met.all Machine.Grant.wf
  | .hostWaitTimeout _ _ _ _ _ => true
  | .hostAbort _ cmd _ data _ _ _ => decide (data.length ≤ Machine.hostLen cmd)
  | .tbNowLoRead _ _ => true
  | .stageMeterWindow _ _ _ => true
  | .stgmClr _ _ => true
  | .vddcUnderspec _ mv => decide (mv < 720)
  | .vddcRecover _ _ => true
  | .brownout _ => true
  | .vddcCollapse _ mv => decide (mv < 620)
  | .referenceLoss _ => true
  | .referenceRelock _ _ => true
  | .slewEnd _ => true
  | .refselWrite _ _ _ => true
  | .refselRelockTimeout _ => true
  | .edgeRelease _ _ _ => true
  | .placerHandover _ _ => true
  | .wheelTransition _ _ _ _ _ => true
  | .wheelEdgeConfirm _ _ _ _ _ => true
  | .pwdirClassify _ _ _ _ _ => true
  | .holdingQueueDeliver _ _ => true
  | .whlCommitTimeout _ _ => true
  | .whlOpen _ _ => true
  | .whlShort _ _ => true
  | .sensorClear _ _ _ => true
  | .whlLastLoRead _ _ _ => true
  | .whlClr _ _ _ => true
  | .angEnable _ _ _ => true
  | .gapNotfound _ _ => true
  | .phaseUnknown _ _ => true
  | .camLost _ _ _ => true
  | .primLost _ _ _ => true
  | .stall _ _ => true
  | .swDrop _ _ _ => true
  | .reacq _ _ _ => true
  | .angClr _ _ _ => true
  | .angPosRead _ _ _ => true
  | .holdLimit _ _ => true
  | .predAngleRead _ _ _ => true
  | .predTkLoRead _ _ _ => true
  | .duneReset _ _ _ => true
  | .predClr _ _ _ => true
  | .duneProfileWrite _ _ _ _ _ _ => true
  | .armRingEntry _ _ _ => true
  | .directArmSubmit _ _ _ => true
  | .armRingResume _ _ => true
  | .leadCommit _ _ => true
  | .cancel _ _ _ => true
  | .flush0 _ _ => true
  | .flush1 _ _ => true
  | .carvClr _ _ => true
  | .carvInspSelWrite _ _ _ => true
  | .reservationWrite _ _ _ _ => true
  | .tapSelWrite _ _ _ _ => true
  | .trigSw _ _ _ => true
  | .trigClr _ _ => true
  | .dwellMax _ _ => true
  | .softOffRise _ => true
  | .softOffFall _ => true
  | .softOffEnd _ => true
  | .ignFeedbackEdge _ _ _ => true
  | .ignNochg _ _ => true
  | .ignStuck _ _ => true
  | .ignUninh _ _ _ => true
  | .ignClr _ _ _ => true
  | .ignLastLoRead _ _ _ => true
  | .bankAdmit _ _ _ => true
  | .startTolerance _ _ => true
  | .bankWaitDrop _ _ => true
  | .bnrReady _ _ _ => true
  | .bnrWaitExpiry _ _ => true
  | .currentThreshold _ _ _ => true
  | .fastDecayEnd _ _ _ => true
  | .phaseMinTime _ _ _ => true
  | .drvPhTo _ _ _ => true
  | .armatureDetect _ _ raws => !raws.isEmpty
  | .drvArmMiss _ _ => true
  | .endDecayEnd _ _ _ => true
  | .offMinEnd _ _ _ => true
  | .drvOnmax _ _ => true
  | .dutyBucket _ _ => true
  | .drvOc _ _ => true
  | .drvLsShort _ _ _ => true
  | .bankHsShort _ _ _ => true
  | .bankGndShort _ _ _ => true
  | .drvAbort _ _ _ _ => true
  | .drvUninh _ _ _ => true
  | .drvClr _ _ _ => true
  | .drvLastLoRead _ _ _ => true
  | .unlatch _ _ _ => true
  | .bankClr _ _ _ => true
  | .boostMeasure _ _ _ _ => true
  | .boostCycleEnd _ _ => true
  | .bstTimeout _ _ => true
  | .bstClr _ _ _ => true
  | .profLoad _ _ _ => true
  | .profLoadDone _ => true
  | .apertureOpen _ _ => true
  | .conversionDone _ _ _ => true
  | .adcSwGo _ _ _ _ => true
  | .adcSwresRead _ _ _ => true
  | .adcClr _ _ _ => true
  | .runEnableWrite _ _ _ _ => true
  | .sampleCommit _ _ _ => true
  | .smplClr _ _ => true
  | .knockWindowOpen _ _ => true
  | .knockWindowClose _ _ => true
  | .knkClr _ _ => true
  | .trimUpdate _ => true
  | .cylinderEnableWrite _ _ _ => true
  | .cmbInspSelWrite _ _ _ => true
  | .cmbClr _ _ => true
  | .trimZero _ _ _ _ => true
  | .trimClr _ _ => true
  | .timerTick _ _ => true
  | .reloadWrite _ _ _ _ => true
  | .compareWrite _ _ _ _ => true
  | .timerRun _ _ _ => true
  | .timerStop _ _ _ => true
  | .timerFwrap _ _ _ => true
  | .timerClr _ _ _ => true
  | .startTick _ _ => true
  | .timerTrigger _ _ => true
  | .groupStart _ _ _ => true
  | .groupStop _ _ _ => true
  | .tmrWrapLoRead _ _ _ => true
  | .goto _ _ _ => true
  | .drive _ _ _ => true
  | .emit _ _ _ => true
  | .take _ _ _ => true
  | .xferFill _ _ _ => true
  | .xferDeliver _ _ _ => true
  | .xferTxa _ _ _ => true
  | .xferArx _ _ _ => true
  | .calcAddImmA _ _ _ => true
  | .calcAddImmB _ _ _ => true
  | .calcAdd _ _ _ => true
  | .calcSub _ _ _ => true
  | .calcAnd _ _ _ => true
  | .calcXor _ _ _ => true
  | .calcShr _ _ _ => true
  | .calcShl _ _ _ => true
  | .move _ _ _ => true
  | .ticks _ _ _ => true
  | .await _ _ _ => true
  | .signal _ _ _ => true
  | .stop _ _ _ => true
  | .reva _ _ _ => true
  | .nota _ _ _ => true
  | .pioIllegal _ _ _ => true
  | .pioStepContinue _ _ _ => true
  | .deliveryResume _ _ _ => true
  | .pioTxWrite _ _ _ _ => true
  | .pioRxRead _ _ _ => true
  | .pioHalt _ _ _ => true
  | .pioResume _ _ _ => true
  | .pioRestart _ _ _ => true
  | .pioClr _ _ _ => true
  | .programWrite _ _ _ _ _ => true
  | .piogStart _ _ _ => true
  | .piogHalt _ _ _ => true
  | .piogResume _ _ _ => true
  | .piogDsync _ _ _ => true
  | .interruptEntry _ _ _ _ _ => true
  | .mxeoiWrite _ _ _ _ _ => true
  | .scrubRead _ _ _ _ => true
  | .coreScrubClr _ _ _ => true
  | .ringIndexWrite _ _ _ _ => true
  | .ringEnableWrite _ _ _ _ => true
  | .ringRequest _ _ => true
  | .ringScrubClr _ _ => true
  | .intcSwi _ _ _ => true
  | .intcPendClear _ _ _ _ _ => true
  | .intcSourceCfgWrite _ _ _ _ _ => true
  | .intcClaim _ _ _ => true
  | .intcComplete _ _ _ _ => true
  | .debugHalt _ _ _ => true
  | .debugResume _ _ => true
  | .debugStep _ _ _ _ _ => true
  | .linkAlign _ _ => true
  | .rate _ _ _ => true
  | .rateSwitch _ _ => true
  | .invalidSymbol _ _ _ => true
  | .symbolTimeout _ _ => true
  | .reset _ _ => true
  | .auth _ _ _ _ uid _ _ => uid.length == 4
  | .authTimeout _ _ => true
  | .backoffEnd _ _ => true
  | .nlCtlDown _ _ _ => true
  | .nlClr _ _ _ => true
  | .nlPeer0Read _ _ _ => true
  | .ack _ _ _ => true
  | .nack _ _ _ => true
  | .credit _ _ _ => true
  | .ackTimeout _ _ => true
  | .echoRequestTimer _ _ => true
  | .echoReq _ _ => true
  | .echoRsp _ _ _ _ => true
  | .echoTimeout _ _ => true
  | .helloTimer _ => true
  | .hello _ _ _ => true
  | .topo _ _ _ => true
  | .assign _ _ _ => true
  | .chg _ _ _ => true
  | .settleExpiry _ => true
  | .redisc _ _ => true
  | .fabClr _ _ => true
  | .ftxEntry _ _ _ => true
  | .regRd _ _ _ _ => true
  | .regWr _ _ _ => true
  | .regRsp _ _ _ => true
  | .intr _ _ _ => true
  | .intrAck _ _ _ => true
  | .msg _ _ _ _ => true
  | .msgAck _ _ _ => true
  | .noticeHold _ _ _ => true
  | .noticeRelease _ _ _ => true
  | .noticePath _ _ _ => true
  | .messageTimeout _ _ _ => true
  | .maxPause _ _ _ => true
  | .tagCarrier _ _ _ => true
  | .btagTExpiry _ _ => true
  | .beaconVto _ _ => true
  | .beaconReceive _ _ _ _ _ _ _ _ _ _ => true
  | .beacStatRead _ _ _ => true
  | .beacClr _ _ => true
  | .faultMessage _ _ => true
  | .reactTimeout _ _ => true
  | .fcolAck _ _ _ => true
  | .fcolAckAll _ _ => true
  | .dholdClear _ _ _ => true
  | .firstClr _ _ => true
  | .fcolClr _ _ => true
  | .fcolFirstW0Read _ _ => true
  | .swlvlWrite _ _ _ => true
  | .minwEnd _ => true
  | .faultForce _ _ src viaPage => (!viaPage || isPage src)
  | .swFault _ _ _ => true
  | .monSnap _ _ _ => true
  | .monSnapclr _ _ _ => true
  | .monClr _ _ _ => true
  | .monCfgWrite _ _ _ _ => true
  | .modeCmdConfig _ _ _ => true
  | .modeCmdReady _ _ _ => true
  | .modeCmdService _ _ _ => true
  | .modeCmdShutdown _ _ _ => true
  | .modeCmdSafe _ _ _ => true
  | .leadWrite _ _ _ => true
  | .safeackWrite _ _ _ => true
  | .shutdownDrainEnd _ => true
  | .shutdownDone _ => true
  | .coreSupplyGood _ _ _ => true
  | .pornLow _ _ => true
  | .bootComplete _ _ _ => true
  | .bootFail _ _ => true
  | .reboot _ _ => true
  | .sysClr _ _ => true
  | .sysSafeTsLoRead _ _ => true
  | .challenge _ _ _ _ => true
  | .quote _ _ _ _ => true
  | .enroll _ _ _ _ => true
  | .endorse _ _ _ _ => true
  | .lock _ _ _ _ => true
  | .unlock _ _ _ _ => true
  | .decommission _ _ _ _ => true
  | .stageBegin _ _ _ => true
  | .stageWrite _ _ _ _ _ => true
  | .stageFinish _ _ _ _ _ => true
  | .stageAbort _ _ _ => true
  | .activate _ _ _ => true
  | .activationDone _ _ _ => true
  | .confirm _ _ _ => true
  | .revert _ _ _ => true
  | .mramDirectWrite _ _ _ => true
  | .mramWriteDone _ _ _ => true
  | .logAppend _ _ _ => true
  | .logAppendDone _ _ _ => true
  | .mramcClr _ _ => true
  | .oasisWriteTransfer _ a => Machine.isOasis a && a % 4 == 0
  | .rtcSet _ _ _ => true
  | .rtcSecond _ => true
  | .rtcXtal _ => true
  | .xtalRecover _ => true
  | .rtcSubRead _ _ _ => true
  | .rtcTbLoRead _ _ => true
  | .oasisRamRead _ _ _ bad => (match bad with | some b => decide (b < 4) | none => true)
  | .sentinelTick _ _ vals => vals.length == 8 && vals.all (fun v => decide (v < 256))
  | .standstillCrossing _ => true
  | .sentEvtClear _ _ _ _ _ => true
  | .vbatMeasure _ _ => true
  | .oasisSupplyChangeover _ _ => true
  | .oasisStart _ => true
  | .extest _ _ => true
  | .idcode _ => true
  | .samplePreload _ _ _ => true
  | .clamp _ => true
  | .highz _ => true
  | .dtmcs _ => true
  | .dmi _ _ _ _ => true
  | .bypass _ => true
  | .testLogicReset _ => true
  | .calibratorFirstLock _ _ => true
  | .vddaLow _ _ _ => true
  | .vbLow _ _ _ => true
  | .d2dCommandFail _ _ _ => true
  | .busyIntervalEnd _ _ => true
  | .bstTonEnd _ _ => true
  | .randomGeneratorHealthTest _ _ => true

/-- The command can be sent: its operands stand, and the 64-bit timebase can show its time (R27). -/
def Instr.wf (c : Instr) : Bool := decide (c.time < 2 ^ 64) && c.operandsOk

end Sys2Proof
end

