-- ==== Sys2Proof/Safety.lean ====
section
/-!
DEFINITION. Safety.lean: the terms the statements use: when a register access is granted, what the state is after a granted write, a granted read
and an event, and the runs that keep the timebase a 64-bit count.
-/

namespace Sys2Proof.Machine

/-- A write at `a` by `who` is granted: its page is not restarting (R52) and the initiator may write it (R55, R466). Where the permission looks
at the word (the sources of R381), `v` is the word. -/
abbrev Granted (s : State) (who : Initiator) (a : Nat) (v : Word := 0) : Prop :=
  s.dev.restarting (pageOf a) = false ∧ s.dev.mayWrite who a v = true

/-- A read at `a` is answered with the register's word: its page is not restarting (R52). -/
abbrev Readable (s : State) (a : Nat) : Prop := s.dev.restarting (pageOf a) = false

/-- The state after a granted write with the effect `f`: the access is offered to the monitors (R462), the effect happens, the initiator sees the
access done. -/
def State.wrote (s : State) (t : Nat) (who : Initiator) (f : Dev → Dev) : State :=
  s.after t ((f (s.dev.access (s.clock t) who)).result .ok)

/-- The state after a read that gives `w` of the device and leaves the device `f` of it. -/
def State.readOut (s : State) (t : Nat) (who : Initiator) (f : Dev → Dev) (w : Dev → Word) : State :=
  let d := s.dev.access (s.clock t) who
  s.after t ((f d).readResult (w d) .ok)

/-- A granted write that takes the device `e`, as its access left it, to a device `d` of which `P e d` holds. -/
def Writes (c : Instr) (s : State) (who : Initiator) (P : Dev → Dev → Prop) : Prop :=
  ∃ d, exec c s = .next (s.wrote c.time who (fun _ => d)) ∧ P (s.dev.access (s.clock c.time) who) d

/-- `d` differs from `e` in registers of `l` only: every other register, all memory and everything without an address is the same. -/
def OnlyRegs (e d : Dev) (l : List Nat) : Prop := d = { e with regs := d.regs } ∧ ∀ a, a ∉ l → d.reg a = e.reg a

/-- The command ends in a next state, its device before settling being one that `P` holds of. -/
def Completes (c : Instr) (s : State) (P : Dev → Prop) : Prop :=
  ∃ d, exec c s = .next (s.after c.time d) ∧ P d

/-- The command ends in a next state whose device, before settling, is `f` of the time granted and the device. -/
def Does (c : Instr) (s : State) (f : Nat → Dev → Dev) : Prop :=
  exec c s = .next (s.after c.time (f (s.clock c.time) s.dev))

/-- A granted read of the register at `a`: its initiator is given the word, the registers of `l` are latched for that initiator (R29 and the rules
like it), and nothing else changes. -/
def Reads (c : Instr) (s : State) (who : Initiator) (a : Nat) (l : List Nat) : Prop :=
  let e := s.dev.access (s.clock c.time) who
  ∃ d : Dev, exec c s = .next (s.after c.time (d.readResult (e.reg a) .ok)) ∧ d = { e with latches := d.latches } ∧
    (∀ b ∈ l, d.latch who b = e.reg b) ∧ ∀ w b, b < 2 ^ 32 → w ≠ who ∨ b ∉ l → d.latch w b = e.latch w b

/-- The device with what has fallen due of pin engine n by time `t` having happened. -/
def State.pinDev (s : State) (t n : Nat) : Dev := s.dev.pioSettle (s.clock t) n

/-- Pin engine n stands, at time `t`, before a step that has come, with the core supply in its specified range (R341, R342); `want` tells what it
does there. -/
abbrev PinDue (s : State) (t n : Nat) (want : PioDo) : Prop :=
  (s.pinDev t n).running (P.PIO n) = true ∧ (s.pinDev t n).pioState n ≠ 0 ∧ ((s.pinDev t n).eng n).next ≤ s.clock t ∧
    ((s.pinDev t n).eng n).go = none ∧ (s.pinDev t n).pioDo n = want ∧ (s.pinDev t n).flag F.SYS_VMON_UNDERSPEC = false

/-- The device a due step of pin engine n begins with: what has fallen due has happened and the page's shadow registers commit (R357). -/
def State.pinAt (s : State) (t n : Nat) : Dev := (s.pinDev t n).commit (P.PIO n)

/-- The level of engine n's input pin at the step, `ext` being what stands on the pins nothing drives (R348). -/
def State.pinIn (s : State) (t n : Nat) (ext : Word) : Bool :=
  ((s.pinDev t n).pinLevels ext).getLsbD ((s.pinDev t n).get (F.PIO_PINS_IBASE n))

/-- Link n takes frames: in AUTH, in UP, or in ALIGN at the new rate (R397). -/
abbrev Dev.receiving (d : Dev) (n : Nat) : Prop := d.nlState n = 3 ∨ d.nlState n = 4 ∨ (d.nlState n = 2 ∧ (d.nl n).switched = true)

/-- A frame that link n accepts (R402, R404): its framing and CRC hold, its number is the next, its length is the one it tells, and in UP its tag
verifies. -/
abbrev FrameGood (d : Dev) (n : Nat) (fr : LinkFrame) : Prop :=
  fr.framing = true ∧ fr.crc = crc16 fr.words ∧ fr.seq % 256 = ((d.nlHear n).nl n).rxExp ∧ frameLen fr ≤ 64 ∧
    fr.words.length = frameLen fr + frameTags fr + 2 ∧ ((d.nlHear n).nlUp n = true → fr.tagOk = true)

/-- The device after an accepted frame's number, count and beacon tags, before its body. -/
def Dev.heard (d : Dev) (now n : Nat) (fr : LinkFrame) : Dev :=
  let e := ((d.nlHear n).numberTaken now n).returnBufs now n (frameBufs fr)
  let f := e.setReg (R.NL_CNT_RX n) (e.reg (R.NL_CNT_RX n) + 1)
  if f.nlUp n then (fr.btagsOk.take (frameTags fr)).foldl (fun (d : Dev) b => d.tagArrives now n b) f else f

/-- The device with the registers of a list at 0. -/
def Dev.zeroed (d : Dev) (l : List Nat) : Dev := l.foldl (fun d a => d.setReg a 0) d

/-- What every step keeps: the timebase count does not pass the end of its 64 bits, and every command that waits can be sent (R27). -/
def State.inv (s : State) : Prop := s.now ≤ 2 ^ 64 ∧ ∀ c ∈ s.pending, c.wf = true

end Sys2Proof.Machine
end

