-- ==== Sys2Proof/Certificates/Slice0/Obligations.lean ====
section
/-!
DEFINITION. Certificates/Slice0/Obligations.lean: the statements for the provers. A command's own effect is stated on the device before settling:
`State.after` then lets domains that began or ceased to commit settle and forms waiting interrupt messages (SettlingChangesNothingElse).
-/

open Sys2Proof Sys2Proof.Machine

/-- CLR: the command of a block that clears its counters sets them to 0, and leaves everything else as the access left it (R92, R128, R156, R195,
R211, R223, R268, R269, R270, R298, R299, R300).
CLR of the remaining blocks, TRIM's on the LATE count of each of the 64 links, SYS's on the counts of mode changes and of refused commands
(R319, R320, R432, R433, R434, R448, R463, R482, R516). -/
def Obligations.ClearCommandsZeroTheirCounters : Prop :=
  (∀ (t : Nat) (who : Initiator) (s : State),
    (∀ n : Fin 8, Granted s who (R.WHL_CLR n) → exec (.whlClr t who n) s =
      .next (s.wrote t who (·.zeroed [R.WHL_CNT_ACC n, R.WHL_CNT_NOISE n, R.WHL_CNT_MISC n, R.WHL_CNT_DIAG n]))) ∧
    (∀ k : Fin 2, Granted s who (R.ANG_CTL k) → exec (.angClr t who k) s =
      .next (s.wrote t who (·.zeroed [R.ANG_CNT_A k, R.ANG_CNT_B k, R.ANG_CNT_C k]))) ∧
    (∀ k : Fin 2, Granted s who (R.PRED_CTL k) → exec (.predClr t who k) s =
      .next (s.wrote t who (·.zeroed [R.PRED_CNT_A k, R.PRED_CNT_B k, R.PRED_DSTAT k]))) ∧
    (Granted s who R.CARV_CTL → exec (.carvClr t who) s =
      .next (s.wrote t who (·.zeroed [R.CARV_CNT_A, R.CARV_CNT_B, R.CARV_CNT_C, R.CARV_CNT_D]))) ∧
    (Granted s who R.TRIG_CTL → exec (.trigClr t who) s = .next (s.wrote t who (·.zeroed [R.TRIG_OVF]))) ∧
    (∀ n : Fin 24, Granted s who (R.IGN_CTL n) → exec (.ignClr t who n) s =
      .next (s.wrote t who (·.zeroed [R.IGN_CNT_A n, R.IGN_CNT_B n, R.IGN_CNT_C n]))) ∧
    (∀ n : Fin 48, Granted s who (R.DRV_CTL n) → exec (.drvClr t who n) s =
      .next (s.wrote t who (·.zeroed [R.DRV_CNT_A n, R.DRV_CNT_B n, R.DRV_CNT_C n]))) ∧
    (∀ b : Fin 12, Granted s who (R.BANK_CTL b) → exec (.bankClr t who b) s =
      .next (s.wrote t who (·.zeroed [R.BANK_CNT_A b, R.BANK_CNT_B b]))) ∧
    (∀ k : Fin 2, Granted s who (R.BST_CTL k) → exec (.bstClr t who k) s =
      .next (s.wrote t who (·.zeroed [R.BST_CNT_A k, R.BST_CNT_B k, R.BST_CNT_C k]))) ∧
    (∀ k : Fin 8, Granted s who (R.ADC_CTL k) → exec (.adcClr t who k) s =
      .next (s.wrote t who (·.zeroed [R.ADC_CNT_CONV k, R.ADC_CNT_A k, R.ADC_CNT_B k]))) ∧
    (Granted s who R.SMPL_CTL → exec (.smplClr t who) s =
      .next (s.wrote t who (·.zeroed [R.SMPL_CNT_TAKEN, R.SMPL_CNT_A, R.SMPL_CNT_B]))) ∧
    (Granted s who R.KNK_CTL → exec (.knkClr t who) s = .next (s.wrote t who (·.zeroed [R.KNK_CNT_A, R.KNK_CNT_B])))) ∧
  (∀ (t : Nat) (who : Initiator) (s : State),
    (Granted s who R.CMB_CTL → exec (.cmbClr t who) s =
      .next (s.wrote t who (·.zeroed [R.CMB_CNT_A, R.CMB_CNT_B, R.CMB_CNT_C]))) ∧
    (Granted s who R.TRIM_CTL → exec (.trimClr t who) s =
      .next (s.wrote t who (fun d => (List.range 64).foldl (fun d n => d.set (F.TRIM_L_STAT_LATE n) 0) d))) ∧
    (∀ n : Fin 4, Granted s who (R.NL_CTL n) → exec (.nlClr t who n) s =
      .next (s.wrote t who (·.zeroed [R.NL_CNT_A n, R.NL_CNT_B n, R.NL_CNT_C n, R.NL_CNT_TX n, R.NL_CNT_RX n]))) ∧
    (Granted s who R.FAB_CTL → exec (.fabClr t who) s =
      .next (s.wrote t who (·.zeroed [R.FAB_CNT_A, R.FAB_CNT_B, R.FAB_CNT_C]))) ∧
    (Granted s who R.BEAC_CTL → exec (.beacClr t who) s =
      .next (s.wrote t who (·.zeroed [R.BEAC_CNT_A, R.BEAC_CNT_B, R.BEAC_CNT_C]))) ∧
    (Granted s who R.FCOL_CTL → exec (.firstClr t who) s = .next (s.wrote t who (·.zeroed [R.FCOL_FIRST_STAT]))) ∧
    (Granted s who R.FCOL_CTL → exec (.fcolClr t who) s =
      .next (s.wrote t who (·.zeroed [R.FCOL_CNT_A, R.FCOL_CNT_B, R.FCOL_CNT_C]))) ∧
    (Granted s who R.SYS_CTL → exec (.sysClr t who) s =
      .next (s.wrote t who (fun d => (d.zeroed [R.SYS_CNT_A]).set F.SYS_MODESTAT_REFUSED 0))) ∧
    (Granted s who R.MRAMC_CTL → exec (.mramcClr t who) s = .next (s.wrote t who (·.zeroed [R.MRAMC_CNT]))))

/-- Blocks whose ENABLE starts nothing by itself. -/
def plainBlock : Blk → Bool
  | .carv | .drv | .bank | .bst | .ign | .adc | .smpl | .knk | .cmb | .trim | .tmr | .beac => true
  | _ => false

/-- R48, R50, R58, R60: on a page of an ordinary block ENABLE_WRITE sets or clears ENABLE and PGEN counts it; FREEZE_WRITE sets FREEZE in CONFIG
and SERVICE and clears it anywhere, SHDW_HOLD_WRITE sets SHDW_HOLD, and PGEN counts neither; each repeats the other bits of `PCTL`. A FREEZE that
stands is repeated, which outside CONFIG and SERVICE is refused again and not stated here. No other register changes. ENABLE is written to 0 here where the block has no output or work to end, KNK's own registers apart, whose pending
words and filter coefficients then take effect.
Every form of a write of `PCTL`, on every page: the word written gives the bit its value, repeats ENABLE, FREEZE and SHDW_HOLD as they stand
and asks nothing else, and the page's control write is made of it (R48 to R51, R60). -/
def Obligations.PageControlBitsAreWritten : Prop :=
  (∀ (t : Nat) (who : Initiator) (pg : Fin 256) (b : Blk) (p : Nat) (s : State),
    let still := s.dev.frozen pg = false ∨ s.dev.mode = 4 ∨ s.dev.mode = 9
    pageInfo pg = some (b, p) → plainBlock b = true → Granted s who (R.PCTL pg) →
      (s.dev.enabled pg = false → still → Writes (.enableWrite t who pg true) s who (fun e d =>
        d.reg (R.PCTL pg) = e.reg (R.PCTL pg) ||| 1 ∧ d.reg (R.PGEN pg) = e.reg (R.PGEN pg) + 1 ∧
          (b = .adc → s.dev.knkAnyOpen = false → OnlyRegs e d [R.PCTL pg, R.PGEN pg]) ∧
          (b = .smpl ∨ b = .knk → (∀ a, a ≠ R.PCTL pg → a ≠ R.PGEN pg → d.reg a = e.reg a) ∧ d.mem = e.mem) ∧
          (b ≠ .adc → b ≠ .smpl → b ≠ .knk → OnlyRegs e d [R.PCTL pg, R.PGEN pg]))) ∧
      (s.dev.enabled pg = true → still → (b = .carv ∨ b = .knk ∨ b = .trim ∨ b = .beac) → Writes (.enableWrite t who pg false) s who (fun e d =>
        d.reg (R.PCTL pg) = e.reg (R.PCTL pg) &&& ~~~1#32 ∧
          ((∀ x ∈ s.dev.shadow, pageOf x.1 ≠ pg.val) → d.reg (R.PGEN pg) = e.reg (R.PGEN pg) + 1 ∧ (b ≠ .knk → OnlyRegs e d [R.PCTL pg, R.PGEN pg])))) ∧
      (s.dev.frozen pg = false → (s.dev.mode = 4 ∨ s.dev.mode = 9) → Writes (.freezeWrite t who pg true) s who (fun e d =>
        d.reg (R.PCTL pg) = e.reg (R.PCTL pg) ||| 2 ∧ OnlyRegs e d [R.PCTL pg])) ∧
      (s.dev.frozen pg = true → b ≠ .tmr → Writes (.freezeWrite t who pg false) s who (fun e d =>
        d.reg (R.PCTL pg) = e.reg (R.PCTL pg) &&& ~~~2#32 ∧ OnlyRegs e d [R.PCTL pg])) ∧
      (still → Writes (.shdwHoldWrite t who pg true) s who (fun e d =>
        d.reg (R.PCTL pg) = e.reg (R.PCTL pg) ||| 16 ∧ OnlyRegs e d [R.PCTL pg, R.PGEN pg] ∧
          (s.dev.flag (F.PCTL_SHDW_HOLD pg) = false → d.reg (R.PGEN pg) = e.reg (R.PGEN pg))))) ∧
  (∀ (t : Nat) (who : Initiator) (pg : Fin 256) (b : Blk) (p : Nat) (s : State),
    pageInfo pg = some (b, p) → s.dev.mayWrite who (R.PCTL pg) 0 = true →
      (∀ on, exec (.enableWrite t who pg on) s = .next (s.wrote t who (fun d =>
        d.pctlWrite (s.clock t) pg b p (wordSet (s.dev.reg (R.PCTL pg) &&& 0x13) 0 0 on.toNat)))) ∧
      (∀ on, exec (.freezeWrite t who pg on) s = .next (s.wrote t who (fun d =>
        d.pctlWrite (s.clock t) pg b p (wordSet (s.dev.reg (R.PCTL pg) &&& 0x13) 1 1 on.toNat)))) ∧
      (∀ on, exec (.shdwHoldWrite t who pg on) s = .next (s.wrote t who (fun d =>
        d.pctlWrite (s.clock t) pg b p (wordSet (s.dev.reg (R.PCTL pg) &&& 0x13) 4 4 on.toNat)))) ∧
      exec (.presetAll t who pg) s = .next (s.wrote t who (fun d =>
        d.pctlWrite (s.clock t) pg b p (wordSet (s.dev.reg (R.PCTL pg) &&& 0x13) 3 3 1))) ∧
      exec (.blockRestart t who pg) s = .next (s.wrote t who (fun d =>
        d.pctlWrite (s.clock t) pg b p (wordSet (s.dev.reg (R.PCTL pg) &&& 0x13) 2 2 1))))

/-- R46, R53, R57: PIRQ_CLEAR clears the written bits of `PIRQ`, but for those whose hardware setting it meets, which end at 1; PIFRC_WRITE
sets the written bits, and both present the request anew to the interrupt
controller; PLOCK_WRITE runs the lock sequence: the first key takes the page for its writer, the second, from the same writer as its next write,
unlocks it, and any other value locks it. -/
def Obligations.InterruptBitsAndLockKeysAreWritten : Prop :=
  ∀ (t : Nat) (who : Initiator) (pg : Fin 256) (b : Blk) (p : Nat) (v met : Word) (s : State), pageInfo pg = some (b, p) →
    (Granted s who (R.PIRQ pg) → Writes (.pirqClear t who pg ⟨v, met⟩) s who (fun e d =>
      d.reg (R.PIRQ pg) = (e.reg (R.PIRQ pg) &&& ~~~v) ||| (v &&& met) ∧ (∀ a, a ≠ R.PIRQ pg → a ≠ R.INTC_CNT → d.reg a = e.reg a) ∧ d.mem = e.mem)) ∧
    (Granted s who (R.PIFRC pg) → Writes (.pifrcWrite t who pg v) s who (fun e d =>
      d.reg (R.PIRQ pg) = e.reg (R.PIRQ pg) ||| v ∧ (∀ a, a ≠ R.PIRQ pg → a ≠ R.INTC_CNT → d.reg a = e.reg a) ∧ d.mem = e.mem)) ∧
    (Granted s who (R.PLOCK pg) → Writes (.plockWrite t who pg v) s who (fun e d =>
      OnlyRegs e d [R.PLOCK pg] ∧
      (let own := e.get (F.PLOCK_OWNER pg)
       if v = 0x4C0C ∧ (own = 7 ∨ own = who.code) then
         d.flag (F.PLOCK_FIRST pg) = true ∧ d.flag (F.PLOCK_UNLOCKED pg) = false ∧ d.get (F.PLOCK_OWNER pg) = who.code
       else if v = 0xC0C4 ∧ e.flag (F.PLOCK_FIRST pg) = true ∧ own = who.code then
         d.flag (F.PLOCK_FIRST pg) = false ∧ d.flag (F.PLOCK_UNLOCKED pg) = true ∧ d.get (F.PLOCK_OWNER pg) = who.code
       else d.flag (F.PLOCK_FIRST pg) = false ∧ d.flag (F.PLOCK_UNLOCKED pg) = false ∧ d.get (F.PLOCK_OWNER pg) = 7)))

/-- R21, R22, R452: a fall of VDDC below 0.72 V sets both UNDERSPEC bits and reports 0x08, the fall through 0.65 V also sets BROWNOUT, reports
0x09 and enters SAFE for it, a rise to 0.75 V clears UNDERSPEC; VDDA and VB low report 0x0B and 0x0C of the analog die with the voltage measured,
once for each time they fall; a repeated or failed command to the analog die reports 0x0D or 0x0E with its channel.
R17, R18: each window of the stage meter gives the mean of the latest 2^AVG_LOG2 readings, rounded half up, in `STGM_NOW`, its extremes in
MIN and MAX, and the supply in `VMON`; CLR, which stands until the window ends, begins the extremes afresh, and that its own reading then enters
(the model's choices: the running mean and this order, notes/assumptions/82.md). -/
def Obligations.SuppliesAndStageTimesAreWatched : Prop :=
  (∀ (t mv : Nat) (chan : Fin 104) (s : State),
    (s.dev.supply.under = false → 680 ≤ mv → mv < 720 → Does (.vddcUnderspec t mv) s (fun _ d =>
      ({ (d.put F.SYS_STGM_STAT_UNDERSPEC true).put F.SYS_VMON_UNDERSPEC true with supply := { d.supply with under := true } }).rep P.SYS 0x08 1)) ∧
    (s.dev.supply.under = true → mv < 680 → Does (.vddcUnderspec t mv) s (fun _ d =>
      { d with supply := { d.supply with vddcGoodSince := none } })) ∧
    (750 ≤ mv → s.dev.supply.vddcGoodSince = none → Does (.vddcRecover t mv) s (fun now d =>
      { (d.put F.SYS_STGM_STAT_UNDERSPEC false).put F.SYS_VMON_UNDERSPEC false with
        supply := { d.supply with under := false, brown := false, vddcGoodSince := some now } })) ∧
    (s.dev.supply.under = true → s.dev.supply.brown = false → Does (.brownout t) s (fun now d =>
      ((({ d with supply := { d.supply with brown := true, vddcGoodSince := none } }).put F.SYS_VMON_BROWNOUT true).rep P.SYS 0x09 2).safeEnter
        now F.SYS_SAFE_BROWNOUT)) ∧
    (s.dev.supply.vddaLow = false → Does (.vddaLow t true mv) s (fun _ d =>
      ({ d with supply := { d.supply with vddaLow := true } }).report { src := 0xE3, kind := 0x0B, cls := 1, detail := 0, arg := mv })) ∧
    Does (.vddaLow t false mv) s (fun _ d => { d with supply := { d.supply with vddaLow := false } }) ∧
    (s.dev.supply.vbLow = false → Does (.vbLow t true mv) s (fun _ d =>
      ({ d with supply := { d.supply with vbLow := true } }).report { src := 0xE3, kind := 0x0C, cls := 1, detail := 0, arg := mv })) ∧
    Does (.vbLow t false mv) s (fun _ d => { d with supply := { d.supply with vbLow := false } }) ∧
    (s.dev.supply.forcedOff = false → Does (.d2dCommandFail t chan true) s (fun _ d =>
      ({ d with supply := { d.supply with forcedOff := false } }).report { src := 0xE3, kind := 0x0D, cls := 0, detail := 0, arg := chan })) ∧
    Does (.d2dCommandFail t chan false) s (fun now d =>
      let e := ((d.softForceNow now).allOff now).report { src := 0xE3, kind := 0x0E, cls := 2, detail := 0, arg := chan }
      { e with supply := { e.supply with forcedOff := true } })) ∧
  (∀ (t stage mv : Nat) (s : State),
    let v := meanOf (((min stage 0xFFFFF :: s.dev.supply.stgHist).take 1024).take (2 ^ min (s.dev.get F.SYS_STGM_CTL_AVG_LOG2) 10))
    Completes (.stageMeterWindow t stage mv) s (fun d =>
      d.reg R.SYS_STGM_NOW = w32 v ∧
      (s.dev.flag F.SYS_STGM_CTL_CLR = false →
        d.reg R.SYS_STGM_MIN = w32 (min v (s.dev.reg R.SYS_STGM_MIN).toNat) ∧ d.reg R.SYS_STGM_MAX = w32 (max v (s.dev.reg R.SYS_STGM_MAX).toNat)) ∧
      (s.dev.flag F.SYS_STGM_CTL_CLR = true →
        d.reg R.SYS_STGM_MIN = w32 (min v 0xFFFFF) ∧ d.reg R.SYS_STGM_MAX = w32 v ∧ d.flag F.SYS_STGM_CTL_CLR = false) ∧
      d.get F.SYS_VMON_VDDC = min mv 4095 ∧ d.mem = s.dev.mem) ∧
    ∀ who : Initiator, Granted s who R.SYS_STGM_CTL →
      exec (.stgmClr t who) s = .next (s.wrote t who (fun d => (d.bumpGen P.SYS).put F.SYS_STGM_CTL_CLR true)))

/-- R26, R31: a loss of the reference clears REF_OK and CAL_LOCK, sets HOLDOVER, counts and reports 0x0A of class S, once until the next lock; the
lock that follows sets them back, takes REF_SRC from REFSEL and steps the count to the multiple of 512 the reference implies when that is not
behind it, and otherwise slews by the difference; the end of the slew clears SLEW and `TB_SLEW`. A new REFSEL drops the lock without a report
and gives the new source 10 ms; then the loss is counted and reported. -/
def Obligations.TheTimebaseFollowsTheReference : Prop :=
  ∀ (t : Nat) (span : BitVec 16) (s : State),
    let lost := fun (d : Dev) => ((((d.put F.TB_STAT_REF_OK false).put F.TB_STAT_HOLDOVER true).put F.TB_STAT_CAL_LOCK false).put
      F.TB_STAT_SLEW false).setReg R.TB_SLEW 0
    let locked := fun (now : Nat) (d : Dev) =>
      { ((((d.put F.TB_STAT_REF_OK true).put F.TB_STAT_HOLDOVER false).put F.TB_STAT_CAL_LOCK true).set F.TB_STAT_RAW_SPAN span.toNat).set
          F.TB_STAT_REF_SRC (d.get F.TB_CTL_REFSEL) with supply := { d.supply with refselBy := none, slewAt := now } }
    let now := s.clock t
    let implied := (now + 256) / 512 * 512
    (s.dev.flag F.TB_STAT_REF_OK = true → Does (.referenceLoss t) s (fun _ d => ((lost d).incSat F.TB_LOSS_LOSS_CNT).rep P.TBASE 0x0A 2)) ∧
    (s.dev.flag F.TB_STAT_HOLDOVER = true → now ≤ implied →
      exec (.referenceRelock t span) s = .next { s with now := implied, dev := locked now s.dev }) ∧
    (s.dev.flag F.TB_STAT_HOLDOVER = true → implied < now → exec (.referenceRelock t span) s =
      .next { s with now := now, dev := ((locked now s.dev).put F.TB_STAT_SLEW true).setReg R.TB_SLEW (w32 (now - implied)) }) ∧
    (s.dev.flag F.TB_STAT_SLEW = true → s.dev.slewOfs now = 0 → Does (.slewEnd t) s (fun _ d =>
      (d.put F.TB_STAT_SLEW false).setReg R.TB_SLEW 0)) ∧
    (∀ by_, s.dev.supply.refselBy = some by_ → by_ ≤ now → Does (.refselRelockTimeout t) s (fun _ d =>
      ((lost { d with supply := { d.supply with refselBy := none } }).incSat F.TB_LOSS_LOSS_CNT).rep P.TBASE 0x0A 2)) ∧
    (∀ (who : Initiator) (v : Fin 2), Granted s who R.TB_CTL → s.dev.unlocked who P.TBASE = true → v.val ≠ s.dev.get F.TB_CTL_REFSEL → s.dev.mode = 4 ∨ s.dev.mode = 9 →
      Writes (.refselWrite t who v) s who (fun e d =>
        d.get F.TB_CTL_REFSEL = v ∧ d.flag F.TB_STAT_REF_OK = false ∧ d.flag F.TB_STAT_HOLDOVER = true ∧ d.flag F.TB_STAT_CAL_LOCK = false ∧
          d.reg R.TB_SLEW = 0 ∧ d.reg R.TB_LOSS = e.reg R.TB_LOSS ∧ d.fcol = e.fcol ∧
          d.supply = { e.supply with refselBy := some (s.clock t + 128000000) }))

/-- R23, R27, R477, R478: a collapse of VDDC and a low pulse of 1 µs on PORn return the digital die to power-on: the count starts at 0 and every
register that neither the Oasis domain nor MRAM holds reads its reset value; a pulse below 200 ns is ignored. The first lock of the calibrator
starts the count at 0 and sets REF_OK and CAL_LOCK. Core supply good, once, records the cause of the power-up, offers PIRQ 0 of SYS and starts SUP. -/
def Obligations.PowerOnClearsTheDieAndTheFirstLockStartsTheCount : Prop :=
  ∀ (t mv ns : Nat) (span : BitVec 16) (pinLow vbat : Bool) (s : State),
    let cleared := fun (c : Instr) => ∃ d, exec c s = .next { s with now := 0, dev := d } ∧
      ∀ a, keptOff a = false → a ≠ R.MRAMC_WMAX → a ≠ R.MRAMC_WBLK → a ≠ R.MRAMC_LHEAD → d.reg a = resetWord a
    (mv < 620 → cleared (.vddcCollapse t mv)) ∧
    (1000 ≤ ns → cleared (.pornLow t ns)) ∧
    (ns < 200 → exec (.pornLow t ns) s = .next { s with now := s.clock t }) ∧
    (s.dev.supply.started = false → exec (.calibratorFirstLock t span) s = .next { s with
      now := 0, dev := { ((s.dev.put F.TB_STAT_REF_OK true).put F.TB_STAT_CAL_LOCK true).set F.TB_STAT_RAW_SPAN span.toNat with
        supply := { s.dev.supply with started := true } } }) ∧
    (s.dev.supply.started = true → exec (.calibratorFirstLock t span) s = .next { s with now := s.clock t }) ∧
    (s.dev.sys.good = false → Completes (.coreSupplyGood t pinLow vbat) s (fun d =>
      d.get F.SYS_PWRUP_CAUSE = (s.dev.sys.por.getD vbat.toNat) % 8 ∧ d.sys.good = true ∧ d.sys.booting = true ∧ d.sys.por = none ∧
        d.flag F.OPWR_WAKE_SYSHOLD = true ∧ d.flag F.OPWR_WAKE_PEND = false ∧ (d.hart 0).running = true ∧
        (d.reg (R.PIRQ P.SYS)).getLsbD 0 = true ∧ d.supply.vddcGoodSince = some (s.clock t)))

/-- R29, R92, R128, R156, R223, R268, R298, R338, R432, R434, R448, R482, R523: a read of the first word of a value of several words gives that
word and latches the others for its initiator alone; the time base count is the grant time.
Reads that show or change more than a register: `PRED_ANGLE` the angle at the grant time, latching that time (R140); `PIO_RX` the word
received, emptying it, or 0 with RX_UNF and PIRQ 9 (R351); `INTC_CLAIM` the pin's best source, which becomes active, or 0x1FF (R387); `RTC_SUB` the
count it meets, latching the second (R523); Oasis RAM, whose parity error sets RAM_PERR and PIRQ 2 and is reported (R527). -/
def Obligations.ReadsLatchAndAct : Prop :=
  (∀ (t : Nat) (who : Initiator) (s : State),
    (Readable s R.TB_NOW_LO → exec (.tbNowLoRead t who) s =
      .next (s.readOut t who (fun d => d.setLatch who R.TB_NOW_HI (hi32 (s.clock t))) (fun _ => lo32 (s.clock t)))) ∧
    (∀ n : Fin 8, Readable s (R.WHL_LAST_LO n) → Reads (.whlLastLoRead t who n) s who (R.WHL_LAST_LO n) [R.WHL_LAST_HI n, R.WHL_RATIO n]) ∧
    (∀ k : Fin 2, Readable s (R.ANG_POS k) → Reads (.angPosRead t who k) s who (R.ANG_POS k) [R.ANG_TANGLE k, R.ANG_CYC k]) ∧
    (∀ k : Fin 2, Readable s (R.PRED_TK_LO k) → Reads (.predTkLoRead t who k) s who (R.PRED_TK_LO k)
      [R.PRED_TK_HI k, R.PRED_THK k, R.PRED_OMG_LO k, R.PRED_OMG_HI k, R.PRED_ACC_LO k, R.PRED_ACC_HI k, R.PRED_PNEXT k, R.PRED_DEFF k]) ∧
    (∀ n : Fin 24, Readable s (R.IGN_LAST_LO n) → Reads (.ignLastLoRead t who n) s who (R.IGN_LAST_LO n)
      [R.IGN_LAST_HI n, R.IGN_LAST_DW n, R.IGN_LAST_FB n]) ∧
    (∀ n : Fin 48, Readable s (R.DRV_LAST_LO n) → Reads (.drvLastLoRead t who n) s who (R.DRV_LAST_LO n)
      [R.DRV_LAST_HI n, R.DRV_LAST_ARM n, R.DRV_LAST_I n]) ∧
    (∀ k : Fin 8, Readable s (R.ADC_SWRES k) → Reads (.adcSwresRead t who k) s who (R.ADC_SWRES k) [R.ADC_SWTS_LO k, R.ADC_SWTS_HI k]) ∧
    (∀ k : Fin 32, Readable s (R.TMR_WRAP_LO k) → Reads (.tmrWrapLoRead t who k) s who (R.TMR_WRAP_LO k) [R.TMR_WRAP_HI k]) ∧
    (∀ n : Fin 4, Readable s (R.NL_PEER n 0) → Reads (.nlPeer0Read t who n) s who (R.NL_PEER n 0) [R.NL_PEER n 1, R.NL_PEER n 2, R.NL_PEER n 3]) ∧
    (∀ f : Fin 4, Readable s (R.BEAC_STAT f) → Reads (.beacStatRead t who f) s who (R.BEAC_STAT f) [R.BEAC_AGE f]) ∧
    (Readable s R.FCOL_FIRST_W0 → Reads (.fcolFirstW0Read t who) s who R.FCOL_FIRST_W0
      [R.FCOL_FIRST_W1, R.FCOL_FIRST_TS_LO, R.FCOL_FIRST_TS_HI]) ∧
    (Readable s R.SYS_SAFE_TS_LO → Reads (.sysSafeTsLoRead t who) s who R.SYS_SAFE_TS_LO [R.SYS_SAFE_TS_HI]) ∧
    (Readable s R.RTC_TB_LO → Reads (.rtcTbLoRead t who) s who R.RTC_TB_LO [R.RTC_TB_HI, R.RTC_TB_SEC])) ∧
  (∀ (t : Nat) (who : Initiator) (s : State),
    (∀ k : Fin 2, Readable s (R.PRED_ANGLE k) → exec (.predAngleRead t who k) s = .next (s.readOut t who
      (fun d => (d.setLatch who (R.PRED_ATS_LO k) (lo32 (s.clock t))).setLatch who (R.PRED_ATS_HI k) (hi32 (s.clock t)))
      (fun d => w32 (d.theta k (s.clock t))))) ∧
    (∀ n : Fin 8, Readable s (R.PIO_RX n) →
      let d := (s.dev.access (s.clock t) who).pioSettle (s.clock t) n
      (d.flag (F.PIO_STAT_RXF n) = true → exec (.pioRxRead t who n) s =
        .next (s.after t ((d.put (F.PIO_STAT_RXF n) false).readResult (d.eng n).rx .ok))) ∧
      (d.flag (F.PIO_STAT_RXF n) = false → exec (.pioRxRead t who n) s =
        .next (s.after t (((d.put (F.PIO_STAT_RX_UNF n) true).irq (P.PIO n) 9).readResult 0 .ok)))) ∧
    (∀ n : Fin 4, Readable s (R.INTC_CLAIM n) →
      let d := s.dev.access (s.clock t) who
      (d.pinSource n = none → exec (.intcClaim t who n) s = .next (s.after t (d.readResult 0x1FF .ok))) ∧
      (∀ src, d.pinSource n = some src → exec (.intcClaim t who n) s = .next (s.after t
        ((({ d with intc := d.intc.setAct src }).intcRefresh).readResult (w32 (d.prio src * 0x10000 + src)) .ok)))) ∧
    (∀ sub : Fin 32768, Readable s R.RTC_SUB → exec (.rtcSubRead t who sub) s = .next (s.readOut t who
      (fun d => (d.set F.RTC_SUB_SUB sub).setLatch who R.RTC_SEC (d.reg R.RTC_SEC)) (fun _ => w32 sub))) ∧
    (∀ w : Fin 64, Readable s (R.OPWR_RAM w) → exec (.oasisRamRead t who w none) s =
      .next (s.readOut t who id (fun d => d.reg (R.OPWR_RAM w)))) ∧
    (∀ (w : Fin 64) (b : Fin 4), Readable s (R.OPWR_RAM w) → Completes (.oasisRamRead t who w (some b)) s (fun d =>
      d.port.rdata = s.dev.reg (R.OPWR_RAM w) ∧ d.port.res = 0 ∧ d.flag F.OPWR_STAT_RAM_PERR = true ∧ (d.reg (R.PIRQ P.OPWR)).getLsbD 2 = true)))

/-- PRESET_WRITE: a code of the table loads the preset of its function, which counts as one configuration write of the page, and commits at once where
the page does (R10, R58, R59). ANG refuses the code while it is enabled where it would change STROKE (R126).
R10: a loaded preset gives every expert field of its function the value of the preset table, and PRESET and MODE read the preset code. -/
def Obligations.PresetWritesLoadTheirFunction : Prop :=
  (∀ (t : Nat) (who : Initiator) (pg : Fin 256) (b : Blk) (p pa : Nat) (code : Fin 16) (s : State),
    pageInfo pg = some (b, p) → pa ∈ presetWords b p → Granted s who pa → 1 ≤ code.val → code.val ≤ presetTop b →
      (b = .ang → s.dev.enabled pg = false) →
      exec (.presetWrite t who pa code) s =
        .next (s.wrote t who (fun d => ((d.loadPreset b p pa code).bumpGen pg).settlePage (s.clock t) b p))) ∧
  (∀ (d : Dev) (pg : Fin 256) (b : Blk) (p pa : Nat) (code : Fin 16),
    pageInfo pg = some (b, p) → pa ∈ presetWords b p → 1 ≤ code.val → code.val ≤ presetTop b →
      (∀ e ∈ presetRows b p pa, (d.loadPreset b p pa code).get e.1 = e.2.getD (code.val - 1) 0) ∧
      (d.loadPreset b p pa code).get ⟨pa, 3, 0⟩ = code.val ∧ (d.loadPreset b p pa code).get ⟨pa, 7, 4⟩ = code.val ∧
      (d.loadPreset b p pa code).mem = d.mem)

/-- R42, R46, R52, R55, R56: a register write whose page is granted has the effect of its register: PIEN and PACC take the word, a block's register the
block's write. A write the initiator may not make is discarded, reported with kind 0x02 and answered PERM; one to a restarting page
is discarded and answered BUSY; where no page is allocated it is answered ADDR.
R7, R8, R90: a word written to a register acts field by field: a writable field takes its part of the word, brought into the field's range, or
keeps its value where the code is reserved; a 1 written to a W1C field clears its bit; every other field keeps its value. -/
def Obligations.RegisterWritesAreCheckedAndMade : Prop :=
  (∀ (t : Nat) (who : Initiator) (v : Word) (s : State),
    (∀ (pg : Fin 256) (b : Blk) (p : Nat), pageInfo pg = some (b, p) → Granted s who (R.PIEN pg) →
      Writes (.registerWrite t who (R.PIEN pg) v) s who (fun e d => d.reg (R.PIEN pg) = v ∧
        (∀ a, a ≠ R.PIEN pg → a ≠ R.INTC_CNT → d.reg a = e.reg a) ∧ d.mem = e.mem)) ∧
    (∀ (pg : Fin 256) (b : Blk) (p : Nat), pageInfo pg = some (b, p) → Granted s .sup (R.PACC pg) →
      Writes (.registerWrite t .sup (R.PACC pg) v) s .sup (fun e d => d.reg (R.PACC pg) = v &&& 0xF ∧
        d.reg (R.PGEN pg) = e.reg (R.PGEN pg) + 1 ∧ OnlyRegs e d [R.PACC pg, R.PGEN pg])) ∧
    (∀ (a : Nat) (b : Blk) (p i : Nat) (row : RRow), isPageAddr a = true → a % 4 = 0 → 0x40 ≤ a % 0x1000 → pageInfo (pageOf a) = some (b, p) →
      rowAt b p (a % 0x1000) = some (row, i) → b ≠ .cmb → rwlMask row.fields = 0 ∨ s.dev.unlocked who (pageOf a) = true → Granted s who a v →
      exec (.registerWrite t who a v) s = .next (s.wrote t who (fun d => d.blockWrite (s.clock t) who b p a row i v))) ∧
    (∀ a, isPageAddr a = true → a % 4 = 0 → s.dev.restarting (pageOf a) = false ∨ a % 0x1000 = 8 → s.dev.mayWrite who a v = false →
      exec (.registerWrite t who a v) s = .next (s.after t
        ((((s.dev.access (s.clock t) who).rep (pageOf a) 0x02 0 who.code).result .perm).coreFault who true a))) ∧
    (∀ a, isPageAddr a = true → a % 4 = 0 → s.dev.restarting (pageOf a) = true → a % 0x1000 ≠ 8 →
      exec (.registerWrite t who a v) s = .next (s.after t ((s.dev.access (s.clock t) who).result .busy))) ∧
    (∀ a, isPageAddr a = false → inWindow a = false → coreMem who a = none →
      exec (.registerWrite t who a v) s = .next (s.after t ((s.dev.result .addr).coreFault who true a)))) ∧
  (∀ (pg : Fin 256) (b : Blk) (p o i : Nat) (row : RRow) (old v : Word), pageInfo pg = some (b, p) → rowAt b p o = some (row, i) →
    ∀ f ∈ row.fields, wordGet (takeFields old v row.fields).1 f.hi f.lo =
      if f.cfg then
        match f.rng with
        | .any => wordGet v f.hi f.lo
        | .clamp lo hi => clampN (wordGet v f.hi f.lo) lo hi
        | .codes top => if top < wordGet v f.hi f.lo then wordGet old f.hi f.lo else wordGet v f.hi f.lo
      else if f.acc = .w1c then wordGet (old &&& ~~~v) f.hi f.lo
      else wordGet old f.hi f.lo)

/-- R42, R43, R44, R58, R364, R508: a store of 1, 2 or 4 bytes to a window. Into shared SRAM it writes exactly its bytes, low byte first, and takes any
core's reservation on the block. Into another window, where the owner page admits the initiator and the block does not bar it, the word stands there but for its
reserved bits, clamped where the field is; either counts once in the owner's generation. An address beyond what is implemented discards it; where the page does
not admit it or the block bars it, memory stands and the answer is PERM, as in MRAM's window. A program word of a pin engine is taken while the engine is halted. The
low byte first is the model's choice (notes/assumptions/1.md lists it with the order of bytes). -/
def Obligations.WindowStoresWriteTheirBytes : Prop :=
  ∀ (t : Nat) (who : Initiator) (a size : Nat) (v : Word) (s : State), (size = 1 ∨ size = 2 ∨ size = 4) → a % size = 0 →
    let d0 := s.dev
    let b := a / 4 * 4
    let w := subWord (d0.word b) a size v
    let may := fun (pg : Nat) => d0.pacc who pg = true ∧ d0.bootBars who pg = false
    let stored := fun (pg : Nat) (x : Word) => Completes (.windowWrite t who a size v) s (fun d => d.word b = x ∧
      (∀ y, y < b ∨ b + 4 ≤ y → d.byte y = d0.byte y) ∧ d.reg (R.PGEN pg) = d0.reg (R.PGEN pg) + 1 ∧ d.port.res = 0)
    let barred := fun (pg : Nat) => Completes (.windowWrite t who a size v) s (fun d => d.mem = d0.mem ∧ d.port.res = 1 ∧
      d.reg (R.PGEN pg) = d0.reg (R.PGEN pg))
    (0x20000000 ≤ a → a + size ≤ 0x20100000 → may P.RING →
      Completes (.windowWrite t who a size v) s (fun d =>
        (∀ i, i < size → d.byte (a + i) = v.extractLsb' (8 * i) 8) ∧
        (∀ x, x < a ∨ a + size ≤ x → d.byte x = d0.byte x) ∧
        d.reg (R.PGEN P.RING) = d0.reg (R.PGEN P.RING) + 1 ∧ d.port.res = 0 ∧
        ∀ h : Fin 3, (d0.hart h).resv = some (a / 32) → (d.hart h).resv = none)) ∧
    (0x60000000 ≤ a → a < 0x61000000 → barred P.MRAMC) ∧
    (inWindow a = true → a < 0x60000000 → winOwner b = none → Does (.windowWrite t who a size v) s (fun _ d => d.result .ok)) ∧
    (∀ pg, winOwner b = some pg → ¬ may pg → barred pg) ∧
    (∀ k : Fin 2, winOwner b = some (P.ANG k) → may (P.ANG k) →
      (d0.enabled (P.ANG k) = true → barred (P.ANG k)) ∧ (d0.enabled (P.ANG k) = false → stored (P.ANG k) (w &&& 0x3FFFFFFF))) ∧
    (∀ k : Fin 2, winOwner b = some (P.PRED k) → may (P.PRED k) →
      (b % 8 = 0 → d0.flag (F.PRED_DUNE_LEARN k) = true → barred (P.PRED k)) ∧
      (b % 8 = 0 → d0.flag (F.PRED_DUNE_LEARN k) = false → Completes (.windowWrite t who a size v) s (fun d =>
        wordGet (d.word b) 31 16 = min 0xC000 (max 0x4000 (wordGet w 31 16)) ∧ wordGet (d.word b) 15 8 = wordGet w 15 8 ∧ wordGet (d.word b) 7 0 = 0 ∧
          (∀ y, y < b ∨ b + 8 ≤ y → d.byte y = d0.byte y) ∧ d.reg (R.PGEN (P.PRED k)) = d0.reg (R.PGEN (P.PRED k)) + 1 ∧ d.port.res = 0)) ∧
      (b % 8 = 4 → Completes (.windowWrite t who a size v) s (fun d =>
        wordGet (d.word b) 15 0 = wordGet w 15 0 ∧ wordGet (d.word b) 30 16 = 0 ∧
          (∀ y, y < b - 4 ∨ b + 4 ≤ y → d.byte y = d0.byte y) ∧ d.reg (R.PGEN (P.PRED k)) = d0.reg (R.PGEN (P.PRED k)) + 1 ∧ d.port.res = 0))) ∧
    (winOwner b = some P.PROF → may P.PROF → stored P.PROF (w &&& winMask b)) ∧
    (winOwner b = some P.SMPL → may P.SMPL →
      let busy := d0.runEn (b % 0x1000 / 0x100) (b % 0x100 / 0x10) || d0.runAct (b % 0x1000 / 0x100) (b % 0x100 / 0x10)
      (busy = true → barred P.SMPL) ∧ (busy = false → stored P.SMPL w)) ∧
    (winOwner b = some P.CMB → may P.CMB →
      let busy := if b < 0x41204000 then (d0.reg R.CMB_CYLEN).getLsbD (b % 0x1000 / 0x20) else d0.vtabBusy ((b - 0x41204000) / 0x2000)
      (busy = true → barred P.CMB) ∧ (busy = false → stored P.CMB (if b < 0x41204000 then cylClamp b w else w))) ∧
    (∀ n : Fin 8, winOwner b = some (P.PIO n) → may (P.PIO n) →
      let e := d0.pioSettle (s.clock t) n
      (e.pioState n = 0 → Completes (.windowWrite t who a size v) s (fun d => d.word b = w &&& 0xFFFF ∧
        (∀ y, y < b ∨ b + 4 ≤ y → d.byte y = e.byte y) ∧ d.reg (R.PIO_PROGGEN n) = genNext (e.reg (R.PIO_PROGGEN n)) ∧ d.port.res = 0)) ∧
      (e.pioState n ≠ 0 → Completes (.windowWrite t who a size v) s (fun d => d.mem = e.mem ∧ d.flag (F.PIO_STAT_PROG_REFUSED n) = true ∧
        (d.reg (R.PIRQ (P.PIO n))).getLsbD 6 = true ∧ d.port.res = 0)))

/-- R51, R52: in a block restart the registers of the page take their reset values but for what the chapter keeps, and every other page keeps its
registers; RESTARTING and RESTART read 1 (stated where the restart touches nothing but its own page) until its end clears both. -/
def Obligations.ABlockRestartResetsItsPage : Prop :=
  (∀ (d : Dev) (pg : Fin 256) (b : Blk) (p a : Nat), pageInfo pg = some (b, p) → smSorted d.regs = true →
    (d.resetPage pg b p).reg a = if pageOf a = pg ∧ isPageAddr a = true then
      (let m := keptMask b p (a % 0x1000) (d.keepsEnable b p); (d.reg a &&& m) ||| (resetWord a &&& ~~~m))
    else d.reg a) ∧
  (∀ (t : Nat) (who : Initiator) (pg : Fin 256) (b : Blk) (p : Nat) (s : State), pageInfo pg = some (b, p) →
    (b = .trig ∨ b = .hostp ∨ b = .sec ∨ b = .mramc ∨ b = .beac ∨ b = .mon) → Granted s who (R.PCTL pg) →
    Writes (.blockRestart t who pg) s who (fun _ d => d.restarting pg = true ∧ d.flag (F.PCTL_RESTART pg) = true)) ∧
  (∀ (t : Nat) (pg : Fin 256) (s : State), s.dev.restarting pg = true →
    (∀ p, pageInfo pg ≠ some (.nl, p) ∧ pageInfo pg ≠ some (.core, p)) →
    Does (.blockRestartDone t pg) s (fun _ d => (d.put (F.PSTAT_RESTARTING pg) false).put (F.PCTL_RESTART pg) false))

/-- R65, R69, R70: a host transaction whose CRC is wrong (code 1), whose command word is none (2) or whose first word is unmapped (3) moves no word:
the response is the code, the tag unless the CRC was wrong, NDONE 0 and, to a read, zeros; LASTCODE, the code's sticky bit and its interrupt bit
are set. The CRC of the response covers it. -/
def Obligations.HostTransactionsAreCheckedFirst : Prop :=
  ∀ (t : Nat) (cmd addr : Word) (crc : BitVec 16) (data : List Word) (err : Fin 3) (met : List Grant) (k : Fin 257) (code : Nat) (s : State),
    let st := w32 (code * 0x10000000 + (if code = 1 then 0 else wordGet cmd 15 8) * 0x10000)
    let told := fun (l : List Word) (d : Dev) => d.port.status = st ∧ d.port.data = l ∧ d.port.crc = crc16 (st :: l) ∧ d.mem = s.dev.mem ∧
      d.get F.HOSTP_STAT_LASTCODE = code ∧ (d.reg R.HOSTP_STAT).getLsbD (code - 1) = true ∧ (d.reg (R.PIRQ P.HOSTP)).getLsbD (code - 1) = true
    let none_ := List.replicate (wordGet cmd 23 16 + 1) (0 : Word)
    (hostCheck false cmd addr [] crc = some code → Completes (.hostRead t cmd addr crc ⟨err, met⟩) s (told none_) ∧
      Completes (.hostWaitTimeout t cmd addr crc k) s (told none_)) ∧
    (hostCheck true cmd addr data crc = some code → Completes (.hostWrite t cmd addr ⟨data, met⟩ crc) s (told []))

/-- R65, R66, R67, R69, R71: a host burst within shared SRAM that the RING page admits: a read answers the words of memory in ascending order, a write stores
its words there and touches no other byte, and both answer code 0 with the tag and the number of words done; a read that meets the wait limit
after k words answers code 6, NDONE k and zeros. A write of SUP granted between two words of a read is seen by the words after it.
R68, R70: a transaction the host aborts before the CRC moves nothing and leaves the last response; it sets ABORT and its interrupt bit, and counts
once. -/
def Obligations.HostBurstsMoveTheirWords : Prop :=
  (∀ (t : Nat) (cmd addr : Word) (crc : BitVec 16) (data : List Word) (k : Fin 257) (s : State),
    let a := 4 * addr.toNat
    let n := wordGet cmd 23 16 + 1
    let st := fun (code done : Nat) => w32 (code * 0x10000000 + wordGet cmd 15 8 * 0x10000 + done)
    0x20000000 ≤ a → a < 0x20100000 → s.dev.pacc .host P.RING = true →
    (hostCheck false cmd addr [] crc = none → a % 0x1000 + 4 * n ≤ 0x1000 →
      Completes (.hostRead t cmd addr crc ⟨0, []⟩) s (fun d => d.port.status = st 0 n ∧ d.port.data = s.dev.words a n ∧ d.mem = s.dev.mem) ∧
      (k.val < n → Completes (.hostWaitTimeout t cmd addr crc k) s (fun d =>
        d.port.status = st 6 k ∧ d.port.data = List.replicate n 0 ∧ d.mem = s.dev.mem)) ∧
      (∀ g : Grant, g.who = .sup → g.word < n → 0x20000000 ≤ g.addr → g.addr < 0x20100000 → g.addr % 4 = 0 → s.dev.pacc .sup P.RING = true →
        Completes (.hostRead t cmd addr crc ⟨0, [g]⟩) s (fun d => d.port.status = st 0 n ∧
          d.port.data = s.dev.words a g.word ++ (s.dev.setWord g.addr g.v).words (a + 4 * g.word) (n - g.word)))) ∧
    (hostCheck true cmd addr data crc = none → a % 0x1000 + 4 * data.length ≤ 0x1000 →
      Completes (.hostWrite t cmd addr ⟨data, []⟩ crc) s (fun d => d.port.status = st 0 data.length ∧ d.port.data = [] ∧
        d.words a data.length = data ∧ ∀ x, x < a ∨ a + 4 * data.length ≤ x → d.byte x = s.dev.byte x))) ∧
  (∀ (t : Nat) (cmd addr : Word) (data : List Word) (crc : BitVec 16) (k : Fin 257) (late : Bool) (s : State),
    Completes (.hostAbort t cmd addr data crc false ⟨k, late⟩) s (fun d =>
      d.port = s.dev.port ∧ d.mem = s.dev.mem ∧ (d.reg R.HOSTP_STAT).getLsbD 6 = true ∧ d.get F.HOSTP_STAT_LASTCODE = 0 ∧
        (d.reg (R.PIRQ P.HOSTP)).getLsbD 6 = true ∧
        d.get F.HOSTP_CNT_ERR_OTHER = min (s.dev.get F.HOSTP_CNT_ERR_OTHER + 1) (2 ^ (F.HOSTP_CNT_ERR_OTHER.hi + 1 - F.HOSTP_CNT_ERR_OTHER.lo) - 1)))

/-- R72, R73, R75, R77, R79, R80, R93: the comparator of a capturing wheel input. In DIG and PWDIR mode a new level begins a candidate edge and a
return to the kept level before it has lasted GLITCH counts a glitch, later stands behind it; in VR mode a crossing of an armed half-wave begins one,
which is not confirmed before the signal has passed the hysteresis band. A confirmed transition that EDGE does not take only moves the kept level; a pulse longer than PW_MAX counts DIAG; open and short are told once each, and cleared. -/
def Obligations.WheelInputsFilterTheirTransitions : Prop :=
  ∀ (t : Nat) (n : Fin 8) (pin : Bool) (peak dip : Nat) (frac : Fin 65536) (up : Bool) (par : Fin 3) (cur c w : Nat) (s : State),
    let x := s.dev.whl n
    let now := s.clock t
    let type := s.dev.eff (F.WHL_CFG_TYPE n)
    let lvl := if type = 0 then pin else xor pin (s.dev.effB (F.WHL_CFG_INVERT n))
    (s.dev.captures n = false → Does (.wheelTransition t n pin peak frac) s (fun _ d =>
      (d.put (F.WHL_STAT_LEVEL n) lvl).setWhl n { x with kept := lvl, cand := none, more := [] })) ∧
    (s.dev.captures n = true → type ≠ 0 → x.more = [] → lvl ≠ x.kept → Does (.wheelTransition t n pin peak frac) s (fun now d =>
      (d.put (F.WHL_STAT_LEVEL n) lvl).setWhl n { x with cand := some (x.cand.getD now) })) ∧
    (s.dev.captures n = true → type ≠ 0 → x.more = [] → lvl = x.kept → x.cand = some c → now < c + s.dev.glitchTu n → Does (.wheelTransition t n pin peak frac) s (fun _ d =>
      ((d.put (F.WHL_STAT_LEVEL n) lvl).incSat (F.WHL_CNT_MISC_GLITCH n)).setWhl n { x with cand := none })) ∧
    (s.dev.captures n = true → type ≠ 0 → x.more = [] → lvl = x.kept → x.cand = some c → c + s.dev.glitchTu n ≤ now →
      Does (.wheelTransition t n pin peak frac) s (fun now d => (d.put (F.WHL_STAT_LEVEL n) lvl).setWhl n { x with more := [now] })) ∧
    (s.dev.captures n = true → type = 0 → x.cand = some c → s.dev.pastBand n (dip * 65536) = false → Does (.wheelEdgeConfirm t n dip ⟨up, par⟩ cur) s (fun _ d => d)) ∧
    (s.dev.captures n = true → type = 0 → x.cand = none → s.dev.takesEdge n lvl = true → s.dev.arms n (peak * 65536 + frac) = true →
      Does (.wheelTransition t n pin peak frac) s (fun now d =>
        ((d.put (F.WHL_STAT_LEVEL n) lvl).setWhl n { x with kept := lvl, cand := some now, halfPeak := max x.halfPeak (peak * 65536 + frac) }).put
          (F.WHL_STAT_ARMED n) true)) ∧
    (s.dev.captures n = true → type = 1 → x.cand = some c → c + s.dev.glitchTu n ≤ now →
      s.dev.takesEdge n (!x.kept) = false → Completes (.wheelEdgeConfirm t n dip ⟨up, par⟩ cur) s (fun d =>
        (d.whl n).kept = !x.kept ∧ (d.whl n).cand = x.more.head? ∧ d.regs = s.dev.regs)) ∧
    (let mx := max (s.dev.eff (F.WHL_DIR_PW_MAX n)) (s.dev.eff (F.WHL_DIR_PW_THR n) + 1) * 1280
     x.lead = some c → x.width = some w → mx ≤ w → Does (.pwdirClassify t n up par cur) s (fun _ d =>
      ((d.setWhl n { x with lead := none, width := none, given := false }).incSat (F.WHL_CNT_DIAG_DIAG n)).irq (P.WHL n) 5)) ∧
    (type = 0 → s.dev.captures n = true → s.dev.flag (F.WHL_STAT_SENS_OPEN n) = false → Does (.whlOpen t n) s (fun _ d =>
      ((d.put (F.WHL_STAT_SENS_OPEN n) true).irq (P.WHL n) 7).rep (P.WHL n) 0x12 1)) ∧
    (type = 0 → s.dev.captures n = true → s.dev.flag (F.WHL_STAT_SENS_SHORT n) = false → Does (.whlShort t n) s (fun _ d =>
      ((d.put (F.WHL_STAT_SENS_SHORT n) true).irq (P.WHL n) 7).rep (P.WHL n) 0x13 1)) ∧
    Does (.sensorClear t n true) s (fun _ d => d.put (F.WHL_STAT_SENS_SHORT n) false) ∧
    Does (.sensorClear t n false) s (fun _ d => d.put (F.WHL_STAT_SENS_OPEN n) false)

/-- R82, R86, R87, R89, R92: an edge the filter confirms on an unbound HALL wheel is accepted at its timestamp less DLY: ACC counts, LAST and RATIO show
it, PIRQ 0 is set and it becomes the last accepted edge; one sooner than MINT after the last is discarded as SHORT. On a bound wheel an edge no later
than W_MIN percent of the predicted period is discarded as NOISE with PIRQ 1. An edge held while its domain was frozen is delivered, and a commit that
has waited its time is made. -/
def Obligations.WheelEdgesMeetTheQualifier : Prop :=
  ∀ (t : Nat) (n : Fin 8) (dip : Nat) (up : Bool) (par : Fin 3) (cur c : Nat) (s : State),
    let x := s.dev.whl n
    let now := s.clock t
    let ts := c - s.dev.eff (F.WHL_DLY_DLY n)
    let role := s.dev.get (F.WHL_BIND_ROLE n)
    let k := s.dev.get (F.WHL_BIND_DOMAIN n)
    (s.dev.captures n = true → s.dev.eff (F.WHL_CFG_TYPE n) = 1 → x.cand = some c → c + s.dev.glitchTu n ≤ now →
      s.dev.takesEdge n (!x.kept) = true → (role = 0 ∨ (s.dev.heldEdges k = [] ∧ s.dev.itsTurn now n ts = true)) →
      (role = 0 → x.tLast = none → ts < 2 ^ 64 → Completes (.wheelEdgeConfirm t n dip ⟨up, par⟩ cur) s (fun d =>
        d.getLH (R.WHL_LAST_LO n) (R.WHL_LAST_HI n) = ts ∧ (d.whl n).tLast = some ts ∧ (d.reg (R.PIRQ (P.WHL n))).getLsbD 0 = true ∧
          d.get (F.WHL_CNT_ACC_ACC n) = (s.dev.get (F.WHL_CNT_ACC_ACC n) + 1) % 2 ^ 32 ∧ wordGet (d.reg (R.WHL_RATIO n)) 15 0 = 0)) ∧
      (∀ l, x.tLast = some l → ts - l < s.dev.eff (F.WHL_FILT_QUAL_MINT n) * 4096 → Completes (.wheelEdgeConfirm t n dip ⟨up, par⟩ cur) s (fun d =>
        d.get (F.WHL_CNT_NOISE_SHORT n) =
          min (s.dev.get (F.WHL_CNT_NOISE_SHORT n) + 1) 0xFFFF ∧
          (d.whl n).tLast = some l ∧ d.reg (R.WHL_CNT_ACC n) = s.dev.reg (R.WHL_CNT_ACC n) ∧ d.angs = s.dev.angs)) ∧
      (∀ l p q, x.tLast = some l → s.dev.eff (F.WHL_FILT_QUAL_MINT n) * 4096 ≤ ts - l → role ≠ 0 → s.dev.predFor k (role - 1) = some (p, q) →
        s.dev.effB (F.WHL_QUAL_QBYPASS n) = false → (ts - l) * 100 * q ≤ s.dev.eff (F.WHL_QUAL_W_MIN n) * p →
        Completes (.wheelEdgeConfirm t n dip ⟨up, par⟩ cur) s (fun d =>
          (d.reg (R.PIRQ (P.WHL n))).getLsbD 1 = true ∧ (d.whl n).tLast = some l ∧ d.reg (R.WHL_CNT_ACC n) = s.dev.reg (R.WHL_CNT_ACC n) ∧
            d.angs = s.dev.angs))) ∧
    (∀ (j : Fin 2) e, s.dev.frozen (P.ANG j) = false → s.dev.restarting (P.ANG j) = false → s.dev.heldEdges j = [(n.val, e)] →
      Does (.holdingQueueDeliver t j) s (fun now d =>
        let r := (d.setWhl n { x with q := [] }).whlDeliver now n e 0
        r.1.originateAll now r.2)) ∧
    (∀ by_, x.commitBy = some by_ → by_ ≤ now → s.dev.flag (F.PCTL_SHDW_HOLD (P.WHL n)) = false → Completes (.whlCommitTimeout t n) s (fun d =>
      (∀ e ∈ d.shadow, pageOf e.1 ≠ P.WHL n) ∧ (d.whl n).commitBy = none))

/-- R99, R103, R155: enabling a domain whose tables pass the check enters NOSYNC with both pages of the domain enabled and TTSTAT clear; one whose tables
fail stays disabled, with the code and the role in TTSTAT and PIRQ 10. The command is the write of ENABLE.
R117, R119, R145, R146, R156: SYNC_DROP drops the domain with cause 11; REACQ ends its wait; DUNE_RESET gives all 512 entries of the profile ratio 1.0
and count 0, keeping their time offsets, unless the profile learns; a written entry takes ratio (clamped to 0x4000 to 0xC000) and count, or its time
offset, and while the profile learns a write of a ratio is denied and reported with kind 0x28. -/
def Obligations.DomainsAreEnabledAndCommanded : Prop :=
  ((∀ (t : Nat) (who : Initiator) (k : Fin 2) (s : State), s.dev.mayWrite who (R.PCTL (P.ANG k)) 0 = true →
    exec (.angEnable t who k) s = .next (s.wrote t who (fun d =>
      d.pctlWrite (s.clock t) (P.ANG k) .ang k (wordSet (s.dev.reg (R.PCTL (P.ANG k)) &&& 0x13) 0 0 1)))) ∧
  (∀ (d : Dev) (now : Nat) (k : Fin 2), d.enabled (P.ANG k) = false →
    (d.ttCheck k = none →
      (d.enableWrite now (P.ANG k) true).enabled (P.ANG k) = true ∧ (d.enableWrite now (P.ANG k) true).enabled (P.PRED k) = true ∧
      (d.enableWrite now (P.ANG k) true).angState k = 0 ∧ (d.enableWrite now (P.ANG k) true).reg (R.ANG_TTSTAT k) = 0) ∧
    (∀ code role entry, d.ttCheck k = some (code, role, entry) → code < 8 → role < 5 →
      (d.enableWrite now (P.ANG k) true).enabled (P.ANG k) = false ∧
      (d.enableWrite now (P.ANG k) true).get (F.ANG_TTSTAT_CODE k) = code ∧
      (d.enableWrite now (P.ANG k) true).get (F.ANG_TTSTAT_ROLE k) = role ∧
      ((d.enableWrite now (P.ANG k) true).reg (R.PIRQ (P.ANG k))).getLsbD 10 = true))) ∧
  (∀ (t : Nat) (who : Initiator) (k : Fin 2) (s : State),
    (Granted s who (R.ANG_CTL k) → exec (.swDrop t who k) s = .next (s.wrote t who (·.drop (s.clock t) k 11)) ∧
      exec (.reacq t who k) s = .next (s.wrote t who (·.put (F.ANG_STATE_WAIT_REACQ k) false))) ∧
    (Granted s who (R.PRED_CTL k) → s.dev.flag (F.PRED_DUNE_LEARN k) = false → Writes (.duneReset t who k) s who (fun e d =>
      ∀ i, i < 512 → d.duneRatio k i = 0x8000 ∧ d.duneCnt k i = 0 ∧ d.duneTofs k i = e.duneTofs k i)) ∧
    (∀ (i : Fin 512) (v : Word), s.dev.pacc who (P.PRED k) = true → s.dev.bootBars who (P.PRED k) = false →
      (s.dev.flag (F.PRED_DUNE_LEARN k) = false → Completes (.duneProfileWrite t who k i 0 v) s (fun d =>
        d.duneRatio k i = clampN (wordGet v 31 16) 0x4000 0xC000 ∧ d.duneCnt k i = wordGet v 15 8 ∧ d.duneTofs k i = s.dev.duneTofs k i ∧
          d.reg (R.PGEN (P.PRED k)) = s.dev.reg (R.PGEN (P.PRED k)) + 1 ∧ d.port.res = 0)) ∧
      (s.dev.flag (F.PRED_DUNE_LEARN k) = true → exec (.duneProfileWrite t who k i 0 v) s =
        .next (s.after t ((((s.dev.denied who (P.PRED k)).rep (P.PRED k) 0x28 0).result .perm).coreFault who true (0x41008000 + 0x1000 * k + 8 * i)))) ∧
      Completes (.duneProfileWrite t who k i 1 v) s (fun d =>
        d.duneRatio k i = s.dev.duneRatio k i ∧ d.duneCnt k i = s.dev.duneCnt k i ∧
          bitsOf (d.duneTofs k i) 16 = wordGet v 15 0 ∧ d.port.res = 0)))

/-- R108, R112, R113, R114, R116, R141: what a domain's own limits do when they pass. Two revolutions of teeth without a gap are reported once; a phase
unknown for PHASE_TO is reported once, and LIMP_CRANK entered where a guess is allowed; a cam lost clears CAM_OK and reports 0x18, the last one in SYNC of a
four-stroke enters LIMP_CRANK or drops; a lost primary crank hands over to a redundant one that is OK, and without a redundant crank or a cam drops; a wheel
still for STALL_T stalls the domain, which resumes backward if it was in reverse; the model angle that reaches its limit is held and counted. -/
def Obligations.DomainLimitsActWhenTheyPass : Prop :=
  ∀ (t : Nat) (k : Fin 2) (c : Fin 3) (cur i t0 p q : Nat) (s : State),
    let d := s.dev
    let a := d.ang k
    let st := d.angState k
    let x := d.pred k
    let now := s.clock t
    let crankLost := d.running (P.ANG k) = true ∧ a.tSrc = some t0 ∧ d.predFor k (d.srcRole k) = some (p, q) ∧ d.srcRole k = 0 ∧
      t0 + d.eff (F.ANG_LOSS_CRANK_LOSS k) * p ≤ now
    let camLate := d.roleEn k (c + 2) = true ∧ vGet a.camLost c = false ∧
      vGet a.camAt c + d.eff (F.ANG_LOSS_CAM_LOSS_CYC k) * d.cycleLen k ≤ a.run
    let camOut := fun (d : Dev) => ((d.setAng k { a with camLost := vSet a.camLost c true }).camOk k c false).rep (P.ANG k) 0x18 1
    let others := (List.range 3).all (fun c => !(camOut d).roleEn k (c + 2) || vGet ((camOut d).ang k).camLost c)
    (st = 1 → a.gs.told = false → 2 * d.nRev k ≤ a.gs.n → Does (.gapNotfound t k) s (fun _ d =>
      (d.setAng k { a with gs := { a.gs with told := true } }).rep (P.ANG k) 0x16 0)) ∧
    (st = 2 → a.phaseTold = false → a.phaseAt + d.eff (F.ANG_LOSS_PHASE_TO k) * 377487360 ≤ a.run → Does (.phaseUnknown t k) s (fun now d =>
      let d1 := (d.setAng k { a with phaseTold := true }).rep (P.ANG k) 0x19 0
      if d.effB (F.ANG_CFG_LIMP_CRANK_EN k) = true ∧ d.effB (F.ANG_CFG_GUESS_EN k) = true then
        (d1.fixPhase now k (d1.theta k now) (d.effB (F.ANG_CFG_GUESS_PH k))).angSet now k 4 else d1)) ∧
    (2 ≤ st → st ≤ 5 → camLate → others = false ∨ st ≠ 3 ∨ d.fourStroke k = false → Does (.camLost t k c) s (fun _ d => camOut d)) ∧
    (st = 3 → camLate → others = true → d.fourStroke k = true → Does (.camLost t k c) s (fun now d =>
      if d.effB (F.ANG_CFG_LIMP_CRANK_EN k) = true then (camOut d).angSet now k 4 else (camOut d).drop now k 8)) ∧
    (st = 3 ∨ st = 4 → crankLost → vGet a.idx 1 = some i → d.flag (F.ANG_STATE_RED_OK k) = true → Does (.primLost t k cur) s (fun now d =>

      let lost := (d.put (F.ANG_STATE_PRIM_OK k) false).updAng k (fun a => { a with idx := vSet a.idx 0 none })
      (((lost.rep (P.ANG k) 0x1B 1).predClear now k).set (F.ANG_STATE_SRC k) 1).jumpTo now k 1 i cur)) ∧
    (st = 2 ∨ st = 3 ∨ st = 4 → crankLost → d.flag (F.ANG_STATE_RED_OK k) = false → d.bestCam k = none →
      Does (.primLost t k cur) s (fun now d => d.drop now k 7)) ∧
    (d.running (P.ANG k) = true → 1 ≤ st → st ≤ 5 → a.tAny + d.eff (F.ANG_STALL_STALL_T k) * 1280000 ≤ now → Does (.stall t k) s (fun now d =>
      ((d.setAng k { a with
        held := st, rsIdx := d.srcIdx k, rsT := none, rsD := none, rsFit := 0,
        rev := a.rev.map (fun v => { v with fwd := false }) }).angSet now k 6).updAng k
        (fun a => { a with tSrc := none, dSrc := none }))) ∧
    (x.valid = true → x.held = false → d.flag (F.ANG_STATE_REVERSE k) = false →
      ((angDiff (d.angRange k) x.thHold x.thk : Nat) : Int) ≤ advanceOf x.omega x.acc x.sNext x.dNext (now - x.tk) → Does (.holdLimit t k) s (fun _ d =>
        (((d.setPred k { x with held := true }).put (F.PRED_STAT_HELD k) true).incSat (F.PRED_CNT_A_HOLD k)).irq (P.PRED k) 1))

/-- R163, R164, R165, R167, R316, R375: the trim updates that wait pass first; then an arm ring gives the Caravan the request of its tail entry; a request for which no slot is free stalls the ring, any other
has its result and slot written to the entry and TAIL advanced. A double-bit error met by the read stops the ring, a corrected one is reported and the
entry is taken. A ring that stalled goes on once a slot may be taken. Direct arming gives its writer the result in DARM_STAT; a CARV that does not run
refuses with code 10 and no slot. -/
def Obligations.ArmRequestsTakeSlots : Prop :=
  ∀ (t : Nat) (r : Fin 8) (s : State),
    let d := s.dev
    let now := s.clock t
    let a := d.ringAddr r (d.get (F.RING_TAIL_TAIL r))
    let armed := fun (d : Dev) =>
      let ws := d.words (d.ringAddr r (d.get (F.RING_TAIL_TAIL r))) 4
      let q := d.arm now (armReq ws r)
      if q.2.1 = 3 then (({ q.1 with carv := { q.1.carv with stalled := q.1.carv.stalled ++ [r.val] } }).incSat F.CARV_CNT_B_FULL).irq P.CARV r
      else (q.1.setWord (d.ringAddr r (d.get (F.RING_TAIL_TAIL r)) + 12)
        (w32 (q.2.1 * 0x10000000 + q.2.2 * 0x10000 + wordGet (ws.getD 3 0) 15 0))).ringAdvance now r
    let ready := fun (d : Dev) => d.ringEn r = true ∧ d.flag (F.CARV_ARM_CFG_EN r) = true ∧ d.running P.CARV = true ∧ d.ringFill r ≠ 0
    let served := fun (d : Dev) => ready (d.trimUpdates now) ∧ (d.trimUpdates now).carv.stalled.contains r.val = false
    (ready d → served d → Does (.armRingEntry t r 0) s (fun _ d => armed (d.trimUpdates now))) ∧
    (d.ringEn r = true → d.ringFill r ≠ 0 → Does (.armRingEntry t r 1) s (fun now d => (d.memErr 3 a false).armRing now r) ∧
      Does (.armRingEntry t r 2) s (fun _ d => (d.memErr 3 a true).ringUe r)) ∧
    (let freed : Dev := { d with carv := { d.carv with stalled := d.carv.stalled.filter (· != r.val) } }
     d.carv.stalled.contains r.val = true → d.mayTake r = true → served freed → Does (.armRingResume t r) s (fun _ _ =>
      armed (freed.trimUpdates now))) ∧
    (∀ (who : Initiator) (w3 : Word), Granted s who (R.CARV_DARM_W 3) →
      exec (.directArmSubmit t who w3) s = .next (s.wrote t who (fun d => (d.directArm now who w3).bumpGen P.CARV)) ∧
      (d.running P.CARV = false → d.trimQ = [] → Writes (.directArmSubmit t who w3) s who (fun e d =>
        d.latch who R.CARV_DARM_STAT = w32 (10 * 0x1000000 + 0x1FF) ∧ d.carv = e.carv)))

/-- R176, R187, R195, R314: a slot of the lead set is committed when its turn comes, every lead slot before it first; CANCEL frees a slot that has not
started (result 0), ends the recurrence of one that has (4), and answers 3 for a started one-shot, 1 for a free slot, 2 for another tag; FLUSH ends every
slot of its domain that is a one-shot and has not started; a trim of a link reaches every slot that follows it.
R166, R195: a reservation whose sum stays within the 256 slots is taken, one that exceeds them is refused with PIRQ 14 and kind 0x03 and counts in no generation; INSP_SEL gives its
writer the nine words of the slot. -/
def Obligations.SlotsCommitCancelAndShow : Prop :=
  (∀ (t : Nat) (who : Initiator) (w : Word) (slot : Fin 256) (s : State),
    let now := s.clock t
    (s.dev.committing (s.dev.slot slot).c.dom = true → ((s.dev.lead (s.dev.slot slot).c.dom).map (·.1)).contains slot.val = true →
      Does (.leadCommit t slot) s (fun now d =>
        let l := (d.lead (d.slot slot).c.dom).map (·.1)
        ((l.take (l.idxOf slot.val + 1)).foldl (fun d x => d.checkCommit now x) d).leadUpdate now (d.slot slot).c.dom)) ∧
    (Granted s who R.CARV_CANCEL → Writes (.cancel t who w) s who (fun e d =>
      let n := wordGet w 8 0
      let x := e.slot n
      if x.st = 0 then d = e.setLatch who R.CARV_CANCEL_STAT (w32 0x1000000)
      else if wordGet w 15 15 = 1 ∧ x.c.tag ≠ wordGet w 31 16 then d = e.setLatch who R.CARV_CANCEL_STAT (w32 0x2000000)
      else if x.startC = false then
        d = (((((e.trace now 6 n false 0).complRec now n 7 now 0).freeSlot n).leadUpdate now x.c.dom).setLatch who R.CARV_CANCEL_STAT 0)
      else if x.c.recur = true then
        d = (e.updSlot n (fun y => { y with lastOcc := true })).setLatch who R.CARV_CANCEL_STAT (w32 0x4000000)
      else d = e.setLatch who R.CARV_CANCEL_STAT (w32 0x3000000))) ∧
    (Granted s who R.CARV_CTL →
      exec (.flush0 t who) s = .next (s.wrote t who (fun d => ((d.flushable 0).foldl (fun d n => d.flushOne now n) d).leadUpdate now 0)) ∧
      exec (.flush1 t who) s = .next (s.wrote t who (fun d => ((d.flushable 1).foldl (fun d n => d.flushOne now n) d).leadUpdate now 1))) ∧
    (∀ n ofs l, s.dev.trimQ = (n, ofs) :: l → Does (.trimUpdate t) s (fun now d =>
      ((d.carv.slots.filter (fun e => e.2.st != 0 && e.2.c.tle && e.2.c.link == n)).map (·.1)).foldl (fun d s => d.trimSlot now n s ofs)
        { d with trimQ := l }))) ∧
  (∀ (t : Nat) (who : Initiator) (w : Word) (idx : Fin 4) (s : State),
    (Granted s who (R.CARV_RES idx) → Writes (.reservationWrite t who idx w) s who (fun e d =>
      let a := min (wordGet w 24 16) 256
      let b := min (wordGet w 8 0) 256
      let other := e.resSum - e.reservation (2 * idx) - e.reservation (2 * idx + 1)
      if other + a + b ≤ 256 then d = (e.setReg (R.CARV_RES idx) (w32 (a * 65536 + b))).bumpGen P.CARV
      else d = (e.irq P.CARV 14).rep P.CARV 0x03 0)) ∧
    (Granted s who R.CARV_INSP_SEL → Writes (.carvInspSelWrite t who w) s who (fun e d =>
      let n := wordGet w 8 0
      let x := e.slot n
      d = { e with latches := d.latches, regs := d.regs } ∧ OnlyRegs { e with latches := d.latches } d [R.PGEN P.CARV] ∧
      d.latch who R.CARV_INSP_SEL = w32 n ∧ d.latch who R.CARV_INSP0 = w32 x.c.angle ∧ d.latch who R.CARV_INSP1 = x.c.w1 ∧
      d.latch who R.CARV_INSP2 = w32 x.c.dur ∧ wordGet (d.latch who R.CARV_INSP3) 15 0 = x.c.tag % 65536 ∧
      d.latch who R.CARV_INSP4 = w32 (bitsOf x.ofsA 32) ∧ d.latch who R.CARV_INSP5 = w32 (bitsOf x.ofsD 32) ∧
      d.latch who R.CARV_INSP6 = lo32 (x.t.getD 0) ∧ d.latch who R.CARV_INSP7 = w32 x.aseq)))

/-- R32, R198, R200, R201, R205, R211: a committed edge whose release time has come leaves its channel, acts, and the next one is loaded; TAP_SEL gives the pin its
selection and refuses a reserved code with kind 0x03; TRIG_SW raises the software triggers of its mask in order. -/
def Obligations.ChannelsReleaseTheirEdges : Prop :=
  ∀ (t : Nat) (chan : Fin 104) (cur : Nat) (s : State),
    let c := s.dev.chan chan
    let now := s.clock t
    (∀ e rel, c.pend = some e → c.releaseTime e s.dev.supply.under now = some rel → s.dev.sparkWait chan e rel = none → Does (.edgeRelease t chan cur) s (fun now d =>
      let d1 := d.setChan chan { c with pend := none, lastRel := some rel }
      let d2 := if d1.edgeLive e = true then
          d1.updSlot e.slot (fun y => { y.released e rel with drvBusy := y.drvBusy || (decide (chan.val < 48) && e.start) }) else d1
      let d4 := ((d2.timeEnd now chan e rel).edgeAct chan e rel cur).edgeEnds now e
      (d4.setChanLoad now chan ((d4.chan chan).load now)).leadUpdate now e.dom)) ∧
    Does (.placerHandover t chan) s (fun now d => d.setChanLoad now chan (c.refill now)) ∧
    (∀ (who : Initiator) (n : Fin 32) (sel : Fin 8), Granted s who (R.TAPC_CFG n) →
      Writes (.tapSelWrite t who n sel) s who (fun e d =>
        d.get (F.TAPC_CFG_SEL n) = (if sel.val < 5 then sel.val else e.get (F.TAPC_CFG_SEL n)) ∧
        d.reg (R.PGEN P.TAPC) = e.reg (R.PGEN P.TAPC) + 1)) ∧
    (∀ (who : Initiator) (mask : Word), Granted s who R.TRIG_SW → exec (.trigSw t who mask) s = .next (s.wrote t who (fun d =>
      ((List.range 8).filter (fun k => mask.getLsbD k)).foldl (fun d k => d.trigger (0x70 + k) now) d)))

/-- R215, R216, R219, R223: a charge that has stood for MAX is counted, reported and given a soft-off; of a soft-off the rise, the fall of IGNn at the end of its
setup and the end are marked; a feedback edge sooner than RISE_MIN counts EARLY, none by RISE_MAX counts NOCHG, one that stays past FALL_MAX counts
STUCK, each with its status bit, interrupt bit and report; UNINH ends an inhibition. -/
def Obligations.IgnitionChannelsWatchTheirCharge : Prop :=
  ∀ (t : Nat) (n : Fin 24) (lvl : Bool) (s : State),
    let x := s.dev.ign n
    let now := s.clock t
    let found := fun (d : Dev) (stat cnt : Fld) (bit kind cls : Nat) => (((d.put stat true).incSat cnt).irq (P.IGN n) bit).rep (P.IGN n) kind cls
    (x.high = true → x.ended = false → x.since + s.dev.ignMax n ≤ now → Does (.dwellMax t n) s (fun now d =>
      ((found (d.setIgn n { x with ended := true }) (F.IGN_STAT_DMAX n) (F.IGN_CNT_A_DMAX n) 4 0x2C 0).markCharge n 8).softRequest now n)) ∧
    Does (.softOffRise t) s (fun now d =>
      { d with soft := { d.soft with ivs := d.soft.ivs.map (fun v => if v.rise ≤ now then { v with risen := true } else v) } }) ∧
    (∀ v, s.dev.soft.ivs = [v] → v.risen = true → v.fallen = false → v.ts ≤ now → Completes (.softOffFall t) s (fun d =>
      ∀ w ∈ d.soft.ivs, w.fallen = true ∧ w.chans = [])) ∧
    Completes (.softOffEnd t) s (fun d => d.soft.ivs = s.dev.soft.ivs.filter (fun v => !(v.fallen && decide (v.fall ≤ now)))) ∧
    (x.high = true → x.fbAt = none → xor lvl (s.dev.effB (F.IGN_FB_POL n)) = true → s.dev.effB (F.IGN_FB_EN n) = true →
      now - x.since < s.dev.eff (F.IGN_FB_RISE_MIN n) * 12800 → s.dev.effB (F.IGN_FB_INH_SHORT n) = false →
      Does (.ignFeedbackEdge t n lvl) s (fun now d =>
        found (d.setIgn n { x with fb := lvl, fbAt := some now }) (F.IGN_STAT_EARLY n) (F.IGN_CNT_B_EARLY n) 2 0x2E 1)) ∧
    (x.high = false → Does (.ignFeedbackEdge t n lvl) s (fun _ d => d.setIgn n { x with fb := lvl })) ∧
    (x.high = true → x.since + s.dev.eff (F.IGN_FB_RISE_MAX n) * 12800 ≤ now → s.dev.effB (F.IGN_FB_EN n) = true → x.fbAt = none →
      x.nochg = false → Does (.ignNochg t n) s (fun _ d =>
        found (d.setIgn n { x with nochg := true }) (F.IGN_STAT_NOCHG n) (F.IGN_CNT_B_NOCHG n) 1 0x2D 1)) ∧
    (∀ fell, x.fell = some fell → s.dev.effB (F.IGN_FB_EN n) = true → s.dev.ignFb n = true →
      fell + s.dev.eff (F.IGN_FB2_FALL_MAX n) * 12800 ≤ now → Does (.ignStuck t n) s (fun _ d =>
        found (d.setIgn n { x with fell := none }) (F.IGN_STAT_STUCK n) (F.IGN_CNT_C_STUCK n) 3 0x2F 1)) ∧
    (∀ who : Initiator, Granted s who (R.IGN_CTL n) →
      exec (.ignUninh t who n) s = .next (s.wrote t who (·.put (F.IGN_STAT_INHIBIT n) false)))

/-- R242 to R246, R251: starts that wait. The bank's first waiting start goes on when it may be admitted; one whose tolerance passes counts as late and is fired, shortened
or dropped by its late policy; one still waiting at MAX_DELAY is counted, reported with 0x3A and dropped; a start waiting for the boost goes on when the
boost is ready and is dropped when its wait runs out. -/
def Obligations.WaitingStartsGoOnOrAreDropped : Prop :=
  ∀ (t : Nat) (b : Fin 12) (n : Fin 48) (m cur : Nat) (w : DrvWait) (s : State),
    let x := s.dev.drv n
    let now := s.clock t
    let late := fun (d : Dev) (j : Nat) => (if d.occLive w.occ then d.lateMark now w.occ.slot (d.waitAu n (now - w.rel)) else d).updDrv n (fun x =>
      { x with waits := x.waits.map (fun v => if v.order = w.order then { v with late := j } else v) })
    let tolerated := x.waits.find? (fun w => w.late == 0 && (match w.tol with | some t => decide (t ≤ now) | none => false)) = some w
    let policy := if s.dev.occLive w.occ then s.dev.latePolicy (s.dev.slot w.occ.slot).c else w.occ.policy
    (firstWait (s.dev.bankWaits b) = some (m, w) → s.dev.mayAdmit m w = true → Does (.bankAdmit t b cur) s (fun now d => d.resume now m w cur)) ∧
    (tolerated → policy = 0 → Does (.startTolerance t n) s (fun _ d => late d 2)) ∧
    (tolerated → policy = 2 → Does (.startTolerance t n) s (fun _ d => late d 4)) ∧
    (tolerated → policy ≠ 0 → policy ≠ 2 → Does (.startTolerance t n) s (fun now d => (late d 3).dropWait now n { w with late := 3 } 3)) ∧
    (x.waits.find? (fun w => w.why == 2 && !w.pre && decide (w.since + s.dev.eff (F.BANK_CFG_MAX_DELAY (bankOf n)) * 12800 ≤ now)) = some w →
      Does (.bankWaitDrop t n) s (fun now d =>
        ((((d.put (F.BANK_STAT_WAIT_DROP (bankOf n)) true).incSat (F.BANK_CNT_A_WAIT_DROP (bankOf n))).irq (P.BANK (bankOf n)) 1).rep
          (P.BANK (bankOf n)) 0x3A 0).dropWait now n w 9)) ∧
    (x.waits.find? (fun w => w.why == 3) = some w →
      (s.dev.flag (F.BST_STAT_READY_ST (bstOf n)) = true → Does (.bnrReady t n cur) s (fun now d => d.resume now n w cur)) ∧
      (w.since + hdr (s.dev.profCopy (s.dev.eff (F.DRV_CFG_PROF n))) 0 31 16 * 12800 ≤ now →
        Does (.bnrWaitExpiry t n) s (fun now d => d.dropWait now n w 9)))

/-- R232 to R234, R236 to R239, R241, R243, R248: a running profile. At I_HI the supply opens and the search for the armature begins anew, at I_LO it closes, with fast decay after
FD_T; a phase whose exit holds at its minimum time is left; at T_MAX the phase is reported with 0x32 and left or ended; the latest converter code shows in the
bank's ADC word and, in a run, the codes raise its peak; the armature window's end is a miss; the end of decay records the run and begins OFF_MIN, whose end makes the channel
IDLE and starts what waits. -/
def Obligations.ProfilesRunThroughTheirPhases : Prop :=
  ∀ (t : Nat) (n : Fin 48) (cur peak : Nat) (raws : List Nat) (hi : Bool) (s : State),
    let x := s.dev.drv n
    let now := s.clock t
    let k := x.phase
    let bank := bankOf n
    let thr := if hi then phHi x.prof k else phLo x.prof k
    let r := max (s.dev.rsh n) 1
    let at_ := if hi then (dacCode thr r * 250 + r - 1) / r else dacCode thr r * 250 / r
    (x.st = 2 → (hi = true → s.dev.eff (F.DRV_DIAG_RISE_MIN n) * 1280 + x.start ≤ now) → s.dev.exitHolds now n at_ = false → phSupply x.prof k ≠ 0 →
      (hi = true → Does (.currentThreshold t n hi) s (fun now d =>
        (d.updDrv n (fun z => { z.searchReset with chg := false, cut := d.otherCharges n, offAt := now })).bankDrive now bank)) ∧
      (hi = false → phFast x.prof k = false → Does (.currentThreshold t n hi) s (fun now d =>
        (d.updDrv n (fun z => { z with chg := true, cut := false })).bankDrive now bank))) ∧
    (x.st = 2 → x.chg = false → x.cut = false → x.offAt + phFdT x.prof k ≤ now → phFast x.prof k = true → phSupply x.prof k ≠ 0 →
      Does (.fastDecayEnd t n cur) s (fun now d => (d.updDrv n (fun z => { z with chg := true })).bankDrive now bank)) ∧
    (x.st = 2 → s.dev.exitHolds now n cur = true → Does (.phaseMinTime t n cur) s (fun now d => Dev.settle now n cur 10 d)) ∧
    (x.st = 2 → x.phaseAt + phTmax x.prof k ≤ now → phExit x.prof k = 1 → phAbort x.prof k = false → Does (.drvPhTo t n cur) s (fun now d =>
      Dev.settle now n cur 10
        ((((((d.drvFlag n 8).drvMark x.occ 10).put (F.DRV_STAT_PH_TO n) true).irq (P.DRV n) 6).rep (P.DRV n) 0x32 0).phaseExit now n cur))) ∧
    (x.st ≠ 2 → x.st ≠ 6 → Does (.armatureDetect t n raws) s (fun _ d => (d.set (F.BANK_ADC_CH bank) (n % 4)).set (F.BANK_ADC_CODE bank) (raws.getLastD 0))) ∧
    (x.st = 2 → phArmdet x.prof k = false → Does (.armatureDetect t n raws) s (fun _ d =>
      (((d.set (F.BANK_ADC_CH bank) (n % 4)).set (F.BANK_ADC_CODE bank) (raws.getLastD 0)).updDrv n (fun z => { z with peak := raws.foldl max x.peak })).set
        (F.DRV_LAST_I_PEAK n) (d.codeToI n (raws.foldl max x.peak)))) ∧
    (x.st = 2 → hasArmdet x.prof (List.range (nph x.prof)) = true → x.start + hdr x.prof 2 31 16 * 1280 ≤ now →
      Does (.drvArmMiss t n) s (fun _ d => d.armMiss n)) ∧
    (x.st = 3 → x.decayEnd ≤ now → x.flags &&& 0xFF46#16 = 0 → Does (.endDecayEnd t n peak) s (fun now d =>
      let pk := d.codeToI n (max x.peak peak)
      let arm := match x.arm with
        | some t => (t - x.start) / 16
        | none => 0xFFFFFFFF
      let d1 := d.drvRecord now n (x.recAs.getD (d.drvRing n)) x.occ x.flags x.profNo x.phase x.start arm x.armI pk (x.onTime / 16)
        ((x.start - x.rel) / 16)
      let d2 := (d1.set (F.DRV_LAST_I_PEAK n) pk).updDrv n (fun z =>
        { z with st := 4, recAs := none, offEnd := now + d.eff (F.DRV_TIM_OFF_MIN n) * 12800, trips := if z.tripped then z.trips else 0 })
      let d3 := (d2.irq (P.DRV n) 1).bankDrive now bank
      (if d3.occLive x.occ && (d3.slot x.occ.slot).outcome == 10 then d3.incSat (F.DRV_CNT_B_FLAG n) else d3).drvRunDone now x.occ)) ∧
    (x.st = 4 → x.offEnd ≤ now → x.waits = [] → Completes (.offMinEnd t n cur) s (fun d => (d.drv n).st = 0))

/-- R235, R254 to R258, R261: protections. An output on for ON_MAX, an over-current, a short of the low-side, of the high-side or to ground sets its status, its interrupt
bit and its report, ends the profile or inhibits the channel or latches the bank as its rule says; the duty sum that reaches the limit is reported
once. ABORT ends the command; UNINH and UNLATCH end an inhibition and a latch. -/
def Obligations.DriveProtectionsEndTheirOutputs : Prop :=
  ∀ (t : Nat) (who : Initiator) (n : Fin 48) (b : Fin 12) (v cur : Nat) (s : State),
    let x := s.dev.drv n
    let now := s.clock t
    (∀ on, x.onAt = some on → x.active = true → on + s.dev.eff (F.DRV_TIM_ON_MAX n) * 128000 ≤ now → Does (.drvOnmax t n) s (fun now d =>
      (((d.protEnd now n 9).put (F.DRV_STAT_ONMAX n) true).irq (P.DRV n) 6).rep (P.DRV n) 0x34 1)) ∧
    (x.gateOn = true → Does (.drvOc t n) s (fun now d =>
      let d1 := (d.updDrv n (fun z => { z with tripped := true, trips := z.trips + 1 })).protEnd now n 11
      let d2 := (((d1.put (F.DRV_STAT_OC n) true).incSat (F.DRV_CNT_A_OC n)).irq (P.DRV n) 4).rep (P.DRV n) 0x36 1
      if d2.eff (F.DRV_DIAG_OC_TRIPS n) ≤ (d2.drv n).trips then d2.inhibit now n else d2)) ∧
    (x.conducts = false → s.dev.highSideOn (bankOf n) = true → 64000 ≤ s.dev.hsAge now (bankOf n) →
      s.dev.eff (F.DRV_DIAG2_OFF_I n) * s.dev.rsh n * 2 < v * 125 → Does (.drvLsShort t n v) s (fun now d =>
        (((((((d.set (F.BANK_ADC_CH (bankOf n)) (n % 4)).set (F.BANK_ADC_CODE (bankOf n)) v).put (F.DRV_STAT_LS_SHORT n) true).irq (P.DRV n) 5).rep
          (P.DRV n) 0x39 1).inhibit now n).latchBank now (bankOf n)))) ∧
    (s.dev.highSideOn b = false → 128000 ≤ s.dev.hsAge now b → s.dev.eff (F.BANK_DIAG_SW_HI b) < v → Does (.bankHsShort t b v) s (fun now d =>
      ((((d.set (F.BANK_STAT_VSW b) v).put (F.BANK_STAT_HS_SHORT b) true).irq (P.BANK b) 3).rep (P.BANK b) 0x3B 1).latchBank now b)) ∧
    (s.dev.highSideOn b = true → 25600 ≤ s.dev.hsAge now b → v < s.dev.eff (F.BANK_DIAG_SW_LO b) → Does (.bankGndShort t b v) s (fun now d =>
      (((List.range 4).map (4 * b.val + ·)).foldl (fun d n => if (d.drv n).conducts then d.endDecay now n else d)
        ((((d.set (F.BANK_STAT_VSW b) v).put (F.BANK_STAT_GND_SHORT b) true).irq (P.BANK b) 4).rep (P.BANK b) 0x3C 1)).latchBank now b)) ∧
    (s.dev.highSideOn b = true → s.dev.eff (F.BANK_DIAG_SW_LO b) ≤ v → Does (.bankGndShort t b v) s (fun _ d => d.set (F.BANK_STAT_VSW b) v)) ∧
    (let len := max 1 (s.dev.dutyWin n / 16)
     now < x.bktAt + len → x.bktAt ≤ now → x.duty = false → x.active = false → s.dev.eff (F.DRV_DUTY_DUTY_MAX n) * s.dev.dutyWin n ≤ 100 * x.dutySum now →
      x.bktFrom = none → Does (.dutyBucket t n) s (fun _ d =>
        (((d.setDrv n { x with duty := true }).put (F.DRV_STAT_DUTY n) true).irq (P.DRV n) 6).rep (P.DRV n) 0x35 1)) ∧
    (Granted s who (R.DRV_CTL n) → exec (.drvAbort t who n cur) s = .next (s.wrote t who (·.commandEnd now n cur)) ∧
      exec (.drvUninh t who n) s = .next (s.wrote t who (·.put (F.DRV_STAT_INHIBIT n) false))) ∧
    (Granted s who (R.BANK_CTL b) → exec (.unlatch t who b) s =
      .next (s.wrote t who (fun d => (d.put (F.BANK_STAT_LATCHED b) false).bankDrive now b)))

/-- R230, R252, R253, R267: the boost converter. A measurement shows both voltages; READY follows its threshold with an interrupt each way; below target less the hysteresis
switching begins; the gate falls at TON and the next cycle begins after TON and TOFF, or switching stops where the target was reached; a boost not ready
by CHG_TO is counted and reported with 0x3F. A profile loads at PROF_LOAD and is taken, valid or refused, when the load is done. -/
def Obligations.BoostConvertersAndProfileLoads : Prop :=
  ∀ (t : Nat) (who : Initiator) (k : Fin 2) (p : Fin 16) (vhv vb : Fin 4096) (s : State),
    let x := s.dev.bst k
    let now := s.clock t
    (s.dev.running (P.BST k) = true → Completes (.boostMeasure t k vhv vb) s (fun d =>
      d.get (F.BST_STAT_VHV k) = vhv ∧ d.get (F.BST_VB_VB k) = vb ∧
        d.flag (F.BST_STAT_READY_ST k) = decide (s.dev.eff (F.BST_CFG_READY k) * 40 ≤ vhv.val))) ∧
    (s.dev.flag (F.BST_STAT_SWITCHING k) = true → x.gate = true → x.cycAt + s.dev.eff (F.BST_SW_TON k) * 128 ≤ now →
      Does (.bstTonEnd t k) s (fun _ d => d.setBst k { x with gate := false })) ∧
    (s.dev.flag (F.BST_STAT_SWITCHING k) = true → x.cycAt + (s.dev.eff (F.BST_SW_TON k) + s.dev.eff (F.BST_SW_TOFF k)) * 128 ≤ now →
      (x.stop = false → Does (.boostCycleEnd t k) s (fun now d => (d.setBst k { x with gate := true, cycAt := now }).commit (P.BST k))) ∧
      (x.stop = true → Completes (.boostCycleEnd t k) s (fun d => d.flag (F.BST_STAT_SWITCHING k) = false ∧ (d.bst k).gate = false))) ∧
    (∀ since, x.notReady = some since → x.toDone = false → since + s.dev.eff (F.BST_LIM_CHG_TO k) * 12800000 ≤ now → Does (.bstTimeout t k) s (fun _ d =>
      ((((d.setBst k { x with toDone := true }).put (F.BST_STAT_TIMEOUT k) true).incSat (F.BST_CNT_A_TIMEOUT k)).irq (P.BST k) 3).rep (P.BST k) 0x3F 1)) ∧
    (Granted s who R.PROF_LOAD → s.dev.flag F.PROF_LSTAT_PEND = false → exec (.profLoad t who p) s = .next (s.wrote t who (fun d =>
      ({ d with prof := { d.prof with load := some p.val } }).put F.PROF_LSTAT_PEND true))) ∧
    (s.dev.prof.load = some p.val →
      let q := profCheck (s.dev.words (0x41100000 + p * 0x100) 36)
      let done := fun (d : Dev) => ({ d with prof := { d.prof with load := none } }).setReg R.PROF_LSTAT
        (w32 (q.1 * 0x1000000 + p * 0x10000 + q.2 * 16))
      (q.1 = 0 → Does (.profLoadDone t) s (fun _ d =>
        let e := done d
        (({ e with prof := { e.prof with active := smPut e.prof.active p (s.dev.words (0x41100000 + p * 0x100) 36) [] } }).setReg R.PROF_VALID
          (e.reg R.PROF_VALID ||| (1#32 <<< p.val))).irq P.PROF 0)) ∧
      (q.1 ≠ 0 → Does (.profLoadDone t) s (fun _ d => ((done d).irq P.PROF 1).rep P.PROF 0x30 0)))

/-- R274 to R276, R298: a converter. Free and with a request whose time has come it opens its aperture for it; a software conversion's end shows its value and time,
sets DONE and PIRQ 0 and counts; a run's sample goes to its run; the busy interval's end frees the converter. A software conversion is asked by
ADC_SW: its input is shown, DONE falls and the request waits, unless one already does.
R303, R319, R320: CYLEN enables a cylinder whose settings pass their check and disables one whose bit falls, bit by bit; INSP_SEL gives its writer the
cylinder's last metrics; TRIM_ZERO zeroes the offset of every link of its mask and sends the change. -/
def Obligations.ConvertersServeTheirRequestsAndCylindersAreSet : Prop :=
  (∀ (t : Nat) (who : Initiator) (k : Fin 8) (inp : Fin 64) (uv : Int) (q : AdcReq) (t0 : Nat) (s : State),
    let a := s.dev.adc k
    let now := s.clock t
    let raw := if q.inp = 32 then bitsOf (knValue uv) 16 else ainValue uv
    let quick := s.dev.flag F.SYS_VMON_UNDERSPEC = false ∨ now ≤ t0 + 800
    let counted := fun (d : Dev) => (d.setAdc k { a with conv := none }).inc (F.ADC_CNT_CONV_CONV k)
    (a.busy = false → s.dev.running (P.ADC k) = true → a.q.filter (fun q => decide (q.target ≤ a.busyEnd)) = [] → earliest a.q = some q →
      q.target ≤ now → Does (.apertureOpen t k) s (fun now d => (d.openFor now k q q.target).knkFeed now k)) ∧
    (a.busy = false → s.dev.running (P.ADC k) = true → (∀ r ∈ a.q, r.target ≤ a.busyEnd → a.busyEnd - r.target ≤ s.dev.tBusy k) →
      bestReq (a.q.filter (fun q => decide (q.target ≤ a.busyEnd))) = some q → Does (.apertureOpen t k) s (fun now d =>
        (d.openFor now k q a.busyEnd).knkFeed now k)) ∧
    (a.conv = some (q, t0) → quick →
      (q.cls = 4 → Does (.conversionDone t k uv) s (fun _ d =>
        (((((counted d).set (F.ADC_SWRES_VALUE k) raw).put (F.ADC_SWRES_LOST k) false).put (F.ADC_SWRES_DONE k) true).setLH
          (R.ADC_SWTS_LO k) (R.ADC_SWTS_HI k) t0).irq (P.ADC k) 0)) ∧
      (q.cls = 0 → Does (.conversionDone t k uv) s (fun now d =>
        ((counted d).inc F.SMPL_CNT_TAKEN_TAKEN).sampleIn now (q.src / 16) (q.src % 16) q.idx
          { val := some raw, ts := t0, exc := q.exc || decide (q.target < t0) }))) ∧
    (a.busy = true → a.conv = none → a.busyEnd ≤ now → a.q ≠ [] → Does (.busyIntervalEnd t k) s (fun _ d => d.setAdc k { a with busy := false })) ∧
    (Granted s who (R.ADC_SW k) → s.dev.running (P.ADC k) = true → a.q = [] → Writes (.adcSwGo t who k inp) s who (fun _ d =>
      d.get (F.ADC_SW_INP k) = inp ∧ d.flag (F.ADC_SWRES_DONE k) = false ∧
        (d.adc k).q = [{ cls := 4, inp := inp, target := now }]))) ∧
  (∀ (t : Nat) (who : Initiator) (w : Word) (s : State),
    (Granted s who R.CMB_CYLEN → exec (.cylinderEnableWrite t who w) s = .next (s.wrote t who (fun d =>
      ((List.range 24).foldl (fun d c => d.cylSet c (w.getLsbD c)) d).bumpGen P.CMB))) ∧
    (Granted s who R.CMB_INSP_SEL → Writes (.cmbInspSelWrite t who w) s who (fun e d =>
      d.latch who R.CMB_INSP_SEL = w32 (wordGet w 4 0) ∧
      d.latch who R.CMB_INSP_STAT = w32 ((e.cyl (wordGet w 4 0)).alloc * 65536 + (e.cyl (wordGet w 4 0)).lastValid) ∧
      OnlyRegs { e with latches := d.latches } d [R.PGEN P.CMB])) ∧
    (Granted s who R.TRIM_ZERO_LO → Writes (.trimZero t who false w) s who (fun e d =>
      d.trimQ = e.trimQ ++ ((List.range 32).filter (fun i => w.getLsbD i)).map (fun i => (i, 0)) ∧
        ∀ i, i < 32 → d.reg (R.TRIM_L_OFS i) = if w.getLsbD i then 0 else e.reg (R.TRIM_L_OFS i))) ∧
    (Granted s who R.TRIM_ZERO_HI → Writes (.trimZero t who true w) s who (fun e d =>
      d.trimQ = e.trimQ ++ ((List.range 32).filter (fun i => w.getLsbD i)).map (fun i => (32 + i, 0)) ∧
        ∀ i, i < 32 → d.reg (R.TRIM_L_OFS (32 + i)) = if w.getLsbD i then 0 else e.reg (R.TRIM_L_OFS (32 + i)))))

/-- R280 to R282, R290, R292, R294, R299, R300: a run is enabled or ended bit by bit by RUN; a sample whose lead has come is asked for; a knock window whose
angle is reached opens its channel with the window's settings, counts and reports an overlap, and closes at its end angle with its record; KNK
disabled closes every window. -/
def Obligations.RunsAndKnockWindowsFollowTheirAngles : Prop :=
  ∀ (t : Nat) (who : Initiator) (k : Fin 2) (r : Fin 16) (w : Word) (n : Fin 32) (c : Fin 8) (p : Int) (ts : Nat) (s : State),
    let now := s.clock t
    let dom := s.dev.get (F.KNK_WIN_A_DOM n)
    let ch := s.dev.get (F.KNK_WIN_B_CH n)
    let open_ := s.dev.winPos n = some p ∧ s.dev.flag (F.KNK_WIN_A_EN n) = true ∧ s.dev.committing dom = true ∧ s.dev.running P.KNK = true ∧
      (s.dev.reg R.KNK_CHEN).getLsbD ch = true ∧ ts ≤ now ∧ (vGet s.dev.knk.openAt n = some ts ∨
        (vGet s.dev.knk.openAt n = none ∧ ¬ p < s.dev.posOf dom (s.dev.pred dom).thk ∧ s.dev.projectPos dom p = some (ts, false)))
    let next := fun (d : Dev) => d.setWinPos n (some (p + (d.cycleLen dom : Int)))
    let fed := s.dev.knkFeed now c
    let x := fed.knkCh c
    (Granted s who (R.SMPL_DOM_RUN k) → exec (.runEnableWrite t who k w) s = .next (s.wrote t who (fun d =>
      ((List.range 16).foldl (fun d r => d.runSet now k r (w.getLsbD r)) d).bumpGen P.SMPL))) ∧
    ((s.dev.run k r).pos0 = some p → s.dev.committing k = true → s.dev.runEn k r = true → s.dev.running P.SMPL = true →
      s.dev.projectPos k (s.dev.samplePos k r p) = some (ts, false) → (ts : Int) - now - 512 ≤ ((s.dev.eff (F.SMPL_DOM_CFG_LEAD k) * 16 : Nat) : Int) →
      Does (.sampleCommit t k r) s (fun now d => d.sampleGo now k r ts false)) ∧
    (open_ → (s.dev.knkCh ch).win.isSome = true → Does (.knockWindowOpen t n) s (fun _ d =>
      (((next d).incSat F.KNK_CNT_A_OVERLAP).irq P.KNK 1).rep P.KNK 0x43 0)) ∧
    (open_ → (s.dev.knkCh ch).win = none → Does (.knockWindowOpen t n) s (fun now d =>
      let d1 := (next d).knkCommit
      let d2 := d1.setKnkCh ch { win := some n.val, dom := dom, cyl := d.get (F.KNK_WIN_B_CYL n), set := d1.knkSet, tO := ts,
                                 closePos := p + ((d.get (F.KNK_WIN_B_LEN n) * 65536 : Nat) : Int) }
      (d2.setReg R.KNK_STAT (d2.reg R.KNK_STAT ||| (1#32 <<< ch))).knkFeed now ch)) ∧
    (∀ win, x.win = some win → fed.running P.KNK = true → ts ≤ now →
      x.closeAt = some ts ∨ (x.closeAt = none ∧ ¬ x.closePos < fed.posOf x.dom (fed.pred x.dom).thk ∧
        fed.projectPos x.dom x.closePos = some (ts, false)) →
      Does (.knockWindowClose t c) s (fun now _ => (fed.knkRecord now c win x.dom x.cyl false x.lateOpen false).knkShut c)) ∧
    (let pctl := R.PCTL P.KNK
     Granted s who pctl → s.dev.enabled P.KNK = true → Writes (.enableWrite t who (Fin.ofNat 256 P.KNK) false) s who (fun _ d =>
      ∀ c : Fin 8, (d.knkCh c).win = none))

/-- R325, R326, R328, R333, R338: the controls of a timer, each a configuration write of its page. RUN starts at the second reference edge, unless it runs or is about
to; a stop and a forced wrap are taken at the next tick decision; RELOAD and COMPARE are buffers; a compare made active at once tells in IMM_RES whether the count has passed it; a
group starts its members together where their settings agree.
R322 to R324, R328 to R330: the ticks of a timer. A tick takes one from the count and the next tick follows DIV + 1 reference periods later; a tick at
0 is the wrap: the count takes RELOAD, the active registers the buffers, WRAP the tick's time; a pending stop halts the channel at the tick's decision with the count held.
The first tick is a wrap; a channel with an offset is ARMED until its own. A trigger starts the timer or restarts it by TRIG_ACT. -/
def Obligations.TimersAreControlledAndCount : Prop :=
  (∀ (t : Nat) (who : Initiator) (k : Fin 32) (g : Fin 8) (w : Word) (s : State),
    let now := s.clock t
    let run := s.dev.tmrRunning k
    let x := s.dev.tmr k
    let runs := run = true ∧ x.stop = false ∧ x.startAt = none ∧ s.dev.tmrArmed k = false
    let idle := run = false ∧ s.dev.tmrArmed k = false ∧ x.startAt = none ∧ x.next = none
    let asStands := (runs ∧ s.dev.flag (F.TMR_CTL_RUN k) = true) ∨ (idle ∧ s.dev.flag (F.TMR_CTL_RUN k) = false)
    (Granted s who (R.TMR_CTL k) →
      (idle → s.dev.enabled (tmrPage k) = true → exec (.timerRun t who k) s = .next (s.wrote t who (fun d =>
        ((d.setTmr k { startAt := some (d.secondEdge now) }).put (F.TMR_CTL_RUN k) true).bumpGen (tmrPage k)))) ∧
      (runs → exec (.timerStop t who k) s = .next (s.wrote t who (fun d =>
        (((d.tmrMeet now k).updTmr k (fun x => { x with stop := true, startAt := none })).put (F.TMR_CTL_RUN k) false).bumpGen (tmrPage k)))) ∧
      (runs → s.dev.flag (F.TMR_CTL_RUN k) = true → exec (.timerFwrap t who k) s = .next (s.wrote t who (fun d =>
        (((d.tmrMeet now k).tmrMeet now k).updTmr k (fun x => { x with fw := true })).bumpGen (tmrPage k)))) ∧
      (asStands → exec (.timerClr t who k) s = .next (s.wrote t who (fun d =>
        (((d.tmrMeet now k).setReg (R.TMR_CNT_MATCH k) 0).setReg (R.TMR_CNT_ERR k) 0).bumpGen (tmrPage k))))) ∧
    (Granted s who (R.TMR_RELOAD k) → x.due = none → exec (.reloadWrite t who k w) s = .next (s.wrote t who (fun d =>
      let e := d.setReg (R.TMR_RELOAD k) w
      (if (run = true ∨ x.dec.isSome) ∧ d.effB (F.TMR_CFG_PER_IMM k) = true ∧ w.toNat + 1 < d.tmrPresent k then
        e.updTmr k (fun x => { x with fw := true }) else e).bumpGen (tmrPage k)))) ∧
    (Granted s who (R.TMR_COMPARE k) → x.due = none →
      (s.dev.effB (F.TMR_CFG_CMP_IMM k) = false → exec (.compareWrite t who k w) s = .next (s.wrote t who (fun d =>
        (d.setReg (R.TMR_COMPARE k) w).bumpGen (tmrPage k)))) ∧
      (run = true → x.dec = none → s.dev.effB (F.TMR_CFG_CMP_IMM k) = true →
        Writes (.compareWrite t who k w) s who (fun e d =>
          d.reg (R.TMR_COMPARE k) = w ∧ d.reg (R.TMR_ACTCMP k) = w ∧ d.flag (F.TMR_STAT_IMM_RES k) = decide (e.tmrCount k ≤ w.toNat)))) ∧
    (Granted s who (R.TMR_GRP_CTL g) →
      exec (.groupStart t who g) s = .next (s.wrote t who (·.groupStart now g)) ∧
      exec (.groupStop t who g) s = .next (s.wrote t who (fun d => (d.grpMembers g).foldl (fun d k => d.timerStop now k) d)))) ∧
  (∀ (t : Nat) (k : Fin 32) (n : Nat) (r c : Word) (s : State),
    let x := s.dev.tmr k
    let now := s.clock t
    let sees := x.dec.getD (s.dev.reg (R.TMR_RELOAD k), s.dev.reg (R.TMR_COMPARE k), x.fw)
    let due := x.next = some n ∧ s.dev.edgeFrom n ≤ now ∧ x.startAt = none ∧ s.dev.running (tmrPage k) = true ∧ s.dev.tmrArmed k = false ∧
      s.dev.tmrRunning k = true ∧ (x.stop = false ∨ x.dec.isSome = true)
    (due → s.dev.tmrCounts k = false → sees = (r, c, false) → s.dev.tmrCount k ≠ 0 → Completes (.timerTick t k) s (fun d =>
      d.tmrCount k + 1 = s.dev.tmrCount k ∧ (d.tmr k).next = some (n + (s.dev.eff (F.TMR_CFG_DIV k) + 1) * 512))) ∧
    (∀ fw, due → sees = (r, c, fw) → s.dev.tmrCount k = 0 ∨ fw = true → x.imm = none → Completes (.timerTick t k) s (fun d =>
      d.reg (R.TMR_COUNT k) = r ∧ d.reg (R.TMR_ACTREL k) = r ∧ d.reg (R.TMR_ACTCMP k) = c ∧
        d.getLH (R.TMR_WRAP_LO k) (R.TMR_WRAP_HI k) = s.dev.edgeFrom n % 2 ^ 64)) ∧
    (x.next = some n → s.dev.edgeFrom (n - 512) ≤ now → x.startAt = none → s.dev.frozen (tmrPage k) = false → s.dev.tmrRunning k = true →
      x.stop = true → x.dec = none → Completes (.timerTick t k) s (fun d =>
        d.tmrRunning k = false ∧ d.reg (R.TMR_COUNT k) = s.dev.reg (R.TMR_COUNT k) ∧ d.flag (F.TMR_CTL_RUN k) = false)) ∧
    (x.startAt = some n → s.dev.edgeFrom n ≤ now → s.dev.running (tmrPage k) = true →
      (x.ofs = 0 → x.dec = none → Completes (.startTick t k) s (fun d => d.tmrRunning k = true ∧ d.tmrArmed k = false ∧
        d.reg (R.TMR_COUNT k) = s.dev.reg (R.TMR_RELOAD k) ∧ d.getLH (R.TMR_WRAP_LO k) (R.TMR_WRAP_HI k) = s.dev.edgeFrom n % 2 ^ 64)) ∧
      (x.ofs ≠ 0 → Completes (.startTick t k) s (fun d => d.tmrRunning k = false ∧ d.tmrArmed k = true ∧
        (d.tmr k).next = some (n + x.ofs * s.dev.tmrStep k)))) ∧
    (∀ o d1, s.dev.running (tmrPage k) = true → s.dev.trigAccept (8 + k) = some (o, d1) →
      (d1.eff (F.TMR_CFG_TRIG_ACT k) = 1 → Does (.timerTrigger t k) s (fun now _ => d1.timerRun now k)) ∧
      (d1.eff (F.TMR_CFG_TRIG_ACT k) = 2 → x.startAt = none → Does (.timerTrigger t k) s (fun now _ =>
        let e := d1.tmrMeet now k
        (e.updTmr k (fun x => { x with startAt := some (e.secondEdge now), ofs := 0 })).put (F.TMR_CTL_RUN k) true))))

/-- R340 to R342, R345: the pin-engine instructions that compute and steer, each in one step after which the next step follows one period later: GOTO goes to its
target when its condition holds, CALC, REVA and NOTA write their result to A or B, MOVE its source to its destination, TICKS begins its wait, AWAIT goes
on when its level stands and else waits, SIGNAL sets PIRQ 2. -/
def Obligations.PinEngineInstructionsCompute : Prop :=
  ∀ (t : Nat) (n : Fin 8) (ext : Word) (x : BitVec 9) (s : State),
    let e := s.pinAt t n
    let A := e.reg (R.PIO_A n)
    let B := e.reg (R.PIO_B n)
    let lc := e.reg (R.PIO_LC n)
    let pc := e.pioPc n
    let nextPc := (pc + 1) % 32
    let due := fun i => PinDue s t n (.issue i)
    let steps := fun (d : Dev) => (d.eng n).next = (e.eng n).next + e.pioPeriod n ∧ (d.eng n).sc = (e.eng n).sc + 1
    let toA := fun (v : Word) (d : Dev) => d.reg (R.PIO_A n) = v ∧ d.pioPc n = nextPc ∧ steps d
    (∀ (a : BitVec 5),
      (due (.goto .always a) → Completes (.goto t n ext) s (fun d => d.pioPc n = a.toNat ∧ steps d)) ∧
      (due (.goto .loop a) → Completes (.goto t n ext) s (fun d =>
        d.pioPc n = (if lc ≠ 0 then a.toNat else nextPc) ∧ d.reg (R.PIO_LC n) = (if lc ≠ 0 then lc - 1 else lc))) ∧
      (due (.goto .azero a) → Completes (.goto t n ext) s (fun d => d.pioPc n = if A = 0 then a.toNat else nextPc)) ∧
      (due (.goto .altb a) → Completes (.goto t n ext) s (fun d => d.pioPc n = if A.toNat < B.toNat then a.toNat else nextPc)) ∧
      (due (.goto .inhi a) → Completes (.goto t n ext) s (fun d => d.pioPc n = if s.pinIn t n ext then a.toNat else nextPc)) ∧
      (due (.goto .inlo a) → Completes (.goto t n ext) s (fun d => d.pioPc n = if s.pinIn t n ext then nextPc else a.toNat))) ∧
    (due (.calc .addImmA x) → Completes (.calcAddImmA t n ext) s (toA (A + x.signExtend 32))) ∧
    (due (.calc .addImmB x) → Completes (.calcAddImmB t n ext) s (fun d => d.reg (R.PIO_B n) = B + x.signExtend 32 ∧ d.pioPc n = nextPc)) ∧
    (due (.calc .add x) → Completes (.calcAdd t n ext) s (toA (A + B))) ∧
    (due (.calc .sub x) → Completes (.calcSub t n ext) s (toA (A - B))) ∧
    (due (.calc .band x) → Completes (.calcAnd t n ext) s (toA (A &&& B))) ∧
    (due (.calc .bxor x) → Completes (.calcXor t n ext) s (toA (A ^^^ B))) ∧
    (due (.calc .shr x) → Completes (.calcShr t n ext) s (toA (A >>> (x.toNat % 32)))) ∧
    (due (.calc .shl x) → Completes (.calcShl t n ext) s (toA (A <<< (x.toNat % 32)))) ∧
    (∀ (src : MoveSrc) (imm : BitVec 7), due (.move .a src imm) → src ≠ .inputs → Completes (.move t n ext) s (toA (match src with
      | .a => A | .b => B | .lc => lc | .send => e.reg (R.PIO_SEND n) | .take => e.reg (R.PIO_TAKE n)
      | .sc => BitVec.ofNat 32 (e.eng n).sc | .inputs => 0 | .imm => imm.setWidth 32))) ∧
    (∀ (imm : BitVec 7), due (.move .lc .imm imm) → Completes (.move t n ext) s (fun d => d.reg (R.PIO_LC n) = imm.setWidth 32 ∧ d.pioPc n = nextPc)) ∧
    (∀ k, due (.ticks k) → Completes (.ticks t n ext) s (fun d =>
      d.get (F.PIO_SHST_WAITC n) = k.toNat % 2 ^ ((F.PIO_SHST_WAITC n).hi + 1 - (F.PIO_SHST_WAITC n).lo) ∧
        d.pioPc n = if k = 0 then nextPc else pc)) ∧
    (∀ cap, due (.await .high false cap) → Completes (.await t n ext) s (fun d =>
      if s.pinIn t n ext then d.flag (F.PIO_STAT_WAITING n) = false ∧ d.pioPc n = nextPc
      else d.flag (F.PIO_STAT_WAITING n) = true ∧ d.pioPc n = pc)) ∧
    (∀ pulse, due (.signal true pulse) → Completes (.signal t n ext) s (fun d =>
      (d.reg (R.PIRQ (P.PIO n))).getLsbD 2 = true ∧ d.pioPc n = nextPc)) ∧
    (due .reva → Completes (.reva t n ext) s (fun d =>
      (∀ i, i < 32 → (d.reg (R.PIO_A n)).getLsbD i = A.getLsbD (31 - i)) ∧ d.pioPc n = nextPc)) ∧
    (due .nota → Completes (.nota t n ext) s (toA (~~~A)))

/-- R342, R345 to R347, R349, R350: the pin-engine instructions that move data or end the run. DRIVE sets its pins; EMIT to A takes its bits from SEND; TAKE puts its bits into
TAKE; XFER moves a data register when it can, goes on without where it may not wait, and else stalls; STOP and an illegal word halt the engine with
their cause, the latter reported with 0x4B; a wait counts down; a delivery held back is made when RX is empty. -/
def Obligations.PinEngineInstructionsMoveData : Prop :=
  ∀ (t : Nat) (n : Fin 8) (ext : Word) (s : State),
    let e := s.pinAt t n
    let pc := e.pioPc n
    let nextPc := (pc + 1) % 32
    let due := fun i => PinDue s t n (.issue i)
    let tx := e.flag (F.PIO_STAT_TXF n)
    let rx := e.flag (F.PIO_STAT_RXF n)
    (∀ (m v : BitVec 4), due (.drive false false m v) → Completes (.drive t n ext) s (fun d =>
      ∀ j : Fin 4, (d.eng n).lvl.getLsbD j = if m.getLsbD j = true ∧ j.val < e.onum n then v.getLsbD j else (e.eng n).lvl.getLsbD j)) ∧
    (∀ (k : BitVec 5), due (.emit true k) → e.get (F.PIO_SHST_SLEFT n) ≠ 0 ∨ e.effB (F.PIO_CFG_AFILL n) = false →
      Completes (.emit t n ext) s (fun d =>
        let g := emitGroup (e.reg (R.PIO_SEND n)) (e.get (F.PIO_SHST_SLEFT n)) (len32 k) (e.effB (F.PIO_CFG_SORDER n))
        d.reg (R.PIO_A n) = ((e.reg (R.PIO_A n) <<< len32 k) ||| g.1) ∧ d.reg (R.PIO_SEND n) = g.2 ∧
          d.get (F.PIO_SHST_SLEFT n) = e.get (F.PIO_SHST_SLEFT n) - len32 k ∧ d.pioPc n = nextPc)) ∧
    (∀ (k : BitVec 5), due (.take .a k) → e.effB (F.PIO_CFG_ADELIV n) = false → e.effB (F.PIO_CFG_SORDER n) = false →
      Completes (.take t n ext) s (fun d =>
        d.reg (R.PIO_TAKE n) = ((e.reg (R.PIO_TAKE n) <<< len32 k) ||| (e.reg (R.PIO_A n) &&& (BitVec.allOnes 32 >>> (32 - len32 k)))) ∧
          d.get (F.PIO_SHST_TGOT n) = min (e.get (F.PIO_SHST_TGOT n) + len32 k) 32 ∧ d.pioPc n = nextPc)) ∧
    (∀ nowait,
      (due (.xfer .fill nowait) → Completes (.xferFill t n ext) s (fun d =>
        if tx then d.reg (R.PIO_SEND n) = (e.eng n).tx ∧ d.flag (F.PIO_STAT_TXF n) = false ∧ d.pioPc n = nextPc
        else if nowait then d.pioPc n = nextPc else d.pioState n = 2 ∧ d.pioPc n = pc)) ∧
      (due (.xfer .deliver nowait) → Completes (.xferDeliver t n ext) s (fun d =>
        if rx then (if nowait then d.flag (F.PIO_STAT_RX_OVF n) = true ∧ d.pioPc n = nextPc else d.pioState n = 2 ∧ d.pioPc n = pc)
        else (d.eng n).rx = e.reg (R.PIO_TAKE n) ∧ d.flag (F.PIO_STAT_RXF n) = true ∧ d.reg (R.PIO_TAKE n) = 0 ∧ d.pioPc n = nextPc)) ∧
      (due (.xfer .txa nowait) → Completes (.xferTxa t n ext) s (fun d =>
        if tx then d.reg (R.PIO_A n) = (e.eng n).tx ∧ d.flag (F.PIO_STAT_TXF n) = false ∧ d.pioPc n = nextPc
        else if nowait then d.pioPc n = nextPc else d.pioState n = 2 ∧ d.pioPc n = pc)) ∧
      (due (.xfer .arx nowait) → Completes (.xferArx t n ext) s (fun d =>
        if rx then (if nowait then d.pioPc n = nextPc else d.pioState n = 2 ∧ d.pioPc n = pc)
        else (d.eng n).rx = e.reg (R.PIO_A n) ∧ d.flag (F.PIO_STAT_RXF n) = true ∧ d.pioPc n = nextPc))) ∧
    (due .stop → Completes (.stop t n ext) s (fun d =>
      d.pioState n = 0 ∧ d.get (F.PIO_STAT_CAUSE n) = 2 ∧ (d.reg (R.PIRQ (P.PIO n))).getLsbD 3 = true ∧ d.pioPc n = nextPc)) ∧
    (∀ w, due (.illegal w) → Completes (.pioIllegal t n ext) s (fun d =>
      d.pioState n = 0 ∧ d.get (F.PIO_STAT_CAUSE n) = 3 ∧ (d.reg (R.PIRQ (P.PIO n))).getLsbD 3 = true ∧ d.pioPc n = pc)) ∧
    (∀ k, PinDue s t n .more → e.pioInstr n = .ticks k → e.get (F.PIO_SHST_WAITC n) ≠ 0 → Completes (.pioStepContinue t n ext) s (fun d =>
      d.get (F.PIO_SHST_WAITC n) + 1 = e.get (F.PIO_SHST_WAITC n) ∧
        d.pioPc n = if e.get (F.PIO_SHST_WAITC n) = 1 then nextPc else pc)) ∧
    (PinDue s t n .delivery → rx = false → Completes (.deliveryResume t n ext) s (fun d =>
      (d.eng n).rx = e.reg (R.PIO_TAKE n) ∧ d.flag (F.PIO_STAT_RXF n) = true ∧ d.flag (F.PIO_STAT_DPEND n) = false ∧ d.pioState n = 1))

/-- R344, R351 to R354, R358: the registers of a pin engine. A word written to TX is held, or lost and counted where TX is full; the program of a halted engine is
written, each word counting in PROGGEN, that of a running one refused; RESTART starts at the entry with empty registers; HALT, RESUME and CLR act on
the engine as it stands; the group commands act on every engine of their mask and are named in PIOG_STAT: START restarts them together where each is enabled and
else is refused, HALT halts those that run, RESUME lets the halted ones whose program is unchanged go on. -/
def Obligations.PinEngineRegistersAct : Prop :=
  ∀ (t : Nat) (who : Initiator) (n : Fin 8) (w : Word) (mask : BitVec 8) (s : State),
    let now := s.clock t
    let settled := fun (d : Dev) => d.pioSettle now n
    let settled' := fun (j : Fin 8) => s.dev.pioSettle now j
    (Granted s who (R.PIO_TX n) → Writes (.pioTxWrite t who n w) s who (fun e d =>
      if (settled e).flag (F.PIO_STAT_TXF n) then
        d = (((settled e).put (F.PIO_STAT_TX_OVF n) true).irq (P.PIO n) 5).incSat (F.PIO_CNT_OVF n)
      else d = ((settled e).updEng n (fun x => { x with tx := w })).put (F.PIO_STAT_TXF n) true)) ∧
    (Granted s who (R.PIO_CTL n) →
      exec (.pioHalt t who n) s = .next (s.wrote t who (fun d => (settled d).pioHalt now n 1)) ∧
      exec (.pioResume t who n) s = .next (s.wrote t who (fun d => ((settled d).pioResume now n).1)) ∧
      exec (.pioClr t who n) s = .next (s.wrote t who (fun d => (settled d).setReg (R.PIO_CNT n) 0)) ∧
      (s.dev.enabled (P.PIO n) = true → Writes (.pioRestart t who n) s who (fun e d =>
        d.pioState n = 1 ∧ d.pioPc n = e.get (F.PIO_CFG_ENTRY n) ∧ d.reg (R.PIO_SEND n) = 0 ∧ d.reg (R.PIO_TAKE n) = 0 ∧
          (d.eng n).next = e.pioT0 now ∧ (d.eng n).sc = 0))) ∧
    (∀ i : Fin 37, i.val < 32 → s.dev.pacc who (P.PIO n) = true → s.dev.bootBars who (P.PIO n) = false → Completes (.programWrite t who n i w) s (fun d =>
      let e := settled s.dev
      if e.pioState n = 0 then
        d.word (pioAddr n i) = w &&& 0xFFFF ∧ d.reg (R.PIO_PROGGEN n) = genNext (e.reg (R.PIO_PROGGEN n)) ∧ d.port.res = 0
      else d.mem = e.mem ∧ d.flag (F.PIO_STAT_PROG_REFUSED n) = true ∧ (d.reg (R.PIRQ (P.PIO n))).getLsbD 6 = true)) ∧
    (Granted s who (R.PIO_A n) → Writes (.programWrite t who n 32 w) s who (fun e d =>
      if (settled e).pioState n = 0 then d.reg (R.PIO_A n) = w else d.flag (F.PIO_STAT_PROG_REFUSED n) = true)) ∧
    (Granted s who R.PIOG_START →
      ((∀ j : Fin 8, mask.getLsbD j = true → s.dev.enabled (P.PIO j) = true ∧ s.dev.restarting (P.PIO j) = false) →
        Writes (.piogStart t who mask) s who (fun e d => d.get F.PIOG_STAT_LASTCMD = 1 ∧ d.get F.PIOG_STAT_REFUSED = 0 ∧
          ∀ j : Fin 8, if mask.getLsbD j then
            d.pioState j = 1 ∧ d.pioPc j = e.get (F.PIO_CFG_ENTRY j) ∧ d.reg (R.PIO_SEND j) = 0 ∧ d.reg (R.PIO_TAKE j) = 0 ∧
              (d.eng j).next = e.pioT0 now ∧ (d.eng j).sc = 0
          else d.eng j = e.eng j ∧ d.reg (R.PIO_STAT j) = e.reg (R.PIO_STAT j))) ∧
      ((∃ j : Fin 8, mask.getLsbD j = true ∧ (s.dev.enabled (P.PIO j) = false ∨ s.dev.restarting (P.PIO j) = true)) →
        Writes (.piogStart t who mask) s who (fun e d => d.get F.PIOG_STAT_LASTCMD = 1 ∧ d.get F.PIOG_STAT_REFUSED = mask.toNat ∧
          d.pio = e.pio))) ∧
    (Granted s who R.PIOG_HALT → Writes (.piogHalt t who mask) s who (fun e d => d.get F.PIOG_STAT_LASTCMD = 2 ∧ d.get F.PIOG_STAT_REFUSED = 0 ∧
      ∀ j : Fin 8, mask.getLsbD j = true → (e.pioSettle now j).pioState j ≠ 0 → (d.eng j).halt.isSome = true ∧ (d.eng j).go = none)) ∧
    (Granted s who R.PIOG_RESUME →
      (∀ j : Fin 8, mask.getLsbD j = true → s.dev.enabled (P.PIO j) = true ∧ (settled' j).pioState j = 0 ∧ ((settled' j).eng j).go = none ∧
        (settled' j).reg (R.PIO_PROGGEN j) = (settled' j).reg (R.PIO_HGEN j)) →
      Writes (.piogResume t who mask) s who (fun _ d => d.get F.PIOG_STAT_LASTCMD = 3 ∧ d.get F.PIOG_STAT_REFUSED = 0 ∧
        ∀ j : Fin 8, mask.getLsbD j = true → d.pioState j = 1 ∧ d.pioPc j = (settled' j).pioPc j ∧ now < (d.eng j).next)) ∧
    (Granted s who R.PIOG_DSYNC → Writes (.piogDsync t who mask) s who (fun _ d => d.get F.PIOG_STAT_LASTCMD = 4 ∧ d.get F.PIOG_STAT_REFUSED = 0))

/-- R383, R384: a core that is presented source n when it comes to its boundary enters its handler: the pc goes to the source's vector, `mepc`,
`mcause` and `mxsrc` tell where from, why and which, `mstatus` keeps MIE and the privilege, a level is entered and ACT set. A core with nothing
presented goes on. mxeoi ends the innermost level with its ACT, does nothing with no level, and in user mode is an illegal instruction.
R393, R394: the debug module's halt, resume and step of a hart that debug reaches: halting keeps the pc, the cause and the privilege in `dpc`
and `dcsr` and sets the core's PIRQ 2, resuming goes on there, a step halts again with cause 4. Of a hart debug does not reach, or that is not in the state asked for, they change
nothing. -/
def Obligations.CoresEnterInterruptsAndHaltForDebug : Prop :=
  (∀ (t : Nat) (h : Fin 3) (pc : Word) (user mie : Bool) (s : State),
    let at' := s.dev.setHart h ((s.dev.hart h).boundary pc user mie)
    (at'.presentable h = none → Completes (.interruptEntry t h pc user mie) s (fun d =>
      (d.hart h).pc = pc ∧ (d.hart h).levels = (s.dev.hart h).levels ∧ d.intc = s.dev.intc)) ∧
    (∀ n, at'.presentable h = some n → Completes (.interruptEntry t h pc user mie) s (fun d =>
      let x := d.hart h
      x.pc = s.dev.reg (R.INTC_SRC_VEC n) ∧ x.csrGet 0x341 = pc ∧ x.csrGet 0x342 = 0x8000000B ∧ x.csrGet 0x7C0 = w32 n ∧
        x.priv = 3 ∧ x.mie = false ∧ wordGet (x.csrGet 0x300) 7 7 = mie.toNat ∧ wordGet (x.csrGet 0x300) 12 11 = (if user then 0 else 3) ∧
        x.levels = (n, s.dev.prio n) :: (s.dev.hart h).levels ∧ n ∈ d.intc.act)) ∧
    (user = true → Completes (.mxeoiWrite t h pc user mie) s (fun d =>
      let x := d.hart h
      x.csrGet 0x341 = pc ∧ x.csrGet 0x342 = 2 ∧ x.priv = 3 ∧ x.pc = (s.dev.hart h).csrGet 0x305 &&& ~~~3#32 ∧
        x.levels = (s.dev.hart h).levels ∧ d.intc = s.dev.intc)) ∧
    (user = false → (s.dev.hart h).levels = [] → Completes (.mxeoiWrite t h pc user mie) s (fun d =>
      (d.hart h).pc = pc ∧ (d.hart h).levels = [] ∧ d.intc = s.dev.intc)) ∧
    (∀ n p l, user = false → (s.dev.hart h).levels = (n, p) :: l → s.dev.target n < 7 → Completes (.mxeoiWrite t h pc user mie) s (fun d =>
      (d.hart h).levels = l ∧ n ∉ d.intc.act))) ∧
  (∀ (t : Nat) (h : Fin 3) (pc : Word) (user mie : Bool) (s : State),
    let x := s.dev.hart h
    let halted := fun (d : Dev) (cause priv : Nat) =>
      let y := d.hart h
      y.halted = true ∧ y.csrGet 0x7B1 = pc ∧ wordGet (y.csrGet 0x7B0) 8 6 = cause ∧ wordGet (y.csrGet 0x7B0) 1 0 = priv ∧ y.pres = none ∧
        (d.reg (R.PIRQ (P.CORE h))).getLsbD 2 = true
    (s.dev.dbgOpen h = true → x.running = true → x.halted = false → Completes (.debugHalt t h pc) s (fun d => halted d 3 (x.priv % 4))) ∧
    (s.dev.dbgOpen h = true → x.running = true → x.halted = true → Completes (.debugResume t h) s (fun d =>
      let y := d.hart h
      y.halted = false ∧ y.pc = x.csrGet 0x7B1 ∧ y.priv = (if wordGet (x.csrGet 0x7B0) 1 0 = 0 then 0 else 3) ∧ vGet d.dm.resumeack h = true)) ∧
    (s.dev.dbgOpen h = true → x.running = true → x.halted = true → Completes (.debugStep t h pc user mie) s (fun d =>
      halted d 4 (if user then 0 else 3))) ∧
    (s.dev.dbgOpen h = false ∨ x.running = false →
      Does (.debugHalt t h pc) s (fun _ d => d) ∧ Does (.debugResume t h) s (fun _ d => d) ∧ Does (.debugStep t h pc user mie) s (fun _ d => d)) ∧
    (x.halted = true → Does (.debugHalt t h pc) s (fun _ d => d)) ∧
    (x.halted = false → Does (.debugResume t h) s (fun _ d => d) ∧ Does (.debugStep t h pc user mie) s (fun _ d => d)))

/-- R368, R369, R372, R378: a scrubber read of a word with a single-bit error counts CE, sets its interrupt bit and reports 0x4F, one with a
double-bit error counts UE and reports 0x50, both with the address; one without an error, or with scrubbing off, does nothing. CLR of CORE_SCRUB and RING_SCRUB zeroes the
error counts.
R373, R374, R377: software's ring commands. An index that would make the fill exceed N is discarded with PIRQ 1, any other is taken; EN is
set where the descriptor is legal and refused with ERR and PIRQ 0 where it is not; cleared, the ring stops. A request line whose trigger pends
reads its register and puts the record into its result ring, or sets PIRQ 3 where the ring takes none. -/
def Obligations.MemoriesAreScrubbedAndRingsMove : Prop :=
  (∀ (t : Nat) (who : Initiator) (h : Fin 3) (addr : Word) (err : Fin 3) (s : State),
    (∀ m : Fin 4, (err = 0 ∨ (m.val < 3 ∧ s.dev.flag (F.CORE_SCRUB_EN m) = false) ∨ (m = 3 ∧ s.dev.flag F.RING_SCRUB_EN = false)) →
      Does (.scrubRead t m addr err) s (fun _ d => d)) ∧
    (s.dev.flag (F.CORE_SCRUB_EN h) = true →
      Does (.scrubRead t (h.castLE (by omega)) addr 1) s (fun _ d =>
        (((d.setReg (R.CORE_ECCADDR h) addr).incSat (F.CORE_ECC_CE h)).irq (P.CORE h) 0).rep (P.CORE h) 0x4F 0 0 addr.toNat) ∧
      Does (.scrubRead t (h.castLE (by omega)) addr 2) s (fun _ d =>
        (((d.setReg (R.CORE_ECCADDR h) addr).incSat (F.CORE_ECC_UE h)).irq (P.CORE h) 1).rep (P.CORE h) 0x50 1 0 addr.toNat)) ∧
    (s.dev.flag F.RING_SCRUB_EN = true →
      Does (.scrubRead t 3 addr 1) s (fun _ d =>
        (((d.setReg R.RING_ECCADDR addr).incSat F.RING_ECC_CE).irq P.RING 4).rep P.RING 0x4F 0 0 addr.toNat) ∧
      Does (.scrubRead t 3 addr 2) s (fun _ d =>
        (((d.setReg R.RING_ECCADDR addr).incSat F.RING_ECC_UE).irq P.RING 2).rep P.RING 0x50 1 0 addr.toNat)) ∧
    (Granted s who (R.CORE_SCRUB h) → Writes (.coreScrubClr t who h) s who (fun e d =>
      d.reg (R.CORE_ECC h) = 0 ∧ d.flag (F.CORE_SCRUB_EN h) = e.flag (F.CORE_SCRUB_EN h) ∧
        OnlyRegs e d [R.CORE_ECC h, R.CORE_SCRUB h, R.PGEN (P.CORE h)])) ∧
    (Granted s who R.RING_SCRUB → Writes (.ringScrubClr t who) s who (fun e d =>
      d.reg R.RING_ECC = 0 ∧ d.flag F.RING_SCRUB_EN = e.flag F.RING_SCRUB_EN ∧ OnlyRegs e d [R.RING_ECC, R.RING_SCRUB, R.PGEN P.RING]))) ∧
  (∀ (t : Nat) (who : Initiator) (r : Fin 32) (v : Word) (k : Fin 8) (s : State),
    let dv := ringDevice r
    let idx := if dv then R.RING_TAIL r else R.RING_HEAD r
    let i := v.toNat % 65536
    let fill := if dv then (s.dev.get (F.RING_HEAD_HEAD r) + 65536 - i) % 65536 else (i + 65536 - s.dev.get (F.RING_TAIL_TAIL r)) % 65536
    let rd := (s.dev.setTrigPend (48 + k) none).regRead (s.clock t) .sup ((s.dev.reg (R.RING_RQ_ADDR k)).toNat / 4 * 4)
    let e : Dev := { rd.1 with latches := s.dev.latches }
    let res := 8 + e.get (F.RING_RQ_SEL_RES k)
    (Granted s who idx → Writes (.ringIndexWrite t who r v) s who (fun e d =>
      if s.dev.ringN r < fill then wordGet (d.reg idx) 15 0 = wordGet (e.reg idx) 15 0 ∧ (d.reg (R.PIRQ P.RING)).getLsbD 1 = true
      else wordGet (d.reg idx) 15 0 = i)) ∧
    (Granted s who (R.RING_CFG r) →
      (s.dev.ringEn r = false → Writes (.ringEnableWrite t who r true) s who (fun e d =>
        if e.ringOk r (max (e.get (F.RING_CFG_SIZE_LOG2 r)) 2) then d.ringEn r = true ∧ d.flag (F.RING_CFG_ERR r) = false
        else d.ringEn r = false ∧ d.flag (F.RING_CFG_ERR r) = true ∧ (d.reg (R.PIRQ P.RING)).getLsbD 0 = true)) ∧
      Writes (.ringEnableWrite t who r false) s who (fun e d =>
        d.ringEn r = false ∧ d.reg (R.RING_BASE r) = e.reg (R.RING_BASE r) ∧ d.get (F.RING_HEAD_HEAD r) = e.get (F.RING_HEAD_HEAD r) ∧
          d.get (F.RING_TAIL_TAIL r) = e.get (F.RING_TAIL_TAIL r))) ∧
    (s.dev.trigPend (48 + k) = none → Does (.ringRequest t k) s (fun _ d => d)) ∧
    (∀ o, s.dev.trigPend (48 + k) = some o →
      (s.dev.flag (F.RING_RQ_SEL_EN k) = false → Does (.ringRequest t k) s (fun _ d => d.setTrigPend (48 + k) none)) ∧
      (s.dev.flag (F.RING_RQ_SEL_EN k) = true → e.ringEn res = true ∧ e.ringFill res < e.ringN res → Completes (.ringRequest t k) s (fun d =>
        let a := e.ringAddr res (e.get (F.RING_HEAD_HEAD res))
        d.words a 8 = [w32 (0x40000000 + k), w32 ((s.dev.reg (R.RING_RQ_ADDR k)).toNat / 4 * 4), lo32 o, hi32 o, rd.2, 0, 0, 0] ∧
          d.get (F.RING_HEAD_HEAD res) = (e.get (F.RING_HEAD_HEAD res) + 1) % 65536 ∧ d.latches = s.dev.latches)) ∧
      (s.dev.flag (F.RING_RQ_SEL_EN k) = true → e.ringEn res = false ∨ e.ringN res ≤ e.ringFill res →
        Does (.ringRequest t k) s (fun _ _ => e.irq P.RING 3))))

/-- R376, R380, R381, R387, R391: the interrupt controller's sources and registers. The source of a ring is pending exactly while the ring is enabled, WM is not 0 and the fill, or for a
software-produced ring N less the fill, is at least WM. INTC_SWI makes its software sources pending; a write of a PEND register clears
the latched sources it names; PRIO and ENABLE of a source are taken at any time, TARGET and its vector only while it is disabled; completion by
a pin ends the ACT of a source that is the pin's. -/
def Obligations.InterruptSourcesAreSetClearedAndConfigured : Prop :=
  ∀ (t : Nat) (who : Initiator) (s : State),
    (∀ r : Fin 32,
      let wm := s.dev.get (F.RING_CFG_WM r)
      s.dev.srcPending (0x100 + r) = true ↔ s.dev.ringEn r = true ∧ wm ≠ 0 ∧
        if ringDevice r then wm ≤ s.dev.ringFill r else wm ≤ s.dev.ringN r - s.dev.ringFill r) ∧
    (∀ w : Word, Granted s who R.INTC_SWI → Writes (.intcSwi t who w) s who (fun e d =>
      ∀ n, n ∈ d.intc.latched ↔ n ∈ e.intc.latched ∨ ∃ k, k < 16 ∧ w.getLsbD k = true ∧ n = 0x1E0 + k)) ∧
    (∀ (j w : Fin 4) (v : Word), Granted s who (R.INTC_PEND j w) v → Writes (.intcPendClear t who j w v) s who (fun e d =>
      let base := 128 * j.val + 32 * w.val
      ∀ n, n ∈ d.intc.latched ↔ n ∈ e.intc.latched ∧ ¬ (base ≤ n ∧ n < base + 32 ∧ v.getLsbD (n - base) = true))) ∧
    (∀ (n : Fin 512) (v : Word),
      (Granted s who (R.INTC_SRC_VEC n) v → Writes (.intcSourceCfgWrite t who n true v) s who (fun e d =>
        d.reg (R.INTC_SRC_VEC n) = if e.flag (F.INTC_SRC_CFG_ENABLE n) then e.reg (R.INTC_SRC_VEC n)
          else if e.target n < 3 then v &&& ~~~1#32 else v)) ∧
      (Granted s who (R.INTC_SRC_CFG n) v → Writes (.intcSourceCfgWrite t who n false v) s who (fun e d =>
        d.prio n = wordGet v 3 0 ∧ d.flag (F.INTC_SRC_CFG_ENABLE n) = v.getLsbD 31 ∧
          d.target n = if e.flag (F.INTC_SRC_CFG_ENABLE n) then e.target n else wordGet v 6 4)) ∧
      (∀ p : Fin 4, Granted s who (R.INTC_COMPLETE p) → Writes (.intcComplete t who p n) s who (fun e d =>
        if e.target n = 3 + p ∧ n.val ∈ e.intc.act then n.val ∉ d.intc.act else d = e)))

/-- R397, R398, R406, R420, R432: the states of a link. Aligned symbols take DOWN to ALIGN, the peer's RATE and the switch set the lower of both maxima;
from ALIGN, AUTH or UP a lost alignment, silence, RESET or DOWN return it to DOWN with their cause, from UP also counted and reported; DOWN sends RESET; failed
authentication takes AUTH to FAILED, whose BACKOFF ends in DOWN. In other states each does nothing.
R397, R406: an accepted AUTH frame of a link in AUTH: one that completes the exchange takes the link UP, with the peer's UID and port, its credits
and counts anew and PIRQ 0; one that fails it takes the link to FAILED as a timeout does; any other leaves it in AUTH. -/
def Obligations.LinksClimbAndFall : Prop :=
  (∀ (t : Nat) (who : Initiator) (n : Fin 4) (s : State),
    let x := s.dev.nl n
    let st := s.dev.nlState n
    let held := fun (cause : Nat) (d : Dev) => (d.set (F.NL_STAT_LAST_DOWN n) cause).nlIdle n
    let gone := fun (now cause : Nat) (up : Bool) (d : Dev) =>
      ((held cause d).linkGone now n up).updNl n (fun x => if cause = 4 then { x with tx := { x.tx with line := [ctrlSym 7 4] } } else x)
    let fromUp := fun (now cause : Nat) (d : Dev) =>
      (((gone now cause true d).incSat (F.NL_CNT_B_DOWN n)).irq (P.NL n) 1).rep (P.NL n) 0x56 1
    let falls := fun (c : Instr) (cause : Nat) =>
      (st = 2 ∨ st = 3 → Does c s (fun now d => gone now cause false d)) ∧
      (st = 4 → Does c s (fun now d => fromUp now cause d)) ∧
      (st < 2 ∨ 4 < st → Does c s (fun _ d => d))
    (st = 1 → Completes (.linkAlign t n) s (fun d => d.nlState n = 2 ∧ (d.nl n).peerRate = none ∧ (d.nl n).switched = false ∧
      (d.nl n).tx.line = [ctrlSym 6 (s.dev.eff (F.NL_RATE_RATE_MAX n))])) ∧
    (st ≠ 1 → Does (.linkAlign t n) s (fun _ d => d)) ∧
    (∀ r : BitVec 7, (st = 2 → Completes (.rate t n r) s (fun d => d.nlState n = 2 ∧ (d.nl n).peerRate = some r.toNat)) ∧
      (st ≠ 2 → Does (.rate t n r) s (fun _ d => d))) ∧
    (∀ r, st = 2 → x.peerRate = some r → Completes (.rateSwitch t n) s (fun d =>
      (d.nl n).switched = true ∧ (d.nl n).rate = min r (s.dev.eff (F.NL_RATE_RATE_MAX n)))) ∧
    (∀ run : Bool, run = false ∨ x.bad < 3 → Completes (.invalidSymbol t n run) s (fun d =>
      d.nlState n = st ∧ (d.nl n).bad = if run then x.bad + 1 else 1)) ∧
    (3 ≤ x.bad → st = 4 → Does (.invalidSymbol t n true) s (fun now d => fromUp now 1 (d.setNl n { x with bad := x.bad + 1 }))) ∧
    falls (.symbolTimeout t n) 1 ∧ falls (.reset t n) 3 ∧
    (Granted s who (R.NL_CTL n) → st = 4 → exec (.nlCtlDown t who n) s = .next (s.wrote t who (fun d => fromUp (s.clock t) 4 d))) ∧
    (Granted s who (R.NL_CTL n) → st = 2 ∨ st = 3 →
      exec (.nlCtlDown t who n) s = .next (s.wrote t who (fun d => gone (s.clock t) 4 false d))) ∧
    (Granted s who (R.NL_CTL n) → st < 2 ∨ 4 < st → exec (.nlCtlDown t who n) s = .next (s.wrote t who id)) ∧
    (st = 3 → Does (.authTimeout t n) s (fun now d =>
      let e := ((d.set (F.NL_STAT_STATE n) 5).set (F.NL_STAT_LAST_DOWN n) 5).linkGone now n false
      (((e.setNl n { e.nl n with backEnd := now + max 1 (e.eff (F.NL_CFG_BACKOFF n)) * 128000000 }).incSat (F.NL_CNT_C_AUTHFAIL n)).irq
        (P.NL n) 3).rep (P.NL n) 0x58 1)) ∧
    (st ≠ 3 → Does (.authTimeout t n) s (fun _ d => d)) ∧
    (st = 5 → x.backEnd ≤ s.clock t → Completes (.backoffEnd t n) s (fun d => d.nlState n = 1))) ∧
  (∀ (t : Nat) (n port : Fin 4) (fr : LinkFrame) (uid : List Word) (txSeq : BitVec 8) (s : State),
    let e := s.dev.heard (s.clock t) n fr
    s.dev.receiving n → FrameGood s.dev n fr → isLink 1 fr = true → e.nlState n = 3 →
      Does (.auth t n fr 0 uid port txSeq) s (fun _ _ => e) ∧
      Does (.auth t n fr 2 uid port txSeq) s (fun now _ => e.authFail now n) ∧
      Completes (.auth t n fr 1 uid port txSeq) s (fun d =>
        d.nlState n = 4 ∧ d.get (F.NL_STAT_PEER_PORT n) = port ∧ (∀ i : Fin 4, d.reg (R.NL_PEER n i) = wordAtD uid i) ∧
          d.get (F.NL_RATE_RATE n) = (e.nl n).rate % 2 ^ ((F.NL_RATE_RATE n).hi + 1 - (F.NL_RATE_RATE n).lo) ∧
          (d.reg (R.PIRQ (P.NL n))).getLsbD 0 = true))

/-- R402, R404, R407: every frame a link receives is checked before it has an effect, whatever it carries. A corrupted frame counts CRC and is answered one NACK,
of the number expected, until a frame is accepted; one out of order is passed over, with a NACK where it is ahead and an ACK where it came before;
the buffers it took are returned; one of a wrong length counts LEN, sets PIRQ 4 and reports 0x5A, its number being
taken; one whose tag fails counts CRC and TAG, sets PIRQ 5 and reports 0x59. A link that takes no frames is not touched. -/
def Obligations.FramesAreCheckedInOrder : Prop :=
  ∀ (t : Nat) (n : Fin 4) (fr : LinkFrame) (err : Fin 3) (q : Fin 4) (c : Instr) (s : State),
    c ∈ ([(.hello t n fr), (.topo t n fr), (.assign t n fr), (.chg t n fr), (.regRd t n fr err), (.regWr t n fr), (.regRsp t n fr), (.intr t n fr),
      (.intrAck t n fr), (.msg t n fr q), (.msgAck t n fr), (.noticeHold t n fr), (.noticeRelease t n fr), (.noticePath t n fr),
      (.tagCarrier t n fr)] : List Instr) →
    let e := s.dev.nlHear n
    let x := e.nl n
    let now := s.clock t
    let nack := fun (d : Dev) => if (d.nl n).nacked then d else
      (d.insertSyms now n (.nack (d.nl n).rxExp)).updNl n (fun x => { x with nacked := true })
    let freed := fun (d : Dev) => if frameBufs fr = 0 then d else
      d.insertSyms now n (.credit (min 16 (max 1 ((frameBufs fr + 15) / 16))))
    let whole := fr.framing = true ∧ fr.crc = crc16 fr.words
    let next := fr.seq % 256 = x.rxExp
    let len := frameLen fr
    (¬ s.dev.receiving n → Does c s (fun _ d => d)) ∧
    (s.dev.receiving n →
      (¬ whole → Does c s (fun _ _ => freed (nack (e.incSat (F.NL_CNT_A_CRC n))))) ∧
      (whole → ¬ next → Does c s (fun _ _ => freed (if (x.rxExp + 256 - fr.seq % 256) % 256 < 128 then
        (if x.nacked then e else e.insertSyms now n (.ack ((x.rxExp + 255) % 256))) else nack e))) ∧
      (whole → next → 64 < len ∨ fr.words.length ≠ len + frameTags fr + 2 → Does c s (fun _ _ =>
        freed ((((e.numberTaken now n).incSat (F.NL_CNT_B_LEN n)).irq (P.NL n) 4).rep (P.NL n) 0x5A 0 (if 64 < len then 0 else 1)))) ∧
      (whole → next → len ≤ 64 → fr.words.length = len + frameTags fr + 2 → e.nlUp n = true → fr.tagOk = false → Does c s (fun _ _ =>
        freed ((((nack (e.incSat (F.NL_CNT_A_CRC n))).incSat (F.NL_CNT_C_TAG n)).irq (P.NL n) 5).rep (P.NL n) 0x59 1))) ∧
      (FrameGood s.dev n fr → Completes (.tagCarrier t n fr) s (fun d => d = s.dev.heard (s.clock t) n fr)))

/-- R403 to R405: on a link that is UP an ACK frees the frames it names, a NACK frees the earlier ones and sends the rest again, a CREDIT returns buffers
up to 16, and a frame unacknowledged for ACK_TO is retried; a retry beyond RETRY_MAX takes the link DOWN with cause 2. Where nothing is being
retried and nothing waits, exactly the acknowledged frames leave the replay buffer.
R425: echoes measure a link. A request goes out at its time, every 10 µs for the first eight, then every 10 ms; a response gives a sample, and LAT shows half the mean
of the last eight, to a tu; a request without an answer for 1 ms is given up; a peer's request is answered by a response pair that tells how long it
stayed here. -/
def Obligations.LinksRetryTheirFramesAndMeasureLatency : Prop :=
  (∀ (t : Nat) (n : Fin 4) (q : BitVec 8) (k : Fin 17) (s : State),
    let e := s.dev.nlHear n
    let x := e.nl n
    s.dev.nlState n = 4 →
      Does (.ack t n q) s (fun now _ => ((e.freeFrames now n q.toNat).nlPump now n).nlSettle n) ∧
      (x.q = [] → (∀ f ∈ x.replay, f.again = false ∧ f.wait = false) → Completes (.ack t n q) s (fun d =>
        (d.nl n).replay = x.replay.filter (fun f => !seqLe f.seq q.toNat) ∧ (d.nl n).credits = x.credits ∧ d.flag (F.NL_STAT_RETRYING n) = false)) ∧
      Does (.nack t n q) s (fun now _ => (((e.freeFrames now n ((q.toNat + 255) % 256)).nlRetry now n).nlPump now n).nlSettle n) ∧
      (x.replay = [] → x.q = [] → Completes (.credit t n k) s (fun d => (d.nl n).credits = min 16 (x.credits + k))) ∧
      Does (.credit t n k) s (fun now _ => (e.setNl n { x with credits := min 16 (x.credits + k) }).nlPump now n) ∧
      (∀ f r, (s.dev.nl n).replay = f :: r → f.wait = false → f.sent + s.dev.eff (F.NL_CFG_ACK_TO n) * 12800 ≤ s.clock t →
        Does (.ackTimeout t n) s (fun now d => d.nlRetry now n) ∧
        (s.dev.eff (F.NL_CFG_RETRY_MAX n) ≤ f.retries → Does (.ackTimeout t n) s (fun now d => d.nlDown now n 2)))) ∧
  (∀ (t : Nat) (n : Fin 4) (resid t4 : Nat) (s : State),
    let x := s.dev.nl n
    let now := s.clock t
    s.dev.nlState n = 4 →
      (x.echoNext ≤ now → Completes (.echoRequestTimer t n) s (fun d =>
        (d.nl n).echoOut = some now ∧ (d.nl n).echoN = x.echoN + 1 ∧
          (d.nl n).echoNext = now + if x.echoN + 1 < 8 then 128000 else 128000000)) ∧
      (now < x.echoNext → Does (.echoRequestTimer t n) s (fun _ d => d)) ∧
      Does (.echoReq t n) s (fun now d => ((d.setNl n { x with bad := 0 }).insertSyms now n (.echoRsp now))) ∧
      (∀ t1, x.echoOut = some t1 → Completes (.echoRsp t n resid t4) s (fun d =>
        let l := ((t4 - t1 - resid) :: x.smp).take 8
        let sum := l.foldl (· + ·) 0
        (d.nl n).smp = l ∧ (d.nl n).echoOut = none ∧
          ∃ m, 2 * l.length * m < sum + 2 * l.length ∧ sum < 2 * l.length * (m + 1) ∧ d.get (F.NL_LAT_LAT n) = min m 0xFFFFF)) ∧
      (∀ t1, x.echoOut = some t1 → t1 + 12800000 ≤ now → Completes (.echoTimeout t n) s (fun d =>
        (d.nl n).echoOut = none ∧ (d.nl n).smp = x.smp ∧ d.reg (R.NL_LAT n) = s.dev.reg (R.NL_LAT n))))

/-- R409 to R411, R433: discovery. HELLO goes out on every UP link; a neighbour's HELLO is kept and the root adopted anew, and a new epoch of the
parent is entered; a TOPO is collected at the root in its epoch, elsewhere passed to the parent; an ASSIGN for this node sets its address and
routes, another goes down the tree; CHG, received or written as REDISC, makes the root begin the next epoch; SETTLE without a new TOPO makes the root assign
the addresses. -/
def Obligations.DiscoveryElectsTheRootAndAssignsAddresses : Prop :=
  ∀ (t : Nat) (who : Initiator) (n : Fin 4) (fr : LinkFrame) (s : State),
    let now := s.clock t
    let e := s.dev.heard now n fr
    let b := frameBody fr
    let ep := wordGet (wordAtD b 0) 15 8
    let u := wordsUid (b.drop 1)
    let up := fun k => s.dev.receiving n ∧ FrameGood s.dev n fr ∧ isLink k fr = true ∧ e.nlState n = 4
    (s.dev.enabled P.FAB = false → Does (.helloTimer t) s (fun _ d => d)) ∧
    (s.dev.enabled P.FAB = true → Does (.helloTimer t) s (fun now d =>
      d.upLinks.foldl (fun (d : Dev) p => d.nlSend now p { link := true, body := d.helloBody }) d)) ∧
    (e.fabOn = false →
      (up 2 → Does (.hello t n fr) s (fun _ _ => e)) ∧ (up 3 → Does (.topo t n fr) s (fun _ _ => e)) ∧
      (up 4 → Does (.assign t n fr) s (fun _ _ => e)) ∧ (up 5 → Does (.chg t n fr) s (fun _ _ => e))) ∧
    (e.fabOn = true →
      (up 2 → Does (.hello t n fr) s (fun _ _ =>
        let nbr : Nbr := { uid := u, root := wordsUid (b.drop 5), dist := wordGet (wordAtD b 0) 23 16, epoch := ep, addr := wordGet (wordAtD b 0) 5 0 }
        let f : Dev := { e with fab := { e.fab with nbr := vSet e.fab.nbr n (some nbr), maxEpoch := max e.fab.maxEpoch ep } }
        let g := f.adopt now
        if g.fab.parent = some n.val ∧ ep ≠ g.get F.FAB_STAT_EPOCH then g.newEpoch now ep else g)) ∧
      (up 3 → let f : Dev := { e with fab := { e.fab with via := (u, n.val) :: e.fab.via.filter (fun p => p.1 != u) } }
        (e.isRoot = true → Does (.topo t n fr) s (fun _ _ =>
          if ep = e.get F.FAB_STAT_EPOCH then
            { f with fab := { f.fab with topo := e.fab.topo.filter (fun p => p.1 != u) ++ [(u, b)], topoAt := now } } else f)) ∧
        (∀ p, e.isRoot = false → e.fab.parent = some p → Does (.topo t n fr) s (fun _ _ => f.nlSend now p { link := true, body := b })) ∧
        (e.isRoot = false → e.fab.parent = none → Does (.topo t n fr) s (fun _ _ => f))) ∧
      (up 4 →
        (u = ownUid → Completes (.assign t n fr) s (fun d =>
          d.ownAddr = wordGet (wordAtD b 5) 5 0 ∧ d.get F.FAB_STAT_NNODES = wordGet (wordAtD b 5) 13 8 ∧ (d.reg (R.PIRQ P.FAB)).getLsbD 0 = true ∧
            ∀ a : Fin 64, d.get (F.FAB_RTE_ENTRY a) =
              wordGet (wordAtD b (6 + a / 4)) (31 - 8 * (a % 4)) (24 - 8 * (a % 4)) % 2 ^ ((F.FAB_RTE_ENTRY a).hi + 1 - (F.FAB_RTE_ENTRY a).lo))) ∧
        (∀ v p, u ≠ ownUid → e.fab.via.find? (fun x => x.1 == u) = some (v, p) →
          Does (.assign t n fr) s (fun _ _ => e.nlSend now p { link := true, body := b })) ∧
        (u ≠ ownUid → e.fab.via.find? (fun x => x.1 == u) = none → Does (.assign t n fr) s (fun _ _ => e))) ∧
      (up 5 →
        (e.isRoot = true → Does (.chg t n fr) s (fun _ _ => e.newEpoch now ((e.get F.FAB_STAT_EPOCH + 1) % 256))) ∧
        (∀ p, e.isRoot = false → e.fab.parent = some p → Does (.chg t n fr) s (fun _ _ => e.nlSend now p { link := true, body := b })))) ∧
    (Granted s who R.FAB_CTL → s.dev.enabled P.FAB = true → s.dev.isRoot = true →
      exec (.redisc t who) s = .next (s.wrote t who (fun d => d.newEpoch now ((d.get F.FAB_STAT_EPOCH + 1) % 256)))) ∧
    (let l := s.dev.fab.topo.map (fun p => topoOf p.2)
     let g := assignAddrs l
     let due := s.dev.fab.topoAt + s.dev.get F.FAB_CFG_SETTLE * 12800000 ≤ now
     (¬ due ∨ s.dev.isRoot = false ∨ s.dev.fab.collecting = false → Does (.settleExpiry t) s (fun _ d => d)) ∧
     (due → s.dev.enabled P.FAB = true → s.dev.isRoot = true → s.dev.fab.collecting = true →
      (∀ x ∈ l, ∀ p ∈ x.peers, p = 0 ∨ ∃ y ∈ l, y.uid = p) → Does (.settleExpiry t) s (fun now d =>
        let f := l.foldl (fun (d : Dev) x => d.passAssign now (assignBody l g x (d.get F.FAB_STAT_EPOCH))) { d with fab := { d.fab with collecting := false } }
        if g.length < l.length then f.rep P.FAB 0x5C 1 else f)))

/-- R389, R413, R416 to R421: a transport frame accepted in UP goes by its header. A frozen FAB drops it, a FAB that is off answers the sender's timer
node PATH; one for another node goes on with TTL less 1, or is dropped with NOROUTE where TTL is spent or the address is none; one for this node is delivered
once: a number that comes again counts DUP and is answered as before. Each class has its effect: register reads and writes as initiator FAB,
interrupt sources, FRX records, completions, and notices about messages in flight. -/
def Obligations.TransportFramesAreRoutedAndDelivered : Prop :=
  ∀ (t : Nat) (n : Fin 4) (fr : LinkFrame) (err : Fin 3) (q : Fin 4) (s : State),
    let now := s.clock t
    let e := s.dev.heard now n fr
    let h := hdrOf (frameBody fr)
    let p := (frameBody fr).drop 2
    let f := e.rxMark h.src h.seq
    let come := s.dev.receiving n ∧ FrameGood s.dev n fr ∧ frameTransport fr = true ∧ e.nlState n = 4
    let mine := come ∧ e.fabOn = true ∧ e.frozen P.FAB = false ∧ 1 ≤ h.dst ∧ h.dst ≤ 63 ∧ h.dst = e.ownAddr
    let fresh := RxWin.isNew (smGet e.fab.rxWin h.src) h.seq
    (∀ c k, (c, k) ∈ ([((.regRd t n fr err), 0), ((.regWr t n fr), 1), ((.regRsp t n fr), 2), ((.intr t n fr), 3), ((.intrAck t n fr), 4), ((.msg t n fr q), 5),
        ((.msgAck t n fr), 6)] : List (Instr × Nat)) → come → h.cls = k →
      (e.frozen P.FAB = true → Does c s (fun _ _ => e)) ∧
      (e.frozen P.FAB = false → e.fabOn = false → Does c s (fun _ _ => e.notice now 2 h)) ∧
      (e.frozen P.FAB = false → e.fabOn = true →
        (h.dst = 0 ∨ (63 < h.dst ∧ h.dst ≠ 0xFF) → Does c s (fun _ _ => e.noRoute.notice now 2 h)) ∧
        (h.dst = 0xFF → h.cls ≠ 5 → Does c s (fun _ _ => e.noRoute.notice now 2 h)) ∧
        (1 ≤ h.dst → h.dst ≤ 63 → h.dst ≠ e.ownAddr → h.ttl ≤ 1 → Does c s (fun _ _ => e.noRoute.notice now 2 h)) ∧
        (1 ≤ h.dst → h.dst ≤ 63 → h.dst ≠ e.ownAddr → 1 < h.ttl → Does c s (fun _ _ =>
          e.fabForward now (setHdr (frameBody fr) { h with ttl := h.ttl - 1 }))))) ∧
    (come → e.fabOn = true → e.frozen P.FAB = false → h.cls = 5 → h.dst = 0xFF → Does (.msg t n fr q) s (fun _ _ =>
      let g := e.deliverMsg now h p q 0
      let ports := g.treePorts.filter (· != n.val)
      if ports = [] then g
      else if h.ttl ≤ 1 then g.noRoute.notice now 2 h
      else ports.foldl (fun (d : Dev) o => d.nlSend now o { link := false, body := setHdr (frameBody fr) { h with ttl := h.ttl - 1 } }) g)) ∧
    (mine → fresh = false → ∀ c k, (c, k) ∈ ([((.regRd t n fr err), 0), ((.regWr t n fr), 1), ((.intr t n fr), 3), ((.msg t n fr q), 5)] : List (Instr × Nat)) →
      h.cls = k → Does c s (fun _ _ => (e.incSat F.FAB_CNT_B_DUP).answerAgain now h.src h.seq)) ∧
    (mine → fresh = true →
      (h.cls = 0 → Does (.regRd t n fr err) s (fun _ _ => let r := f.regRd now p err; r.1.answer now h.src h.seq 2 r.2.1 r.2.2)) ∧
      (h.cls = 1 → Does (.regWr t n fr) s (fun _ _ => let r := f.regWr now p; r.1.answer now h.src h.seq 2 r.2.1 r.2.2)) ∧
      (h.cls = 3 → Does (.intr t n fr) s (fun _ _ =>
        ((f.latchSrc (0x140 + h.arg % 64)).setReg R.INTC_FABIN (w32 (h.arg % 64 * 256 + h.src % 64))).answer now h.src h.seq 4 (h.arg % 64) [])) ∧
      (h.cls = 5 → Does (.msg t n fr q) s (fun _ _ =>
        let r := f.frxPut now q h p; r.1.answer now h.src h.seq 6 (if r.2 then 0 else 4) [])) ∧
      (h.cls = 7 →
        (h.arg / 4096 = 0 → Does (.noticeHold t n fr) s (fun _ _ => f.localNotice now 0 (wordAtD p 0))) ∧
        (h.arg / 4096 = 1 → Does (.noticeRelease t n fr) s (fun _ _ => f.localNotice now 1 (wordAtD p 0))) ∧
        (h.arg / 4096 = 2 → Does (.noticePath t n fr) s (fun _ _ => f.localNotice now 2 (wordAtD p 0))))) ∧
    (mine → e.findMsg h.src h.seq = none →
      (h.cls = 2 → Does (.regRsp t n fr) s (fun _ _ => e.incSat F.FAB_CNT_B_DUP)) ∧
      (h.cls = 4 → Does (.intrAck t n fr) s (fun _ _ => e.incSat F.FAB_CNT_B_DUP)) ∧
      (h.cls = 6 → Does (.msgAck t n fr) s (fun _ _ => e.incSat F.FAB_CNT_B_DUP))) ∧
    (∀ m, mine → e.findMsg h.src h.seq = some m →
      (h.cls = 2 → m.cls ≤ 1 → Does (.regRsp t n fr) s (fun _ _ =>
        e.fabComplete now m (if h.arg = 0 then 0 else 7) (h.arg % 16) (if m.cls = 0 then p.take (m.cnt + 1) else []))) ∧
      (h.cls = 4 → m.cls = 3 → Does (.intrAck t n fr) s (fun _ _ => e.fabComplete now m 0 0 [])) ∧
      (h.cls = 6 → m.cls = 5 → Does (.msgAck t n fr) s (fun _ _ => e.fabComplete now m (if h.arg = 0 then 0 else 4) 0 [])))

/-- R418, R419, R421: the node's own messages. The message at TAIL of an FTX ring of class REG_RD, REG_WR or MSG leaves by its route and is in flight until its
deadline; one of another class, of a wrong length, without an address or a route is completed at once with its status; a disabled or empty ring, or
one whose message is in flight, sends nothing. A message whose time is over completes with TIMEOUT, and a pause that has used MAX_PAUSE ends. -/
def Obligations.MessagesAreSentTimedAndCompleted : Prop :=
  ∀ (t : Nat) (r : Fin 4) (k : Fin 5) (src : Fin 512) (s : State),
    let now := s.clock t
    let ring := 16 + r.val
    let tail := s.dev.get (F.RING_TAIL_TAIL ring)
    let w0 := s.dev.entryWord ring tail 0
    let w1 := s.dev.entryWord ring tail 1
    let nent := wordGet w0 19 18 + 1
    let dst := wordGet w0 31 24
    let cls := wordGet w0 23 20
    let len := wordGet w1 6 0
    let room := 14 + 16 * (nent - 1)
    let payload := (List.range (min len 62)).map (fun i => s.dev.entryWord ring tail (2 + i))
    let ready := s.dev.enabled P.FAB = true ∧ s.dev.restarting P.FAB = false ∧ s.dev.frozen P.FAB = false ∧ s.dev.ringEn ring = true ∧
      (∀ m ∈ s.dev.msgs, m.ring ≠ r.val) ∧ nent ≤ s.dev.ringFill ring
    let fits := len ≤ 62 ∧ len ≤ room ∧ (cls = 0 → 2 + wordGet (wordAtD payload 1) 3 0 ≤ room)
    (s.dev.ringEn ring = false ∨ s.dev.ringFill ring = 0 → ∀ err, Does (.ftxEntry t r err) s (fun _ d => d)) ∧
    (s.dev.enabled P.FAB = false → Does (.ftxEntry t r 0) s (fun _ d => d)) ∧
    (ready →
      ((cls ≠ 0 ∧ cls ≠ 1 ∧ cls ≠ 5) ∨ (dst = 0xFF ∧ cls ≠ 5) → Does (.ftxEntry t r 0) s (fun now d => d.ftxDone now r now nent 0 6 0 [])) ∧
      (cls = 5 ∨ (dst ≠ 0xFF ∧ cls ≤ 1) → ¬ fits → Does (.ftxEntry t r 0) s (fun now d => d.ftxDone now r now nent 0 5 0 [])) ∧
      (cls = 5 ∨ (dst ≠ 0xFF ∧ cls ≤ 1) → fits → s.dev.ownAddr = 0 → Does (.ftxEntry t r 0) s (fun now d => d.ftxDone now r now nent 0 3 0 [])) ∧
      (cls = 5 → fits → s.dev.ownAddr ≠ 0 → dst = 0xFF → Does (.ftxEntry t r 0) s (fun now d =>
        let e := d.nextSeq 0xFF
        let hdr : THdr := { dst := dst, src := d.ownAddr, cls := 5, rr := false, ttl := d.get F.FAB_TTL_TTL, seq := e.2, arg := wordGet w0 15 0 }
        if d.treePorts = [] then d.ftxDone now r now nent 0 3 0 []
        else (d.treePorts.foldl (fun (d : Dev) o => d.nlSend now o { link := false, body := hdr.words ++ payload }) e.1).ftxDone now r now nent e.2 0 0 [])) ∧
      (cls = 0 ∨ cls = 1 ∨ cls = 5 → fits → s.dev.ownAddr ≠ 0 → dst ≠ 0xFF → Does (.ftxEntry t r 0) s (fun now d =>
        let e := d.nextSeq dst
        let hdr : THdr := { dst := dst, src := d.ownAddr, cls := cls, rr := false, ttl := d.get F.FAB_TTL_TTL, seq := e.2,
                            arg := if cls = 5 then wordGet w0 15 0 else 0 }
        let o := e.1.fabOut now (hdr.words ++ payload)
        if o.2 = 1 then o.1.ftxDone now r now nent e.2 3 0 []
        else if o.2 = 2 then (((o.1.incSat F.FAB_CNT_A_PATHFAIL).rep P.FAB 0x5F 0)).ftxDone now r now nent e.2 2 0 []
        else o.1.setMsgs (o.1.msgs ++ [{ ring := r, dst := dst, cls := cls, seq := e.2, at0 := now, deadline := now + o.1.classTo cls, nent := nent,
                                         cnt := if cls = 0 then wordGet (wordAtD payload 1) 3 0 + 1 else 0 }])))) ∧
    (∀ m, s.dev.msgs.find? (fun m => m.ring == k.val && (decide (k.val < 4) || m.src == src.val)) = some m →
      (m.hold = none → m.deadline ≤ now → Does (.messageTimeout t k src) s (fun now d => d.fabComplete now m 1 0 [])) ∧
      (m.hold ≠ none ∨ now < m.deadline → Does (.messageTimeout t k src) s (fun _ d => d)) ∧
      (∀ u, m.hold = some u → u + s.dev.pauseLeft m ≤ now → Does (.maxPause t k src) s (fun now d => d.putMsg (d.endPause now m))))

/-- R422 to R429: beacons. A beacon is noted for its tag; one from a link that carries none is otherwise ignored, one without hops left is counted
and reported with 0x60, one seen before counts DUP; a new one is recorded with its age. A tag that fails or does not come within VTO fails the
beacon; tags that wait for BTAG_T leave on a tag carrier. -/
def Obligations.BeaconsAreReceivedAndVerified : Prop :=
  ∀ (t trx : Nat) (n : Fin 4) (b0 b1 b2 : BitVec 16) (dls : List Nat) (up : Bool) (par : Fin 3) (cur : Nat) (s : State),
    let e := s.dev.nlHear n
    let x := e.nl n
    let f := (b0.extractLsb' 14 2).toNat
    let hops := (b0.extractLsb' 11 3).toNat
    let seq := (b0.extractLsb' 0 8).toNat
    let age := (b1.extractLsb' 0 7).toNat * 65536 + b2.toNat
    let got : Instr := (.beaconReceive t n trx b0 b1 b2 dls up par cur)
    let noted := fun (d : Dev) => d.setNl n { d.nl n with bcntRx := x.bcntRx + 1, rxTags := x.rxTags ++ [{ at0 := trx, doms := [], fwd := [] }] }
    let open' := e.carries n = true ∧ e.enabled P.BEAC = true ∧ e.frozen P.BEAC = false ∧ e.restarting P.BEAC = false ∧ e.flag (F.BEAC_TX_EN f) = false
    (e.nlUp n = false → Does got s (fun _ _ => e)) ∧
    (e.nlUp n = true →
      (¬ open' → Does got s (fun _ _ => noted e)) ∧
      (open' → hops = 0 ∨ hops = 7 → Does got s (fun _ _ => noted (((e.incSat F.BEAC_CNT_A_HOPLIM).irq P.BEAC 3).rep P.BEAC 0x60 0))) ∧
      (open' → 1 ≤ hops → hops ≤ 6 → e.beaconSeen f seq = true → Does got s (fun _ _ => noted (e.incSat F.BEAC_CNT_A_DUP))) ∧
      (open' → 1 ≤ hops → hops ≤ 6 → e.beaconSeen f seq = false → e.flag (F.BEAC_FWD_EN f) = false →
        (∀ k : Fin 2, e.get (F.BEAC_RX_FDOM k) ≠ f) → Completes got s (fun d =>
          d.beaconSeen f seq = true ∧ d.reg (R.BEAC_STAT f) = w32 (seq * 0x1000000 + hops * 0x200000 + n.val * 0x10000) ∧ d.reg (R.BEAC_AGE f) = w32 age ∧
            (d.nl n).bcntRx = x.bcntRx + 1))) ∧
    (∀ b l, (s.dev.nl n).tags = b :: l → s.dev.nlUp n = true → b.tag ≠ 0 → b.at0 + s.dev.get F.BEAC_VER_BTAG_T * 1280 ≤ s.clock t →
      Does (.btagTExpiry t n) s (fun now d => d.sendCarrier now n)) ∧
    ((s.dev.nl n).tags = [] ∨ s.dev.nlUp n = false → Does (.btagTExpiry t n) s (fun _ d => d)) ∧
    (let y := s.dev.nl n
     let late := fun (b : BRx) => !b.dead && decide (b.at0 + s.dev.get F.BEAC_VER_VTO * 12800 ≤ s.clock t)
     Does (.beaconVto t n) s (fun now d =>
      (y.rxTags.filter late).foldl (fun (d : Dev) b => d.beaconSettled now b false)
        (d.setNl n { y with rxTags := y.rxTags.filterMap (fun b => if late b then (if b.orphan then none else some { b with dead := true }) else some b) })))

/-- R436, R439, R440, R446: the fault collector takes a source's oldest message. A source without an unacknowledged fault then holds the message's class, a
count of 1 and the level of R439: L0 or L1 for class C, L1 without an action, else L2 with the react time as its deadline; one that holds a fault
counts on, and keeps its level where the class is the same and does not escalate. A source with no message waiting is not touched.
R440 to R444: a source at L2 whose deadline has passed at a reference edge enters L3: LEVEL 3, PIRQ 2, the L3 count, an error event, a log record, and the
action configured then: nothing, a restart of the source's page, the safe end and hold of its domains, or device SAFE with cause FCOL. Before the deadline,
or at another level, nothing happens. -/
def Obligations.FaultsEnterTheirLevelsAndActions : Prop :=
  (∀ (t : Nat) (src : Fin 512) (s : State),
    let now := s.clock t
    let x := s.dev.fsrc src
    (s.dev.fcol.awaiting.all (fun m => m.src != src.val) = true → Does (.faultMessage t src) s (fun _ d => d)) ∧
    (∀ m l, takeFirst (fun m => m.src == src.val) s.dev.fcol.awaiting = some (m, l) →
      (x.unack = false → Completes (.faultMessage t src) s (fun d =>
        let y := d.fsrc src
        let lvl := if m.cls = 0 then s.dev.get (F.FCOL_SCFG_NOTIFY_C src) else if s.dev.get (F.FCOL_SCFG_ACTION src) = 0 then 1 else 2
        y.unack = true ∧ y.cls = m.cls ∧ y.level = lvl ∧ y.count = 1 ∧ y.kind = m.kind ∧ y.forced = m.forced ∧
          y.deadline = (if lvl = 2 then some (now + if m.cls = 2 then s.dev.get F.FCOL_REACT_RF * 12800 else s.dev.get F.FCOL_REACT_RU * 1280000) else none) ∧
          y.w0 = faultWord src m.kind m.cls lvl m.detail ∧ y.w1 = w32 m.arg)) ∧
      (x.unack = true → x.level < 3 → m.cls = x.cls → s.dev.escalates m.cls = false → Completes (.faultMessage t src) s (fun d =>
        let y := d.fsrc src
        y.unack = true ∧ y.cls = x.cls ∧ y.level = x.level ∧ y.deadline = x.deadline ∧ y.count = min (x.count + 1) 0xFFFF)))) ∧
  (∀ (t u : Nat) (src : Fin 512) (s : State),
    let x := s.dev.fsrc src
    let a := s.dev.get (F.FCOL_SCFG_ACTION src)
    let doms := if a = 2 then (s.dev.safeDomains src).foldl (fun m k => m ||| 2 ^ k) 0 else 0
    let y : FSrc := { x with level := 3, deadline := none, act := a, doms := doms, w0 := wordSet x.w0 19 18 3 }
    let l3 := fun (now : Nat) (d : Dev) =>
      (((((d.setFsrc src y).pfltLevel src 3).irq P.FCOL 2).incSat F.FCOL_CNT_B_L3).errEvent now).logAction now a y
    (x.deadline = none ∨ x.unack = false ∨ x.level ≠ 2 → Does (.reactTimeout t src) s (fun _ d => d)) ∧
    (x.deadline = some u → s.clock t < (u + 511) / 512 * 512 → Does (.reactTimeout t src) s (fun _ d => d)) ∧
    (x.deadline = some u → x.unack = true → x.level = 2 → (u + 511) / 512 * 512 ≤ s.clock t →
      (a = 0 ∨ 3 < a ∨ (a = 1 ∧ srcPage src = none) → Does (.reactTimeout t src) s l3) ∧
      (∀ pg, a = 1 → srcPage src = some pg → Does (.reactTimeout t src) s (fun now d => (l3 now d).blockRestart now pg)) ∧
      (a = 2 → Does (.reactTimeout t src) s (fun now d =>
        (((l3 now d).safeDomains src)).foldl (fun (d : Dev) k =>
          (d.set F.FCOL_DHOLD_HOLD (d.get F.FCOL_DHOLD_HOLD ||| 2 ^ k)).syncDrop now k 11 none) (l3 now d))) ∧
      (a = 3 → Does (.reactTimeout t src) s (fun now d =>
        let e := l3 now d
        (if e.flag F.SYS_SAFE_FCOL then e else e.set F.SYS_SAFE_SRC src).safeEnter now F.SYS_SAFE_FCOL))))

/-- R442, R445, R449: acknowledging a source ends its fault: UNACK, the deadline and the count go, and its page's FAULTED; ALL does so for every source. A
domain's hold is cleared where no unacknowledged fault ended that domain. SWLVL moves ERRn outside MINW and SAFE, a 1 inside MINW is discarded, and at the end of MINW the
pin follows SWLVL again. -/
def Obligations.FaultsAreAcknowledgedAndThePinFollows : Prop :=
  ∀ (t : Nat) (who : Initiator) (src : Fin 512) (w : Word) (v : Bool) (s : State),
    (Granted s who R.FCOL_ACK → Writes (.fcolAck t who src) s who (fun e d =>
      if (e.fsrc src).unack then
        d.fsrc src = { e.fsrc src with unack := false, deadline := none, count := 0 } ∧ (∀ n, n ≠ src.val → d.fsrc n = e.fsrc n) ∧
          ∀ pg, srcPage src = some pg → d.flag (F.PSTAT_FAULTED pg) = false
      else d = e)) ∧
    (Granted s who R.FCOL_ACK → Writes (.fcolAckAll t who) s who (fun _ d => ∀ n, (d.fsrc n).unack = false)) ∧
    (Granted s who R.FCOL_DHOLD → Writes (.dholdClear t who w) s who (fun e d =>
      ∀ k : Fin 2, (d.get F.FCOL_DHOLD_HOLD).testBit k = ((e.get F.FCOL_DHOLD_HOLD).testBit k && !(w.getLsbD k && e.mayRelease k)))) ∧
    (Granted s who R.FCOL_ERRPIN → s.dev.unlocked who P.FCOL = true → Writes (.swlvlWrite t who v) s who (fun e d =>
      if v = true ∧ e.fcol.minwEnd ≠ none then d.flag F.FCOL_ERRPIN_DISC = true ∧ d.flag F.FCOL_ERRPIN_SWLVL = e.flag F.FCOL_ERRPIN_SWLVL
      else d.flag F.FCOL_ERRPIN_SWLVL = v ∧ d.flag F.FCOL_ERRPIN_PIN = (v && e.fcol.minwEnd.isNone && e.mode != 11))) ∧
    (∀ u, s.dev.fcol.minwEnd = some u →
      (u ≤ s.clock t → Completes (.minwEnd t) s (fun d =>
        d.fcol.minwEnd = none ∧ d.flag F.FCOL_ERRPIN_PIN = (s.dev.flag F.FCOL_ERRPIN_SWLVL && s.dev.mode != 11))) ∧
      (s.clock t < u → Does (.minwEnd t) s (fun _ d => d)))

/-- R453 to R455: forced and software faults. In CONFIG and SERVICE a force bit, of the page or of the force registers, sends one message of the source with
the kind, class and detail of FCOL_FINJ and FORCED set; in any other mode the page written reports MODE_REFUSED. FCOL_SWF sends the message of
its software source; class 3 is refused.
R457 to R460: a sample enters the bin of floor((v - HBASE) / 2^SHIFT), limited to 0 to 31, HBASE being signed when the probe is. The commands of a monitor: SNAP copies the count, the sum, the extremes and the bins with the time, SNAPCLR then empties the live
values, CLR only empties them; PROBE, SEL and SHIFT are taken while EN is 0 and refused with CFG_BUSY while it is 1, and enabling empties the live values. -/
def Obligations.FaultsAreForcedAndMonitorsRead : Prop :=
  (∀ (t : Nat) (who : Initiator) (src : Fin 512) (w : Word) (s : State),
    let forced := fun (d : Dev) => d.report { src := src, kind := d.get F.FCOL_FINJ_KIND, cls := d.get F.FCOL_FINJ_CLASS,
                                              detail := d.get F.FCOL_FINJ_DETAIL, arg := 0xFFFFFFFF, forced := true }
    let may := s.dev.mode = 4 ∨ s.dev.mode = 9
    (src.val < 0xE3 → (pageInfo src).isSome = true → Granted s who (R.PFFRC src) →
      (may → exec (.faultForce t who src true) s = .next (s.wrote t who forced)) ∧
      (¬ may → exec (.faultForce t who src true) s = .next (s.wrote t who (fun d => d.rep src 0x01 0)))) ∧
    (Granted s who (R.FFRC_FRC (src / 256) (src % 256 / 32)) →
      (may → exec (.faultForce t who src false) s = .next (s.wrote t who forced)) ∧
      (¬ may → exec (.faultForce t who src false) s = .next (s.wrote t who (fun d => d.rep (P.FFRC (src / 256)) 0x01 0)))) ∧
    (Granted s who R.FCOL_SWF →
      (wordGet w 17 16 ≠ 3 → exec (.swFault t who w) s = .next (s.wrote t who (fun d => d.report
        { src := 0x1F0 + wordGet w 2 0, kind := 0x06, cls := wordGet w 17 16, detail := wordGet w 31 20, arg := (d.reg R.FCOL_SWARG).toNat }))) ∧
      (wordGet w 17 16 = 3 → exec (.swFault t who w) s = .next (s.wrote t who (fun d => d.rep P.FCOL 0x03 0))))) ∧
  (∀ (t : Nat) (who : Initiator) (m : Fin 16) (w : Word) (s : State),
    let snapped := fun (e d : Dev) =>
      let x := e.mon m
      d.reg (R.MON_SNAP_CNT m) = w32 x.cnt ∧ d.getLH (R.MON_SNAP_SUM_LO m) (R.MON_SNAP_SUM_HI m) = bitsOf x.sum 64 ∧
        (∀ v, x.min = some v → d.reg (R.MON_SNAP_MIN m) = w32 (bitsOf v 32)) ∧ (∀ v, x.max = some v → d.reg (R.MON_SNAP_MAX m) = w32 (bitsOf v 32)) ∧
        (∀ b : Fin 32, d.reg (R.MON_SNAP_BIN m b) = w32 (smGetD x.bins b 0)) ∧
        d.getLH (R.MON_SNAP_TS_LO m) (R.MON_SNAP_TS_HI m) = s.clock t % 2 ^ 64 ∧ d.flag (F.MON_STAT_SNAPV m) = true
    let empty := fun (d : Dev) =>
      let x := d.mon m
      x.cnt = 0 ∧ x.sum = 0 ∧ x.bins = [] ∧ x.min = none ∧ x.max = none ∧ d.get (F.MON_BEYOND_BEYOND m) = 0 ∧ d.flag (F.MON_STAT_FULL m) = false
    (∀ (now : Nat) (v : Int),
      let hb := monWord (s.dev.get (F.MON_CFG_PROBE m)) (s.dev.reg (R.MON_HBASE m))
      let w : Int := 2 ^ s.dev.get (F.MON_CFG_SHIFT m)
      ∃ b : Nat, b < 32 ∧ (v < hb → b = 0) ∧ (hb + 32 * w ≤ v → b = 31) ∧ (hb ≤ v → v < hb + 32 * w → hb + b * w ≤ v ∧ v < hb + (b + 1) * w) ∧
        ∀ j, smGetD ((s.dev.monStore now m (s.dev.get (F.MON_CFG_PROBE m)) v).mon m).bins j 0 =
          if j = b then min (smGetD (s.dev.mon m).bins j 0 + 1) 0xFFFFFFFF else smGetD (s.dev.mon m).bins j 0) ∧
    (Granted s who (R.MON_CTL m) →
      Writes (.monSnap t who m) s who (fun e d => snapped e d ∧ d.mons = e.mons) ∧
      Writes (.monSnapclr t who m) s who (fun e d => snapped e d ∧ empty d) ∧
      Writes (.monClr t who m) s who (fun _ d => empty d)) ∧
    (Granted s who (R.MON_CFG m) → Writes (.monCfgWrite t who m w) s who (fun e d =>
      if e.flag (F.MON_CFG_EN m) then
        d.flag (F.MON_CFG_EN m) = w.getLsbD 31 ∧ wordGet (d.reg (R.MON_CFG m)) 20 0 = wordGet (e.reg (R.MON_CFG m)) 20 0 ∧ d.mons = e.mons
      else d.flag (F.MON_CFG_EN m) = w.getLsbD 31 ∧ wordGet (d.reg (R.MON_CFG m)) 20 0 = wordGet w 20 0 ∧ (w.getLsbD 31 = true → empty d))))

/-- R466 to R471, R474, R481: the mode commands. With the key and no operation pending CONFIG goes from READY or SERVICE to CONFIG and SERVICE from
READY to SERVICE, both with every domain stopped, SERVICE only where allowed; READY enters the running mode from CONFIG with the lead domain enabled, from SERVICE, or
after a shutdown that keeps power; SHUTDOWN begins the drain; SAFE enters SAFE with cause SW. Any other is refused: LASTCMD, REFUSE with the first reason, REFUSED,
PIRQ 1, and the mode stays.
R475, R476: leaving SAFE takes two keys from one initiator. The first names its owner; the second leaves SAFE, to the running mode or to BOOT where
boot never completed, when the causes are clear, the time base and the analog supplies are good and every domain has stopped; otherwise, and on any other word, the sequence ends
with the code of the refusal, PIRQ 7 and a report. -/
def Obligations.ModeCommandsAreTakenAndSafeIsLeft : Prop :=
  (∀ (t : Nat) (who : Initiator) (key : BitVec 8) (v : Fin 2) (s : State),
    let now := s.clock t
    let m := s.dev.mode
    let keyed := key = 0x4D ∧ s.dev.flag F.SYS_MODESTAT_PEND = false
    let still := s.dev.stopped 0 = true ∧ s.dev.stopped 1 = true
    let taken := fun (cmd : Nat) (d : Dev) => (d.set F.SYS_MODESTAT_LASTCMD cmd).set F.SYS_MODESTAT_REFUSE 0
    Granted s who R.SYS_MODECMD →
      (keyed → m = 5 ∨ m = 9 → still →
        exec (.modeCmdConfig t who key) s = .next (s.wrote t who (fun d => (taken 4 d).enterMode now 4))) ∧
      (keyed → (m = 4 ∧ s.dev.enabled (P.ANG (s.dev.get F.SYS_MODE_LEAD)) = true) ∨ m = 9 ∨
          (m = 10 ∧ s.dev.flag F.SYS_SHUT_DONE = true ∧ s.dev.flag F.SYS_SHUT_PWROFF = false) →
        exec (.modeCmdReady t who key) s = .next (s.wrote t who (fun d => (taken 5 d).enterMode now (taken 5 d).runningMode))) ∧
      (keyed → m = 5 → s.dev.flag F.SYS_SVC_ALLOW = true → still →
        exec (.modeCmdService t who key) s = .next (s.wrote t who (fun d => (taken 9 d).enterMode now 9))) ∧
      (keyed → 4 ≤ m → m ≤ 9 → exec (.modeCmdShutdown t who key) s = .next (s.wrote t who (fun d =>
        let e := (taken 10 d).put F.SYS_SHUT_DONE false
        ({ e with sys := { e.sys with shut := 1, shutBy := now + clampN (e.get F.SYS_SHUT_SHUT_T) 1 10000 * 12800000 } } : Dev).sysPend.enterMode now 10))) ∧
      (keyed → 3 ≤ m → m ≤ 10 → exec (.modeCmdSafe t who key) s = .next (s.wrote t who (fun d => (taken 11 d).safeEnter now F.SYS_SAFE_SW))) ∧
      (∀ c cmd, (c, cmd) ∈ ([((.modeCmdConfig t who key), 4), ((.modeCmdReady t who key), 5), ((.modeCmdService t who key), 9),
          ((.modeCmdShutdown t who key), 10), ((.modeCmdSafe t who key), 11)] : List (Instr × Nat)) →
        let code := s.dev.modeCheck key.toNat cmd
        (key ≠ 0x4D → code = 6) ∧ (key = 0x4D → s.dev.flag F.SYS_MODESTAT_PEND = true → code = 5) ∧
        (code ≠ 0 → Writes c s who (fun e d =>
          d.mode = e.mode ∧ d.get F.SYS_MODESTAT_LASTCMD = cmd ∧ d.get F.SYS_MODESTAT_REFUSE = code ∧ (d.reg (R.PIRQ P.SYS)).getLsbD 1 = true))) ∧
      (Granted s who R.SYS_MODE → exec (.leadWrite t who v) s = .next (s.wrote t who (fun d =>
        let e := d.set F.SYS_MODE_LEAD v
        (if 5 ≤ e.mode ∧ e.mode ≤ 8 ∧ e.runningMode ≠ e.mode then e.enterMode now e.runningMode else e).bumpGen P.SYS)))) ∧
  (∀ (t : Nat) (who : Initiator) (w : Word) (s : State), Granted s who R.SYS_SAFEACK →
    let d0 := s.dev
    let first := d0.flag F.SYS_SAFEACK_FIRST
    let second := w = 0x0FA5 ∧ first = true ∧ d0.get F.SYS_SAFEACK_OWNER = who.code
    let good := d0.flag F.TB_STAT_REF_OK = true ∧ d0.flag F.TB_STAT_CAL_LOCK = true ∧ d0.supply.vddaLow = false ∧ d0.supply.vbLow = false
    let still := d0.stopped 0 = true ∧ d0.stopped 1 = true
    let ended := fun (res : Nat) (d : Dev) => ((d.put F.SYS_SAFEACK_FIRST false).set F.SYS_SAFEACK_OWNER 7).set F.SYS_SAFEACK_RES res
    let refused := fun (res : Nat) => exec (.safeackWrite t who w) s = .next (s.wrote t who (fun d => ((ended res d).irq P.SYS 7).rep P.SYS 0x01 0 res))
    (w = 0x5AF0 → first = false → Writes (.safeackWrite t who w) s who (fun e d =>
      d.flag F.SYS_SAFEACK_FIRST = true ∧ d.get F.SYS_SAFEACK_OWNER = who.code ∧ OnlyRegs e d [R.SYS_SAFEACK])) ∧
    (second → d0.mode ≠ 11 → refused 5) ∧
    (second → d0.mode = 11 → d0.causesClear (s.clock t) = false → refused 1) ∧
    (second → d0.mode = 11 → d0.causesClear (s.clock t) = true → ¬ good → refused 3) ∧
    (second → d0.mode = 11 → d0.causesClear (s.clock t) = true → good → ¬ still → refused 2) ∧
    (¬ second → ¬ (w = 0x5AF0 ∧ first = false) → refused 4) ∧
    (second → d0.mode = 11 → d0.causesClear (s.clock t) = true → good → still →
      exec (.safeackWrite t who w) s = .next (s.wrote t who (fun d =>
        let e := ((d.put F.SYS_SAFE_BROWNOUT false).put F.SYS_SAFE_FCOL false).put F.SYS_SAFE_SW false
        ((ended 0 (e.enterMode (s.clock t) (if d.flag F.SYS_MODE_BOOTED then d.runningMode else 3))).irq P.SYS 3).errPin))))

/-- R479 to R481: the drain of a shutdown ends with every domain dropped and the outputs inhibited; when its work is done DONE and PIRQ 6 are set, and
with PWROFF the hold of WAKEn ends. A failing boot step leaves the device in BOOT with its code; REBOOT clears the code and boots again; boot completes by
taking a slot of each kind, loading and starting the applications, applying the configuration set, and entering READY or CONFIG. -/
def Obligations.BootCompletesAndShutdownEnds : Prop :=
  ∀ (t us : Nat) (who : Initiator) (code ok : BitVec 8) (s : State),
    let d0 := s.dev
    let v := fun (k : Nat) (b : Bool) => ok.getLsbD (2 * k + b.toNat)
    (d0.sys.shut = 1 → d0.outputsIdle = true ∨ d0.sys.shutBy ≤ s.clock t → Does (.shutdownDrainEnd t) s (fun now d =>
      let e := (d.syncDrop now 0 11 none).syncDrop now 1 11 none
      ({ e with sys := { e.sys with shut := 2 } } : Dev).inhibitOutputs now)) ∧
    (d0.sys.shut = 2 → d0.flushed = true → Completes (.shutdownDone t) s (fun d =>
      d.sys.shut = 0 ∧ d.flag F.SYS_SHUT_DONE = true ∧ (d.reg (R.PIRQ P.SYS)).getLsbD 6 = true ∧
        (d0.flag F.SYS_SHUT_PWROFF = true → d.flag F.OPWR_WAKE_SYSHOLD = false))) ∧
    (d0.sys.shut ≠ 2 ∨ d0.flushed = false → Does (.shutdownDone t) s (fun _ d => d)) ∧
    (d0.mode = 3 → d0.sys.booting = true → Completes (.bootFail t code) s (fun d =>
      d.mode = 3 ∧ d.sys.booting = false ∧ d.get F.SYS_BOOTSTAT_CODE = code.toNat)) ∧
    (Granted s who R.SYS_CTL →
      (d0.mode = 3 → Writes (.reboot t who) s who (fun _ d => d.mode = 3 ∧ d.sys.booting = true ∧ d.get F.SYS_BOOTSTAT_CODE = 0)) ∧
      (d0.mode ≠ 3 → exec (.reboot t who) s = .next (s.wrote t who id))) ∧
    (d0.mode ≠ 3 ∨ d0.sys.booting = false ∨ d0.flag F.TB_STAT_CAL_LOCK = false → Does (.bootComplete t ok us) s (fun _ d => d)) ∧
    (d0.mode = 3 → d0.sys.booting = true → d0.flag F.TB_STAT_CAL_LOCK = true → d0.lifecycle ≠ 4 →
      ∀ d1 s0, d0.bootKind 0 (v 0) = some (d1, s0) → ∀ d2 s1, d1.bootKind 1 (v 1) = some (d2, s1) → ∀ d3 s2, d2.bootKind 2 (v 2) = some (d3, s2) →
      ∀ d4 s3, d3.bootKind 3 (v 3) = some (d4, s3) → Does (.bootComplete t ok us) s (fun now _ =>
        let load := fun (d : Dev) k (o : Option Bool) => match o with | some b => d.loadApp k b | none => d
        let run := fun (d : Dev) k (o : Option Bool) => match o with | some b => d.startApp now k b | none => d
        let d5 := load (load d4 1 s1) 2 s2
        let auto := match s3 with | some b => (d5.word (hdrAt 3 b 4)).getLsbD 0 | none => false
        let d6 := match s3 with | some b => d5.cfgApply now b | none => d5
        ((run (run d6 1 s1) 2 s2).put F.SYS_SVC_ALLOW (decide (d6.lifecycle ≤ 2))).bootComplete now auto us))

/-- R484, R485, R488 to R494: the SEC commands. A command is ignored while another is pending and while the supervisor restarts; else it ends in its step with its owner, number and status, the
first check that fails deciding: 7 a bad buffer, 6 its format, 5 an activation in progress, 1 the lifecycle, 4 the mode, 3 no challenge, 2 the
signature. A refused one leaves lifecycle and memory; one that passes has its effect on the lifecycle, the keys and SVC_ALLOW. -/
def Obligations.SecurityCommandsAreCheckedAndDone : Prop :=
  ∀ (t : Nat) (who : Initiator) (fmt sig : Bool) (s : State), Granted s who R.SEC_CMD →
    let buf := (s.dev.reg R.SEC_ARG).toNat
    let inRam := buf % 32 = 0 ∧ 0x20000000 ≤ buf ∧ buf + 1024 ≤ 0x20100000
    let idle := s.dev.flag F.SEC_STAT_PEND = false ∧ s.dev.supDown = false
    (∀ c cmd, (c, cmd) ∈ ([((.challenge t who fmt sig), 1), ((.quote t who fmt sig), 2), ((.enroll t who fmt sig), 3), ((.endorse t who fmt sig), 4),
        ((.lock t who fmt sig), 5), ((.unlock t who fmt sig), 6), ((.decommission t who fmt sig), 7)] : List (Instr × Nat)) →
      let st := s.dev.secStatus cmd fmt sig
      (¬ inRam → st = 7) ∧ (inRam → fmt = false → st = 6) ∧
      (inRam → fmt = true → s.dev.sec.rngBad = false → s.dev.flag F.UPD_ASTAT_PEND = true → st = 5) ∧
      (inRam → fmt = true → s.dev.sec.rngBad = false → s.dev.flag F.UPD_ASTAT_PEND = false → s.dev.lifecycle = 4 → st = 1) ∧
      (s.dev.flag F.SEC_STAT_PEND = true ∨ s.dev.supDown = true → exec c s = .next (s.wrote t who id)) ∧
      (idle → Writes c s who (fun e d =>
        d.get F.SEC_STAT_STATUS = st ∧ d.get F.SEC_STAT_OWNER = who.code ∧ d.get F.SEC_STAT_LASTCMD = cmd ∧ (d.reg (R.PIRQ P.SEC)).getLsbD 0 = true ∧
          (st ≠ 0 → (d.reg (R.PIRQ P.SEC)).getLsbD 1 = true ∧ d.lifecycle = e.lifecycle ∧ d.mem = e.mem)))) ∧
    (idle → s.dev.secStatus 1 fmt sig = 0 → Writes (.challenge t who fmt sig) s who (fun e d => d.sec.chal = true ∧ d.lifecycle = e.lifecycle ∧ d.mem = e.mem)) ∧
    (idle → s.dev.secStatus 2 fmt sig = 0 → Writes (.quote t who fmt sig) s who (fun e d =>
      d.lifecycle = e.lifecycle ∧ d.sec.chal = e.sec.chal ∧ d.bytes (buf + 0x218) 32 = e.bytes buf 32)) ∧
    (idle → s.dev.secStatus 3 fmt sig = 0 → Writes (.enroll t who fmt sig) s who (fun e d =>
      d.lifecycle = 2 ∧ d.flag F.SEC_LC_OWNER_KEY = true ∧ d.bytes 0x60001800 64 = e.bytes buf 64 ∧ (e.lifecycle = 2 → d.flag F.SEC_LC_ENDORSED = false))) ∧
    (idle → s.dev.secStatus 4 fmt sig = 0 → Writes (.endorse t who fmt sig) s who (fun e d =>
      d.lifecycle = e.lifecycle ∧ d.flag F.SEC_LC_ENDORSED = true ∧ d.bytes 0x60001840 64 = e.bytes buf 64)) ∧
    (idle → s.dev.secStatus 5 fmt sig = 0 → Writes (.lock t who fmt sig) s who (fun e d =>
      d.lifecycle = 3 ∧ d.flag F.SYS_SVC_ALLOW = false ∧ d.sec.chal = false ∧ d.mem = e.mem)) ∧
    (idle → s.dev.secStatus 6 fmt sig = 0 → Writes (.unlock t who fmt sig) s who (fun e d =>
      d.lifecycle = 2 ∧ d.flag F.SYS_SVC_ALLOW = true ∧ d.sec.chal = false ∧ d.mem = e.mem)) ∧
    (idle → s.dev.secStatus 7 fmt sig = 0 → Writes (.decommission t who fmt sig) s who (fun _ d =>
      d.lifecycle = 4 ∧ d.flag F.SEC_LC_OWNER_KEY = false ∧ d.flag F.SEC_LC_ENDORSED = false ∧ d.flag F.SYS_SVC_ALLOW = false ∧
        d.sec.chal = false ∧ d.get F.SYS_BOOTSTAT_CODE = 5 ∧ d.bytes 0x60001800 128 = List.replicate 128 0))

/-- R500: staging. An operation is refused while the device is LOCKED or DECOMMISSIONED (1), while an activation or a trial of its kind stands (2), or out of
sequence (3). BEGIN empties the inactive slot and opens the staging; WRITE copies the words from shared SRAM into the slot where they lie inside both (else 4); FINISH closes it and marks a
slot that verifies STAGED; ABORT closes it. While the supervisor restarts each is discarded. -/
def Obligations.ImagesAreStaged : Prop :=
  ∀ (t : Nat) (who : Initiator) (k rep : Fin 4) (sig fail : Bool) (s : State), Granted s who R.UPD_STAGE →
    let d0 := s.dev
    let ofs := (d0.reg R.UPD_OFS).toNat
    let src := (d0.reg R.UPD_SRC).toNat
    let len := d0.get F.UPD_LEN_LEN
    let inside := ofs + len ≤ slotSize k ∧ 0x20000000 ≤ src ∧ src + len ≤ 0x20100000 ∧ 4 ≤ len ∧ len ≤ 65536 ∧ len % 4 = 0 ∧ ofs % 4 = 0 ∧ src % 4 = 0
    let up := d0.supDown = false
    let free := up ∧ d0.lifecycle < 3 ∧ d0.flag F.UPD_ASTAT_PEND = false ∧ (d0.get F.UPD_SLOT_TRIAL).testBit k = false
    let ended := fun (st : Nat) (d : Dev) => (d.set F.UPD_SSTAT_STATUS st).set F.UPD_SSTAT_KIND k
    let done := fun (d : Dev) => (ended 0 d).irq P.UPD 0
    let fails := fun (st : Nat) (d : Dev) => ((ended st d).irq P.UPD 1).rep P.UPD 0x69 0 st k
    (∀ c first, (c, first) ∈ ([((.stageBegin t who k), true), ((.stageWrite t who k rep fail), false), ((.stageFinish t who k sig fail), false),
        ((.stageAbort t who k), false)] : List (Instr × Bool)) →
      (¬ up → exec c s = .next (s.wrote t who id)) ∧
      (up → 3 ≤ d0.lifecycle → exec c s = .next (s.wrote t who (fails 1))) ∧
      (up → d0.lifecycle < 3 → ¬ free → exec c s = .next (s.wrote t who (fails 2))) ∧
      (free → d0.stageOpen k = first → exec c s = .next (s.wrote t who (fails 3)))) ∧
    (free → d0.stageOpen k = false → exec (.stageBegin t who k) s = .next (s.wrote t who (fun d =>
      done (((d.setSlotSt k (!d.activeB k) 2).setBit F.UPD_SLOT_STAGED k false).setBit F.UPD_SSTAT_OPEN k true)))) ∧
    (free → d0.stageOpen k = true →
      (¬ inside → exec (.stageWrite t who k rep fail) s = .next (s.wrote t who (fails 4))) ∧
      (inside → exec (.stageWrite t who k rep fail) s = .next (s.wrote t who (fun d =>
        let base := slotBase k (!d.activeB k)
        (if fail then fails 8 else done) ((d.setBytes (base + ofs) (d.bytes src len)).mramWr rep fail ((base + ofs) % 0x10000000))))) ∧
      (d0.imageCheck k (!d0.activeB k) sig = 0 → fail = false → exec (.stageFinish t who k sig fail) s = .next (s.wrote t who (fun d =>
        done (((d.setBit F.UPD_SSTAT_OPEN k false).setSlotSt k (!d.activeB k) 1).setBit F.UPD_SLOT_STAGED k true)))) ∧
      (d0.imageCheck k (!d0.activeB k) sig = 0 → fail = true → exec (.stageFinish t who k sig fail) s = .next (s.wrote t who (fun d =>
        fails 8 (d.setBit F.UPD_SSTAT_OPEN k false)))) ∧
      (∀ st, d0.imageCheck k (!d0.activeB k) sig = st → st ≠ 0 → exec (.stageFinish t who k sig fail) s = .next (s.wrote t who (fun d =>
        fails st (d.setBit F.UPD_SSTAT_OPEN k false)))) ∧
      exec (.stageAbort t who k) s = .next (s.wrote t who (fun d => done (d.setBit F.UPD_SSTAT_OPEN k false))))

/-- R501 to R503, R506, R507: activation. A request for no kind does nothing; one with a reason against it counts REFUSED, sets PIRQ 3 and reports; one accepted sets PEND and waits for
its work, which verifies the slots, loads the applications, applies the configuration, switches the slots and sets DONE, or on a failed verification keeps the old ones
with REASON 8. CONFIRM ends the trial of its kinds and raises their rollback counters; REVERT asks for the previous slot. While the supervisor
restarts each is discarded. -/
def Obligations.ActivationsAreDecidedAndDone : Prop :=
  ∀ (t : Nat) (who : Initiator) (mask sig : BitVec 4) (sup : Bool) (s : State),
    let now := s.clock t
    let m := s.dev.get F.UPD_ASTAT_MASK
    let up := s.dev.supDown = false
    let apps := [1, 2].filter (fun k => m.testBit k)
    let kinds := [1, 2, 3].filter (fun k => m.testBit k)
    let refused := fun (r : Nat) (e d : Dev) =>
      d.get F.UPD_ASTAT_MASK = mask.toNat ∧ d.get F.UPD_ASTAT_REASON = r ∧ (d.reg (R.PIRQ P.UPD)).getLsbD 3 = true ∧ d.mem = e.mem ∧ d.sys = e.sys
    let begun := fun (rev : Bool) (d : Dev) =>
      d.get F.UPD_ASTAT_MASK = mask.toNat ∧ d.get F.UPD_ASTAT_REASON = 0 ∧ d.flag F.UPD_ASTAT_PEND = true ∧ d.flag F.UPD_ASTAT_DONE = false ∧
        d.sys.act = true ∧ d.upd.rev = rev ∧ d.flag F.SYS_MODESTAT_PEND = true
    (Granted s who R.UPD_ACT →
      (mask = 0 → exec (.activate t who mask) s = .next (s.wrote t who id)) ∧
      (¬ up → exec (.activate t who mask) s = .next (s.wrote t who id)) ∧
      (∀ r, mask ≠ 0 ∧ up → s.dev.actCheck now mask.toNat false = r →
        (r ≠ 0 → Writes (.activate t who mask) s who (refused r)) ∧ (r = 0 → Writes (.activate t who mask) s who (fun _ d => begun false d)))) ∧
    (Granted s who R.UPD_CTL →
      (¬ up → exec (.confirm t who mask) s = .next (s.wrote t who id) ∧ exec (.revert t who mask) s = .next (s.wrote t who id)) ∧
      (up → Writes (.confirm t who mask) s who (fun e d => ∀ k : Fin 4,
        (d.get F.UPD_SLOT_TRIAL).testBit k = ((e.get F.UPD_SLOT_TRIAL).testBit k && !mask.getLsbD k) ∧
          (d.reg (R.UPD_RBC k)).toNat = if mask.getLsbD k = true ∧ (e.get F.UPD_SLOT_TRIAL).testBit k = true then
            max (e.reg (R.UPD_RBC k)).toNat (e.word (slotBase k (e.activeB k) + 8)).toNat else (e.reg (R.UPD_RBC k)).toNat)) ∧
      (mask = 0 → exec (.revert t who mask) s = .next (s.wrote t who id)) ∧
      (∀ r, mask ≠ 0 ∧ up → s.dev.actCheck now mask.toNat true = r →
        (r ≠ 0 → Writes (.revert t who mask) s who (refused r)) ∧
        (r = 0 → Writes (.revert t who mask) s who (fun _ d => begun true d ∧ (d.reg (R.PIRQ P.UPD)).getLsbD 5 = true)))) ∧
    (s.dev.flag F.UPD_ASTAT_PEND = false → Does (.activationDone t sig sup) s (fun _ d => d)) ∧
    (s.dev.flag F.UPD_ASTAT_PEND = true →
      let d1 := apps.foldl (fun (d : Dev) k => d.enableWrite now (P.CORE k) false) s.dev
      let bad := kinds.find? (fun k => d1.imageCheck k (!d1.activeB k) (sig.getLsbD k) != 0)
      (∀ k, bad = some k → Does (.activationDone t sig sup) s (fun _ _ =>
        let d2 := apps.foldl (fun (d : Dev) a =>
          if d.slotSt a (d.activeB a) = 1 then (d.loadApp a (d.activeB a)).startApp now a (d.activeB a) else d) d1
        ((d2.setBit F.UPD_SLOT_STAGED k false).set F.UPD_ASTAT_REASON 8).actEnds now)) ∧
      (bad = none → Does (.activationDone t sig sup) s (fun _ _ =>
        let d2 := apps.foldl (fun (d : Dev) k => d.loadApp k (!d.activeB k)) d1
        let d3 := if m.testBit 3 then ((d2.cfgHalts now (!d2.activeB 3)).set F.UPD_CFGSTAT_REJECT 0).cfgApply now (!d2.activeB 3) else d2
        let d4 := kinds.foldl (fun (d : Dev) k => d.switchSlot k) d3
        let d5 := apps.foldl (fun (d : Dev) k => d.startApp now k (d.activeB k)) d4
        let d6 := ((if m.testBit 0 then d5.switchSlot 0 else d5).put F.UPD_ASTAT_DONE true).irq P.UPD 2
        (if m.testBit 0 then d6.supSwitch now sup else d6).actEnds now)))

/-- R508 to R513, R516: the MRAM controller's own writes. A direct write of an aligned word of the data region, and an append of a record in shared SRAM, wait
for their work; another address ends with STATUS 1, one while the last is pending with STATUS 2. Done, the word or the record stands in MRAM, STATUS is 0, and the log head
has moved; a write that fails ends with STATUS 3. The random generator's failed health test is kept and reported with 0x68. -/
def Obligations.MramWritesWaitAndComplete : Prop :=
  ∀ (t : Nat) (who : Initiator) (w : Word) (rep : Fin 4) (s : State),
    let a := s.dev.get F.MRAMC_WADDR_ADDR
    let log := w.toNat % 32 = 0 ∧ 0x20000000 ≤ w.toNat ∧ w.toNat + 32 ≤ 0x20100000
    let h := (s.dev.reg R.MRAMC_LHEAD).toNat
    (Granted s who R.MRAMC_WDHI → Writes (.mramDirectWrite t who w) s who (fun e d =>
      if e.flag F.MRAMC_WSTAT_PEND then d.get F.MRAMC_WSTAT_STATUS = 2 ∧ d.mramc.wr = e.mramc.wr
      else if a < 0x600000 ∨ 0x7FFFF8 < a ∨ a % 8 ≠ 0 then d.get F.MRAMC_WSTAT_STATUS = 1 ∧ d.mramc.wr = e.mramc.wr
      else d.flag F.MRAMC_WSTAT_PEND = true ∧ d.mramc.wr = some (a, e.reg R.MRAMC_WDLO, w))) ∧
    (Granted s who R.MRAMC_LAPP → Writes (.logAppend t who w) s who (fun e d =>
      if e.flag F.MRAMC_LSTAT_PEND then d.get F.MRAMC_LSTAT_STATUS = 2 ∧ d.mramc.app = e.mramc.app
      else if log then d.flag F.MRAMC_LSTAT_PEND = true ∧ d.mramc.app = some (e.words w.toNat 8)
      else d.get F.MRAMC_LSTAT_STATUS = 1 ∧ d.mramc.app = e.mramc.app)) ∧
    (s.dev.mramc.wr = none → ∀ fail, Does (.mramWriteDone t rep fail) s (fun _ d => d)) ∧
    (∀ b lo hi, s.dev.mramc.wr = some (b, lo, hi) →
      (0x600000 ≤ b → Completes (.mramWriteDone t rep false) s (fun d =>
        d.word (0x60000000 + b) = lo ∧ d.word (0x60000000 + b + 4) = hi ∧ d.mramc.wr = none ∧ d.flag F.MRAMC_WSTAT_PEND = false ∧
          d.get F.MRAMC_WSTAT_STATUS = 0 ∧ d.get F.MRAMC_WSTAT_REP = rep ∧ (d.reg (R.PIRQ P.MRAMC)).getLsbD 0 = true)) ∧
      Completes (.mramWriteDone t rep true) s (fun d =>
        d.mramc.wr = none ∧ d.flag F.MRAMC_WSTAT_PEND = false ∧ d.get F.MRAMC_WSTAT_STATUS = 3 ∧ (d.reg (R.PIRQ P.MRAMC)).getLsbD 3 = true)) ∧
    (s.dev.mramc.app = none → ∀ fail, Does (.logAppendDone t rep fail) s (fun _ d => d)) ∧
    (∀ ws, s.dev.mramc.app = some ws →
      (ws.length = 8 → Completes (.logAppendDone t rep false) s (fun d =>
        d.words (0x60800000 + h % 262144 * 32) 8 = ws ∧ d.reg R.MRAMC_LHEAD = w32 (h + 1) ∧ d.mramc.app = none ∧
          d.flag F.MRAMC_LSTAT_PEND = false ∧ d.get F.MRAMC_LSTAT_STATUS = 0 ∧ (d.reg (R.PIRQ P.MRAMC)).getLsbD 1 = true)) ∧
      Completes (.logAppendDone t rep true) s (fun d =>
        d.mramc.app = none ∧ d.flag F.MRAMC_LSTAT_PEND = false ∧ d.get F.MRAMC_LSTAT_STATUS = 3 ∧ (d.reg (R.PIRQ P.MRAMC)).getLsbD 3 = true)) ∧
    Completes (.randomGeneratorHealthTest t true) s (fun d => d = { s.dev with sec := { s.dev.sec with rngBad := false } }) ∧
    Does (.randomGeneratorHealthTest t false) s (fun _ d => ({ d with sec := { d.sec with rngBad := true } } : Dev).rep P.SEC 0x68 1)

/-- R520 to R525: writes of an Oasis page wait for their transfer, which ends the wait, clears the written W1C bits, or sets the calendar by RTC_SET: SEC, SUB and the
accumulator at 0, VALID. Each second adds one to SEC with SUB at 0, the trim in its accumulator, PIRQ 0 and, with the core supply good, the timebase pair. A crystal that
stops is flagged once, with PIRQ 2, until it runs again. -/
def Obligations.TheCalendarIsSetAndCounts : Prop :=
  ∀ (t a : Nat) (who : Initiator) (w : Word) (s : State),
    let d0 := s.dev
    (smGet d0.oasis.buf a = none → smGet d0.shadow a = none → Completes (.oasisWriteTransfer t a) s (fun d => d.regs = d0.regs ∧ d.oasis = d0.oasis)) ∧
    Completes (.oasisWriteTransfer t a) s (fun d => smGet d.shadow a = none ∧ smGet d.oasis.buf a = none ∧ ∀ b, b ≠ a → smGet d.shadow b = smGet d0.shadow b) ∧
    (∀ v, smGet d0.oasis.buf a = some v → a ≠ R.RTC_SET → Completes (.oasisWriteTransfer t a) s (fun d => d.reg a = d0.reg a &&& ~~~v)) ∧
    (∀ v, smGet d0.oasis.buf R.RTC_SET = some v → Completes (.oasisWriteTransfer t R.RTC_SET) s (fun d =>
      d.reg R.RTC_SEC = v ∧ d.reg R.RTC_SUB = 0 ∧ d.oasis.acc = 0 ∧ d.oasis.corr = 1 ∧ d.flag F.RTC_STAT_VALID = true)) ∧
    (Granted s who R.RTC_SET → Writes (.rtcSet t who w) s who (fun e d =>
      smGet d.oasis.buf R.RTC_SET = some w ∧ d.reg R.RTC_SEC = e.reg R.RTC_SEC)) ∧
    Completes (.rtcSecond t) s (fun d =>
      let r := trimStep d0.oasis.acc (signedOf (d0.eff F.RTC_TRIM_TRIM) 12)
      d.reg R.RTC_SEC = d0.reg R.RTC_SEC + 1 ∧ d.reg R.RTC_SUB = 0 ∧ d.oasis.acc = r.1 ∧ d.oasis.corr = r.2 ∧ (d.reg (R.PIRQ P.RTC)).getLsbD 0 = true ∧
        (d0.sys.good = true → d.getLH R.RTC_TB_LO R.RTC_TB_HI = s.clock t % 2 ^ 64 ∧ d.reg R.RTC_TB_SEC = d0.reg R.RTC_SEC + 1) ∧
        (d0.flag F.RTC_CTL_AEN = true → smGet d0.shadow R.RTC_CTL = none → d0.committed R.RTC_ALARM = d0.reg R.RTC_SEC + 1 →
          d.flag F.RTC_STAT_ALARM = true ∧ (d.reg (R.PIRQ P.RTC)).getLsbD 1 = true)) ∧
    (d0.flag F.RTC_STAT_XTAL_FAIL = true → Does (.rtcXtal t) s (fun _ d => d)) ∧
    (d0.flag F.RTC_STAT_XTAL_FAIL = false → Completes (.rtcXtal t) s (fun d =>
      d.flag F.RTC_STAT_XTAL_FAIL = true ∧ (d.reg (R.PIRQ P.RTC)).getLsbD 2 = true)) ∧
    Completes (.xtalRecover t) s (fun d => d.flag F.RTC_STAT_XTAL_FAIL = false ∧ OnlyRegs d0 d [R.RTC_STAT])

/-- R517 to R519, R528 to R532: the sentinel and its supply. A tick counts, samples the eight inputs in order and decides on rotation, unless the sentinel is off or halted; with no input
enabled, crossings that reached ROT_CNT start again from 0, recorded as input 8 and waking as configured. A negative-going crossing counts up to its maximum, and either sort turns the
comparator's output. Event bits are cleared at once through
WHL_SSC, with a transfer through SENT_EVT. VBAT shows the voltage; below LOW it is low, below 2.0 V critical, and the sentinel halts until 2.05 V. An Oasis start brings every kept field
to its value. -/
def Obligations.TheSentinelWatchesAndTheSupplyIsKept : Prop :=
  ∀ (t mv : Nat) (who : Initiator) (n : Fin 8) (lvl : BitVec 8) (neg : Bool) (vals : List Nat) (bits : Word) (vddio : Bool) (s : State),
    let d0 := s.dev
    let on := d0.enabled P.SENT = true ∧ d0.oasis.halted = false
    let tcnt := d0.get F.SENT_TCNT_TCNT
    let v := min mv 8191
    let low := d0.eff F.OPWR_CFG_LOW * 10
    (¬ on → Does (.sentinelTick t lvl vals) s (fun _ d => d)) ∧
    (on → Does (.sentinelTick t lvl vals) s (fun _ d =>
      ((List.range 8).foldl (fun (d : Dev) n => d.sentSample n (lvl.getLsbD n) (min (vals.getD n 0) 255))
        { d with oasis := { d.oasis with tick := d.oasis.tick + 1 } }).sentRotation)) ∧
    (on → (∀ k : Fin 8, d0.effB (F.SENT_IN_CFG_EN k) = false) → d0.effB F.SENT_SSC_EN = true → d0.effB F.SENT_CFG_ROT_GATE = false →
      d0.eff F.SENT_SSC_ROT_CNT ≤ tcnt → Completes (.sentinelTick t lvl vals) s (fun d =>
        d.get F.SENT_TCNT_TCNT = 0 ∧ d.oasis.prevT = 0 ∧ d.oasis.tick = d0.oasis.tick + 1 ∧
          (d0.effB F.SENT_SSC_REC = true → (d.get F.SENT_EVT_EVT).testBit 8 = true ∧ d.get F.SENT_LAST_SRC = 8 ∧ d.reg R.SENT_LASTSEC = d0.reg R.RTC_SEC) ∧
          (d0.effB F.SENT_SSC_WAKE = true → d.flag F.OPWR_WCAUSE_ROT = true ∧ d.flag F.OPWR_WAKE_PEND = true))) ∧
    (d0.effB F.SENT_SSC_EN = true → d0.oasis.halted = false → Completes (.standstillCrossing ⟨t, neg⟩) s (fun d =>
      d.get F.SENT_TCNT_TCNT = (if neg then min (tcnt + 1) 65535 else tcnt) ∧ d.oasis = { d0.oasis with sscLvl := !neg } ∧
        OnlyRegs d0 { d with oasis := d0.oasis } [R.SENT_TCNT])) ∧
    (d0.effB F.SENT_SSC_EN = false ∨ d0.oasis.halted = true → Does (.standstillCrossing ⟨t, neg⟩) s (fun _ d => d)) ∧
    (Granted s who (R.WHL_SSC n) → Writes (.sentEvtClear t who true n bits) s who (fun e d =>
      if n = 0 ∧ bits.getLsbD 2 = true then
        (d.get F.SENT_EVT_EVT).testBit 8 = false ∧ (∀ k, k < 8 → (d.get F.SENT_EVT_EVT).testBit k = (e.get F.SENT_EVT_EVT).testBit k)
      else d = e)) ∧
    (Granted s who R.SENT_EVT → bits &&& 0x1FF ≠ 0 → Writes (.sentEvtClear t who false n bits) s who (fun e d =>
      d.get F.SENT_EVT_EVT = e.get F.SENT_EVT_EVT ∧ smGet d.oasis.buf R.SENT_EVT = some (smGetD e.oasis.buf R.SENT_EVT 0 ||| (bits &&& 0x1FF)))) ∧
    Completes (.vbatMeasure t mv) s (fun d =>
      d.get F.OPWR_VBAT_VBAT = v ∧
        d.flag F.OPWR_STAT_VBAT_LOW = (if v < low then true else if low + 50 ≤ v then false else d0.flag F.OPWR_STAT_VBAT_LOW) ∧
        d.oasis.halted = (if v < 2000 then true else if 2050 ≤ v then false else d0.oasis.halted) ∧
        (v < 2000 → d0.oasis.halted = false → d.flag F.OPWR_STAT_VBAT_CRIT = true ∧ (d.reg (R.PIRQ P.OPWR)).getLsbD 1 = true)) ∧
    Completes (.oasisSupplyChangeover t vddio) s (fun d => d.flag F.OPWR_STAT_SRC = vddio ∧ OnlyRegs d0 d [R.OPWR_STAT]) ∧
    Completes (.oasisStart t) s (fun d =>
      d.oasis = {} ∧ d.mem = d0.mem ∧ ∀ a, d.reg a = if isOasis a && (decide (0x40 ≤ a % 0x1000) || a == R.PCTL P.SENT) then resetWord a else d0.reg a)

/-- R393, R394, R555 to R557: the JTAG port. Each instruction selects its data register; EXTEST, CLAMP and HIGHZ take control of the pins only in MANUFACTURE or in SERVICE, otherwise they leave them;
EXTEST and SAMPLE/PRELOAD load the boundary register, SAMPLE also captures it; IDCODE shifts out 0x148961E3, as after test-logic reset. DMI reads and writes the debug module, which
is closed in LOCKED and DECOMMISSIONED. -/
def Obligations.JtagInstructionsSelectTheirRegister : Prop :=
  ∀ (t : Nat) (v cap : BitVec 218) (a : Fin 128) (w : Word) (op : Fin 4) (s : State),
    let d0 := s.dev
    let ctl := fun (n : Nat) => if d0.lifecycle = 0 ∨ d0.mode = 9 then n else 0
    let loads := fun (c : Instr) (j : Jtag) => Completes c s (fun d => d = { d0 with jtag := j })
    let j := d0.jtag
    loads (.extest t v) { j with ir := 0, ctl := ctl 1, upd := v, out := 0 } ∧
    loads (.idcode t) { j with ir := 1, ctl := 0, out := 0x148961E3 } ∧
    loads (.samplePreload t cap v) { j with ir := 2, ctl := 0, cap := cap, upd := v, out := 0 } ∧
    loads (.clamp t) { j with ir := 3, ctl := ctl 2, out := 0 } ∧
    loads (.highz t) { j with ir := 4, ctl := ctl 3, out := 0 } ∧
    loads (.dtmcs t) { j with ir := 0x10, ctl := 0, out := 0x71 } ∧
    loads (.bypass t) { j with ir := 0x1F, ctl := 0, out := 0 } ∧
    loads (.testLogicReset t) { j with ir := 1, ctl := 0, out := 0x148961E3 } ∧
    (op = 0 ∨ op = 3 ∨ 3 ≤ d0.lifecycle → loads (.dmi t a w op) { j with ir := 0x11, ctl := 0, out := 0 }) ∧
    (d0.lifecycle < 3 → d0.dm.active = true →
      Completes (.dmi t 4 w 1) s (fun d => d.jtag.out = d0.dm.data0 ∧ d.dm = d0.dm) ∧
      Completes (.dmi t 4 w 2) s (fun d => d.dm = { d0.dm with data0 := w }) ∧
      Completes (.dmi t 0x11 w 1) s (fun d => d.jtag.out = d0.dmstatus ∧ d.dm = d0.dm) ∧
      Completes (.dmi t 0x3C w 1) s (fun d => d0.dm.sbreadondata = false → d.jtag.out = d0.dm.sbdata)) ∧
    (d0.lifecycle < 3 → w.getLsbD 0 = false → Completes (.dmi t 0x10 w 2) s (fun d => d.dm = {})) ∧
    (d0.lifecycle < 3 → w.getLsbD 0 = true → w.getLsbD 30 = false → w.getLsbD 31 = false → Completes (.dmi t 0x10 w 2) s (fun d =>
      d.dm = { d0.dm with active := true, hartsel := wordGet w 25 16 }))

/-- A step takes the command at the front of the queue and runs it on the state with the rest of the queue; with no command waiting the block idles (the
model's choice, notes/assumptions/1.md). -/
def Obligations.AStepRunsTheCommandInFront : Prop :=
  ∀ (c : Instr) (l : List Instr) (s : State),
    step { s with pending := c :: l } = exec c { s with pending := l } ∧ step { s with pending := [] } = .next { s with pending := [] }

/-- Every command there is ends in a next state, whatever its operands and whatever the state, and leaves the queue as it is: no fault, no refusal. -/
def Obligations.EveryCommandGoesOn : Prop :=
  ∀ (c : Instr) (s : State), ∃ s', exec c s = .next s' ∧ s'.pending = s.pending

/-- After reset no command waits, the count is 0, memory lists nothing and is in its canonical form, every register but `SEC_LC` reads its reset value (R9; where the spec gives none, the
model's: notes/assumptions/3.md), the lifecycle is PROVISIONED (the model's choice, notes/assumptions/4.md), the mode reads BOOT, no core runs, no fault waits, no slot is armed. -/
def Obligations.ResetLeavesTheStatedValues : Prop :=
  let d := State.reset.dev
  State.reset.pending = [] ∧ State.reset.now = 0 ∧ d.mem = [] ∧ Memory.wf d.mem = true ∧ State.reset.inv ∧
    (∀ a, a ≠ R.SEC_LC → d.reg a = resetWord a) ∧ d.lifecycle = 1 ∧ d.mode = 3 ∧ (∀ h : Fin 3, (d.hart h).running = false) ∧
    d.fcol.awaiting = [] ∧ d.shadow = [] ∧ d.latches = [] ∧ (∀ k : Fin 2, d.angState k = 0 ∧ d.enabled (P.ANG k) = false)

/-- R27: the count never goes back, and is never before the time of the command granted, but through a power-on (R23, R478) and at the calibrator's first lock. -/
def Obligations.OnlyPowerOnMovesTheCountBack : Prop :=
  ∀ (c : Instr) (s s' : State), (∀ t mv, c ≠ .vddcCollapse t mv) → (∀ t ns, c ≠ .pornLow t ns) → (∀ t span, c ≠ .calibratorFirstLock t span) →
    exec c s = .next s' → s.now ≤ s'.now ∧ c.time ≤ s'.now

/-- Where no domain begins or ceases to commit and no interrupt message waits, what a command leaves is the device its effect gave, at the time granted: what
`State.after` adds to the effect is the settling of those two alone. -/
def Obligations.SettlingChangesNothingElse : Prop :=
  ∀ (s : State) (t : Nat) (d : Dev), d.committing 0 = s.dev.committing 0 → d.committing 1 = s.dev.committing 1 → d.intc.send = [] →
    s.after t d = { s with now := s.clock t, dev := d }

/-- R345: decoding the word of a pin-engine instruction gives that instruction back, with every operand at every value its encoding admits; and a word and the word its instruction is
written as again decode alike: the bits shown as 0 are ignored. -/
def Obligations.PinEngineWordsDecodeToTheirInstruction : Prop :=
  (∀ i : PioInstr, pioDecode (pioEncode i) = i) ∧
    ∀ w v : BitVec 16, pioDecode w = pioDecode v ↔ pioEncode (pioDecode w) = pioEncode (pioDecode v)

/-- What every step keeps: the timebase count does not pass the end of its 64 bits (R27), and every command that waits can be sent. -/
def Obligations.EveryStepKeepsTheCountAndTheQueue : Prop :=
  ∀ s s' : State, s.inv → step s = .next s' → s'.inv
end

