-- ==== Sys2Proof/Laws/Sparse.lean ====
section
/-!
SUPPORT. Laws/Sparse.lean: a sparse map reads what was written and nothing else, keeps its canonical form under every write, and a vector of
like units reads what was stored.
-/

namespace Sys2Proof.Machine

variable {α : Type}

theorem smGet_smIns (m : SMap α) (k j : Nat) (v : α) : smGet (smIns m k v) j = if j = k then some v else smGet m j := by
  induction m with
  | nil => simp [smIns, smGet]
  | cons e r ih =>
    obtain ⟨a, x⟩ := e
    simp only [smIns]
    split
    · simp only [smGet]
    · split
      · subst_vars; simp only [smGet]; split <;> simp_all
      · simp only [smGet, ih]; split <;> split <;> simp_all

theorem smGet_smDel (m : SMap α) (k j : Nat) : smGet (smDel m k) j = if j = k then none else smGet m j := by
  induction m with
  | nil => simp [smDel, smGet]
  | cons e r ih =>
    obtain ⟨a, x⟩ := e
    simp only [smDel]
    split
    · subst_vars; simp only [ih, smGet]; split <;> simp_all
    · simp only [smGet, ih]; split <;> split <;> simp_all

/-- What a key reads as after a write, where unlisted keys read as `f`. -/
theorem smGet_smPut [DecidableEq α] (m : SMap α) (k j : Nat) (v : α) (f : Nat → α) :
    (smGet (smPut m k v (f k)) j).getD (f j) = if j = k then v else (smGet m j).getD (f j) := by
  unfold smPut
  split <;> rename_i h
  · rw [smGet_smDel]; split <;> simp_all
  · rw [smGet_smIns]; split <;> simp_all

theorem smGetD_smPut [DecidableEq α] (m : SMap α) (k j : Nat) (v d : α) :
    smGetD (smPut m k v d) j d = if j = k then v else smGetD m j d := by
  simpa [smGetD] using smGet_smPut m k j v (fun _ => d)

/-- Every key of a list is at least `b`. -/
def smFrom (b : Nat) (m : SMap α) : Prop := ∀ e ∈ m, b ≤ e.1

theorem smSorted_cons (a : Nat) (x : α) (r : SMap α) : smSorted ((a, x) :: r) = true ↔ smFrom (a + 1) r ∧ smSorted r = true := by
  induction r generalizing a x with
  | nil => simp [smSorted, smFrom]
  | cons e r ih =>
    obtain ⟨b, y⟩ := e
    simp only [smSorted, Bool.and_eq_true, decide_eq_true_eq, smFrom, List.mem_cons, forall_eq_or_imp]
    constructor
    · rintro ⟨h, hs⟩
      refine ⟨⟨h, fun e he => ?_⟩, hs⟩
      have := ((ih b y).1 hs).1 e he
      omega
    · rintro ⟨⟨h, _⟩, hs⟩; exact ⟨h, hs⟩

theorem smFrom_smIns {b k : Nat} {v : α} (m : SMap α) (hk : b ≤ k) (h : smFrom b m) : smFrom b (smIns m k v) := by
  induction m with
  | nil => simpa [smIns, smFrom] using hk
  | cons e r ih =>
    obtain ⟨a, x⟩ := e
    have hr : smFrom b r := fun e he => h e (List.mem_cons_of_mem _ he)
    have ha : b ≤ a := h (a, x) (List.mem_cons_self ..)
    simp only [smIns]
    split
    · intro e he; rcases List.mem_cons.1 he with rfl | he
      · exact hk
      · exact h e he
    · split
      · intro e he; rcases List.mem_cons.1 he with rfl | he
        · exact hk
        · exact hr e he
      · intro e he; rcases List.mem_cons.1 he with rfl | he
        · exact ha
        · exact ih hr e he

theorem smFrom_smDel {b k : Nat} (m : SMap α) (h : smFrom b m) : smFrom b (smDel m k) := by
  induction m with
  | nil => simp [smDel, smFrom]
  | cons e r ih =>
    obtain ⟨a, x⟩ := e
    have hr : smFrom b r := fun e he => h e (List.mem_cons_of_mem _ he)
    simp only [smDel]
    split
    · exact ih hr
    · intro e he; rcases List.mem_cons.1 he with rfl | he
      · exact h _ (List.mem_cons_self ..)
      · exact ih hr e he

theorem smSorted_smIns (k : Nat) (v : α) (m : SMap α) (h : smSorted m = true) : smSorted (smIns m k v) = true := by
  induction m with
  | nil => rfl
  | cons e r ih =>
    obtain ⟨a, x⟩ := e
    have hc := (smSorted_cons a x r).1 h
    simp only [smIns]
    split
    · rw [smSorted_cons]
      refine ⟨fun e he => ?_, h⟩
      rcases List.mem_cons.1 he with rfl | he
      · simpa using (by omega : k + 1 ≤ a)
      · have := hc.1 e he; omega
    · split
      · subst_vars; rw [smSorted_cons]; exact hc
      · rw [smSorted_cons]
        exact ⟨smFrom_smIns r (by omega) hc.1, ih hc.2⟩

theorem smSorted_smDel (k : Nat) (m : SMap α) (h : smSorted m = true) : smSorted (smDel m k) = true := by
  induction m with
  | nil => rfl
  | cons e r ih =>
    obtain ⟨a, x⟩ := e
    have hc := (smSorted_cons a x r).1 h
    simp only [smDel]
    split
    · exact ih hc.2
    · rw [smSorted_cons]; exact ⟨smFrom_smDel r hc.1, ih hc.2⟩

theorem mem_smIns {k : Nat} {v : α} {e : Nat × α} (m : SMap α) (h : e ∈ smIns m k v) : e = (k, v) ∨ e ∈ m := by
  induction m with
  | nil => simpa [smIns] using h
  | cons f r ih =>
    obtain ⟨a, x⟩ := f
    simp only [smIns] at h
    split at h
    · exact List.mem_cons.1 h
    · split at h
      · rcases List.mem_cons.1 h with h | h
        · exact .inl h
        · exact .inr (List.mem_cons_of_mem _ h)
      · rcases List.mem_cons.1 h with h | h
        · exact .inr (h ▸ List.mem_cons_self ..)
        · exact (ih h).imp id (List.mem_cons_of_mem _)

theorem mem_smDel {k : Nat} {e : Nat × α} (m : SMap α) (h : e ∈ smDel m k) : e ∈ m := by
  induction m with
  | nil => simp [smDel] at h
  | cons f r ih =>
    obtain ⟨a, x⟩ := f
    simp only [smDel] at h
    split at h
    · exact List.mem_cons_of_mem _ (ih h)
    · rcases List.mem_cons.1 h with h | h
      · exact h ▸ List.mem_cons_self ..
      · exact List.mem_cons_of_mem _ (ih h)

/-- Every write keeps the canonical form. -/
theorem smWf_smPut [DecidableEq α] (m : SMap α) (k : Nat) (v : α) (f : Nat → α) (h : smWf m f = true) :
    smWf (smPut m k v (f k)) f = true := by
  simp only [smWf, Bool.and_eq_true, List.all_eq_true, Bool.not_eq_true', decide_eq_false_iff_not] at h ⊢
  unfold smPut
  split
  · exact ⟨smSorted_smDel k m h.1, fun e he => h.2 e (mem_smDel m he)⟩
  · refine ⟨smSorted_smIns k v m h.1, fun e he => ?_⟩
    rcases mem_smIns m he with rfl | he
    · assumption
    · exact h.2 e he

/-! ## Vectors of like units -/

theorem vGet_vSet {β : Type} [Inhabited β] {n : Nat} (v : Vector β n) (i j : Nat) (x : β) (h : i < n) :
    vGet (vSet v i x) j = if j = i then x else vGet v j := by
  unfold vGet vSet
  by_cases hj : j = i
  · subst hj; simp [h]
  · rw [if_neg hj, Vector.getElem?_setIfInBounds_ne (Ne.symm hj)]

end Sys2Proof.Machine
end

