-- ==== Sys2Proof/Laws/Word.lean ====
section
/-!
SUPPORT. Laws/Word.lean: fields of a word: a field reads what was set in it, and setting one leaves the others.
-/

namespace Sys2Proof.Machine

theorem wordGet_testBit (w : Word) (hi lo j : Nat) :
    (wordGet w hi lo).testBit j = (decide (j < hi + 1 - lo) && w.getLsbD (lo + j)) := by
  simp [wordGet, BitVec.getLsbD]

theorem wordGet_lt (w : Word) (hi lo : Nat) : wordGet w hi lo < 2 ^ (hi + 1 - lo) := Nat.mod_lt _ (Nat.two_pow_pos _)

theorem wordSet_getLsbD (w : Word) (hi lo v i : Nat) (h : i < 32) :
    (wordSet w hi lo v).getLsbD i = if lo ≤ i ∧ i < hi + 1 then v.testBit (i - lo) else w.getLsbD i := by
  simp only [wordSet, BitVec.getLsbD_or, BitVec.getLsbD_and, BitVec.getLsbD_not, BitVec.getLsbD_shiftLeft, BitVec.getLsbD_ofNat,
    Nat.testBit_two_pow_sub_one, Nat.testBit_mod_two_pow, h]
  by_cases h1 : lo ≤ i
  · have e1 : (i < lo) = False := by simp; omega
    by_cases h2 : i < hi + 1
    · have e2 : (i - lo < hi + 1 - lo) = True := by simp; omega
      have e3 : (i - lo < 32) = True := by simp; omega
      simp [h1, h2, e1, e2, e3]
    · have e2 : (i - lo < hi + 1 - lo) = False := by simp; omega
      simp [h1, h2, e1, e2]
  · have e1 : (i < lo) = True := by simp; omega
    simp [h1, e1]

/-- A field reads the low bits of what was set in it. -/
theorem wordGet_wordSet (w : Word) (hi lo v : Nat) (h : hi < 32) :
    wordGet (wordSet w hi lo v) hi lo = v % 2 ^ (hi + 1 - lo) := by
  apply Nat.eq_of_testBit_eq
  intro j
  rw [wordGet_testBit, Nat.testBit_mod_two_pow]
  by_cases hj : j < hi + 1 - lo
  · rw [wordSet_getLsbD _ _ _ _ _ (by omega), if_pos (by omega)]
    simp [hj]
  · simp [hj]

/-- Setting a field leaves a field that shares no bit with it. -/
theorem wordGet_wordSet_ne (w : Word) (hi lo v hi' lo' : Nat) (h : hi < lo' ∨ hi' < lo) (h32 : hi' < 32) :
    wordGet (wordSet w hi lo v) hi' lo' = wordGet w hi' lo' := by
  apply Nat.eq_of_testBit_eq
  intro j
  rw [wordGet_testBit, wordGet_testBit]
  by_cases hj : j < hi' + 1 - lo'
  · rw [wordSet_getLsbD _ _ _ _ _ (by omega), if_neg (by omega)]
  · simp [hj]

theorem wordGet_zero (hi lo : Nat) : wordGet 0 hi lo = 0 := by simp [wordGet]

end Sys2Proof.Machine
end

