-- ==== Sys2Proof/Laws/Regs.lean ====
section
/-!
SUPPORT. Laws/Regs.lean: the register file, the fields of its registers, the latches and the memory read what was written and nothing else; a
memory write keeps the canonical form.
-/

namespace Sys2Proof.Machine

theorem reg_setReg (d : Dev) (a b : Nat) (w : Word) : (d.setReg a w).reg b = if b = a then w else d.reg b :=
  smGet_smPut d.regs a b w resetWord
@[simp] theorem reg_setReg_same (d : Dev) (a : Nat) (w : Word) : (d.setReg a w).reg a = w := by simp [reg_setReg]
theorem reg_setReg_ne (d : Dev) {a b : Nat} (w : Word) (h : b ≠ a) : (d.setReg a w).reg b = d.reg b := by simp [reg_setReg, h]

theorem get_set_same (d : Dev) (f : Fld) (v : Nat) (h : f.hi < 32) : (d.set f v).get f = v % 2 ^ (f.hi + 1 - f.lo) := by
  simp [Dev.get, Dev.set, wordGet_wordSet, h]
/-- Setting a field leaves every field of another register, and those of its own that share no bit with it. -/
theorem get_set_ne (d : Dev) (f g : Fld) (v : Nat) (h : g.addr ≠ f.addr ∨ ((f.hi < g.lo ∨ g.hi < f.lo) ∧ g.hi < 32)) :
    (d.set f v).get g = d.get g := by
  unfold Dev.get Dev.set
  rw [reg_setReg]
  split
  · rename_i e
    rcases h with h | ⟨h, h32⟩
    · exact absurd e h
    · rw [wordGet_wordSet_ne _ _ _ _ _ _ h h32, e]
  · rfl
theorem reg_set_ne (d : Dev) (f : Fld) (v b : Nat) (h : b ≠ f.addr) : (d.set f v).reg b = d.reg b := reg_setReg_ne d _ h
theorem reg_put_ne (d : Dev) (f : Fld) (v : Bool) (b : Nat) (h : b ≠ f.addr) : (d.put f v).reg b = d.reg b := reg_setReg_ne d _ h
theorem get_setReg_ne (d : Dev) (f : Fld) (a : Nat) (w : Word) (h : f.addr ≠ a) : (d.setReg a w).get f = d.get f := by
  simp [Dev.get, reg_setReg_ne d w h]
theorem flag_put_same (d : Dev) (f : Fld) (b : Bool) (h : f.hi < 32) (hl : f.lo ≤ f.hi) : (d.put f b).flag f = b := by
  have h2 : 2 ≤ 2 ^ (f.hi + 1 - f.lo) := by
    have : 2 ^ 1 ≤ 2 ^ (f.hi + 1 - f.lo) := Nat.pow_le_pow_right (by omega) (by omega)
    simpa using this
  unfold Dev.flag Dev.put
  rw [get_set_same d f _ h]
  cases b
  · simp
  · have : (1 : Nat) % 2 ^ (f.hi + 1 - f.lo) = 1 := Nat.mod_eq_of_lt (by omega)
    simp [this]
theorem get_lt (d : Dev) (f : Fld) : d.get f < 2 ^ (f.hi + 1 - f.lo) := wordGet_lt ..

/-- A field of one bit. -/
theorem flag_bit (d : Dev) (a i : Nat) : d.flag ⟨a, i, i⟩ = (d.reg a).getLsbD i := by
  have h := wordGet_testBit (d.reg a) i i 0
  have hl := wordGet_lt (d.reg a) i i
  have e1 : i + 1 - i = 1 := by omega
  rw [e1] at h hl
  have hb : d.flag ⟨a, i, i⟩ = (wordGet (d.reg a) i i != 0) := rfl
  rw [hb]
  simp only [Nat.lt_one_iff, decide_true, Bool.true_and, Nat.add_zero] at h
  rw [← h]
  have : wordGet (d.reg a) i i = 0 ∨ wordGet (d.reg a) i i = 1 := by omega
  rcases this with e | e <;> simp [e]
theorem put_bit (d : Dev) (a i j : Nat) (v : Bool) (hj : j < 32) :
    ((d.put ⟨a, i, i⟩ v).reg a).getLsbD j = if j = i then v else (d.reg a).getLsbD j := by
  unfold Dev.put Dev.set
  rw [reg_setReg_same]
  dsimp only
  rw [wordSet_getLsbD _ _ _ _ _ hj]
  by_cases h : j = i
  · subst h; rw [if_pos (by omega), if_pos rfl]; cases v <;> simp
  · rw [if_neg (by omega), if_neg h]

/-- A saturating counter counts one, or stays at its all-ones value. -/
theorem get_incSat (d : Dev) (f : Fld) (h : f.hi < 32) :
    (d.incSat f).get f = min (d.get f + 1) (2 ^ (f.hi + 1 - f.lo) - 1) := by
  have hlt := get_lt d f
  unfold Dev.incSat
  split <;> rename_i hc
  · rw [get_set_same d f _ h, Nat.mod_eq_of_lt hc]; omega
  · omega
theorem reg_incSat_ne (d : Dev) (f : Fld) (b : Nat) (h : b ≠ f.addr) : (d.incSat f).reg b = d.reg b := by
  unfold Dev.incSat; split
  · exact reg_set_ne d f _ b h
  · rfl

/-! ## Latches -/

theorem latch_setLatch (d : Dev) (who who' : Initiator) (a b : Nat) (w : Word) (ha : a < 0x100000000) (hb : b < 0x100000000) :
    (d.setLatch who a w).latch who' b = if who' = who ∧ b = a then w else d.latch who' b := by
  have key : latchKey who' b = latchKey who a ↔ who' = who ∧ b = a := by
    unfold latchKey; cases who <;> cases who' <;> simp [Initiator.code] <;> omega
  by_cases h : who' = who ∧ b = a
  · obtain ⟨rfl, rfl⟩ := h
    simpa [Dev.latch, Dev.setLatch] using smGet_smPut d.latches (latchKey who' b) (latchKey who' b) w (fun _ => resetWord b)
  · have hk : latchKey who' b ≠ latchKey who a := fun e => h (key.1 e)
    rw [if_neg h]
    unfold Dev.latch Dev.setLatch smPut
    dsimp only
    split
    · rw [smGet_smDel, if_neg hk]
    · rw [smGet_smIns, if_neg hk]

/-! ## Memory -/

theorem byte_setByte (d : Dev) (a b : Nat) (x : Byte) : (d.setByte a x).byte b = if b = a then x else d.byte b :=
  smGet_smPut d.mem a b x memReset
theorem byte_setWord_ne (d : Dev) (a b : Nat) (w : Word) (h : b < a ∨ a + 4 ≤ b) : (d.setWord a w).byte b = d.byte b := by
  have h0 : b ≠ a := by omega
  have h1 : b ≠ a + 1 := by omega
  have h2 : b ≠ a + 2 := by omega
  have h3 : b ≠ a + 3 := by omega
  simp only [Dev.setWord, byte_setByte, if_neg h0, if_neg h1, if_neg h2, if_neg h3]
/-- A word reads what was written to it. -/
theorem word_setWord (d : Dev) (a : Nat) (w : Word) : (d.setWord a w).word a = w := by
  simp only [Dev.word, Dev.setWord, byte_setByte, if_true, show ¬ a = a + 1 by omega, show ¬ a = a + 2 by omega,
    show ¬ a = a + 3 by omega, show ¬ a + 1 = a + 2 by omega, show ¬ a + 1 = a + 3 by omega, show ¬ a + 2 = a + 3 by omega, if_false]
  refine BitVec.eq_of_getLsbD_eq fun i hi => ?_
  simp only [BitVec.getLsbD_append, BitVec.getLsbD_extractLsb']
  split
  · simp [*]
  · split
    · simp [show i - 8 < 8 by omega, show 8 + (i - 8) = i by omega]
    · split
      · simp [show i - 8 - 8 < 8 by omega, show 16 + (i - 8 - 8) = i by omega]
      · simp [show i - 8 - 8 - 8 < 8 by omega, show 24 + (i - 8 - 8 - 8) = i by omega]
theorem word_setWord_ne (d : Dev) (a b : Nat) (w : Word) (h : b + 4 ≤ a ∨ a + 4 ≤ b) : (d.setWord a w).word b = d.word b := by
  simp only [Dev.word]
  rw [byte_setWord_ne d a b w (by omega), byte_setWord_ne d a (b + 1) w (by omega), byte_setWord_ne d a (b + 2) w (by omega),
    byte_setWord_ne d a (b + 3) w (by omega)]

theorem setByte_wf (d : Dev) (a : Nat) (x : Byte) (h : Memory.wf d.mem = true) : Memory.wf (d.setByte a x).mem = true :=
  smWf_smPut d.mem a x memReset h
theorem setWord_wf (d : Dev) (a : Nat) (w : Word) (h : Memory.wf d.mem = true) : Memory.wf (d.setWord a w).mem = true :=
  setByte_wf _ _ _ (setByte_wf _ _ _ (setByte_wf _ _ _ (setByte_wf _ _ _ h)))
theorem setWords_wf (l : List Word) (d : Dev) (a : Nat) (h : Memory.wf d.mem = true) : Memory.wf (d.setWords a l).mem = true := by
  induction l generalizing d a with
  | nil => exact h
  | cons w r ih => exact ih _ _ (setWord_wf d a w h)
theorem setBytes_wf (l : List Byte) (d : Dev) (a : Nat) (h : Memory.wf d.mem = true) : Memory.wf (d.setBytes a l).mem = true := by
  induction l generalizing d a with
  | nil => exact h
  | cons w r ih => exact ih _ _ (setByte_wf d a w h)

end Sys2Proof.Machine
end

