-- ==== Sys2Proof/Laws/Shared.lean ====
section
/-!
SUPPORT. Laws/Shared.lean: what the operations every block shares can do: an interrupt bit, a fault report, a monitor sample, a ring record. The
lemmas ending in `_rest` say that nothing outside the registers, the cores, the interrupt controller, the collector, the monitors and the
free-value counter changes; those ending in `_reg` say which registers may.
-/

namespace Sys2Proof.Machine

/-- The parts of a device the shared operations leave. -/
def Dev.rest (d : Dev) : Dev :=
  { d with regs := [], harts := Vector.replicate 3 {}, intc := {}, fcol := {}, mons := Vector.replicate 16 {}, freeCtr := 0 }

theorem rest_regs (d : Dev) (r : SMap Word) : ({ d with regs := r } : Dev).rest = d.rest := rfl
theorem rest_harts (d : Dev) (r : Vector Hart 3) : ({ d with harts := r } : Dev).rest = d.rest := rfl
theorem rest_intc (d : Dev) (r : Intc) : ({ d with intc := r } : Dev).rest = d.rest := rfl
theorem rest_fcol (d : Dev) (r : Fcol) : ({ d with fcol := r } : Dev).rest = d.rest := rfl
theorem rest_mons (d : Dev) (r : Vector Mon 16) : ({ d with mons := r } : Dev).rest = d.rest := rfl
theorem rest_freeCtr (d : Dev) (r : Nat) : ({ d with freeCtr := r } : Dev).rest = d.rest := rfl
theorem rest_mem (d : Dev) : d.rest.mem = d.mem := rfl
theorem setReg_rest (d : Dev) (a : Nat) (w : Word) : (d.setReg a w).rest = d.rest := rest_regs d _
theorem put_rest (d : Dev) (f : Fld) (b : Bool) : (d.put f b).rest = d.rest := rest_regs d _
theorem incSat_rest (d : Dev) (f : Fld) : (d.incSat f).rest = d.rest := by
  unfold Dev.incSat
  split
  · exact rest_regs d _
  · rfl

/-! ## The interrupt controller after a change of a request -/

theorem present_both (d : Dev) (h : Nat) :
    (d.present h).rest = d.rest ∧ ∀ a, a ≠ R.INTC_CNT → (d.present h).reg a = d.reg a := by
  have key : ∀ (e : Dev) (b : Bool), e.rest = d.rest → (∀ a, e.reg a = d.reg a) →
      (if b = true then e.incSat F.INTC_CNT_REPLACED else e).rest = d.rest ∧
      ∀ a, a ≠ R.INTC_CNT → (if b = true then e.incSat F.INTC_CNT_REPLACED else e).reg a = d.reg a := by
    intro e b h1 h2
    cases b
    · exact ⟨h1, fun a _ => h2 a⟩
    · exact ⟨(incSat_rest e _).trans h1, fun a ha => (reg_incSat_ne e _ a ha).trans (h2 a)⟩
  exact key (d.setHart h _) _ (rest_harts d _) (fun _ => rfl)
theorem present_rest (d : Dev) (h : Nat) : (d.present h).rest = d.rest := (present_both d h).1
theorem present_reg (d : Dev) (h a : Nat) (ha : a ≠ R.INTC_CNT) : (d.present h).reg a = d.reg a := (present_both d h).2 a ha
theorem fabSend_reg (d : Dev) (a : Nat) : d.fabSend.reg a = d.reg a := rfl
theorem fabSend_rest (d : Dev) : d.fabSend.rest = d.rest := rest_intc d _

theorem intcRefresh_rest (d : Dev) : d.intcRefresh.rest = d.rest := by
  unfold Dev.intcRefresh
  rw [fabSend_rest, present_rest, present_rest, present_rest]
theorem intcRefresh_reg (d : Dev) (a : Nat) (ha : a ≠ R.INTC_CNT) : d.intcRefresh.reg a = d.reg a := by
  unfold Dev.intcRefresh
  rw [fabSend_reg, present_reg _ _ _ ha, present_reg _ _ _ ha, present_reg _ _ _ ha]

/-! ## Interrupt bits (R53) -/

theorem irqBits_rest (d : Dev) (pg : Nat) (b : Word) : (d.irqBits pg b).rest = d.rest := by
  unfold Dev.irqBits; rw [intcRefresh_rest, setReg_rest]
theorem irqBits_reg (d : Dev) (pg : Nat) (b : Word) (a : Nat) (ha : a ≠ R.INTC_CNT) (hp : a ≠ R.PIRQ pg) :
    (d.irqBits pg b).reg a = d.reg a := by
  unfold Dev.irqBits; rw [intcRefresh_reg _ _ ha, reg_setReg_ne _ _ hp]
theorem pirq_ne_cnt (pg : Nat) : R.PIRQ pg ≠ R.INTC_CNT := by unfold R.PIRQ R.INTC_CNT; omega
/-- The bits stand in the page's interrupt status, beside those that stood there. -/
theorem irqBits_pirq (d : Dev) (pg : Nat) (b : Word) : (d.irqBits pg b).reg (R.PIRQ pg) = d.reg (R.PIRQ pg) ||| b := by
  unfold Dev.irqBits; rw [intcRefresh_reg _ _ (pirq_ne_cnt pg), reg_setReg_same]
theorem irq_rest (d : Dev) (pg i : Nat) : (d.irq pg i).rest = d.rest := irqBits_rest ..
theorem irq_reg (d : Dev) (pg i a : Nat) (ha : a ≠ R.INTC_CNT) (hp : a ≠ R.PIRQ pg) : (d.irq pg i).reg a = d.reg a :=
  irqBits_reg d pg _ a ha hp
theorem irq_pirq (d : Dev) (pg i : Nat) : (d.irq pg i).reg (R.PIRQ pg) = d.reg (R.PIRQ pg) ||| (1#32 <<< i) := irqBits_pirq ..
theorem irq_bit (d : Dev) (pg i : Nat) (h : i < 32) : ((d.irq pg i).reg (R.PIRQ pg)).getLsbD i = true := by
  simp [irq_pirq, h]
theorem irq_get (d : Dev) (pg i : Nat) (f : Fld) (ha : f.addr ≠ R.INTC_CNT) (hp : f.addr ≠ R.PIRQ pg) : (d.irq pg i).get f = d.get f := by
  unfold Dev.get; rw [irq_reg d pg i _ ha hp]

/-! ## Fault reports (R435, R436) -/

theorem sendMsg_rest (d : Dev) (m : FMsg) : (d.sendMsg m).rest = d.rest := by
  unfold Dev.sendMsg; dsimp only
  split
  · exact (setReg_rest _ _ _).trans (rest_fcol d _)
  · exact rest_fcol d _
theorem sendMsg_reg (d : Dev) (m : FMsg) (a : Nat) (h : a ≠ R.PFLT m.src) : (d.sendMsg m).reg a = d.reg a := by
  unfold Dev.sendMsg; dsimp only
  split
  · rename_i pg hs
    have : pg = m.src := by unfold srcPage at hs; split at hs <;> simp_all
    subst this; rw [reg_setReg_ne _ _ h]; rfl
  · rfl
/-- Where a report may write: the page's fault word, those of the collector and its count of dropped messages, and its interrupt status. -/
def reportReach (src a : Nat) : Prop := a = R.PFLT src ∨ a = R.PFLT 0xD0 ∨ a = R.FCOL_CNT_C ∨ a = R.PIRQ P.FCOL ∨ a = R.INTC_CNT
/-- A report changes what it may write, the messages that wait at the collector, and what an interrupt bit changes. -/
theorem report_both (d : Dev) (m : FMsg) :
    (d.report m).rest = d.rest ∧ ∀ a, ¬ reportReach m.src a → (d.report m).reg a = d.reg a := by
  have drop : ∀ e : Dev, ((e.incSat F.FCOL_CNT_C_QDROP).irq P.FCOL 5).rest = e.rest ∧
      ∀ a, ¬ reportReach m.src a → ((e.incSat F.FCOL_CNT_C_QDROP).irq P.FCOL 5).reg a = e.reg a := fun e => by
    refine ⟨by rw [irq_rest, incSat_rest], fun a h => ?_⟩
    unfold reportReach at h
    simp only [not_or] at h
    rw [irq_reg _ _ _ _ h.2.2.2.2 h.2.2.2.1, reg_incSat_ne _ _ _ h.2.2.1]
  have send : ∀ (e : Dev) (n : FMsg), (n.src = m.src ∨ n.src = 0xD0) → (e.sendMsg n).rest = e.rest ∧
      ∀ a, ¬ reportReach m.src a → (e.sendMsg n).reg a = e.reg a := fun e n hn => by
    refine ⟨sendMsg_rest e n, fun a h => ?_⟩
    unfold reportReach at h
    simp only [not_or] at h
    rcases hn with hn | hn
    · exact sendMsg_reg e n a (hn ▸ h.1)
    · exact sendMsg_reg e n a (hn ▸ h.2.1)
  unfold Dev.report
  dsimp only
  split
  · exact send d m (.inl rfl)
  · split
    · exact drop d
    · split
      · exact ⟨(send _ _ (.inr rfl)).1.trans (drop d).1, fun a h => ((send _ _ (.inr rfl)).2 a h).trans ((drop d).2 a h)⟩
      · exact ⟨(drop _).1.trans (drop d).1, fun a h => ((drop _).2 a h).trans ((drop d).2 a h)⟩
theorem report_rest (d : Dev) (m : FMsg) : (d.report m).rest = d.rest := (report_both d m).1
theorem report_reg (d : Dev) (m : FMsg) (a : Nat) (h : ¬ reportReach m.src a) : (d.report m).reg a = d.reg a := (report_both d m).2 a h
/-- With a place free at its source, a report waits last at the collector. -/
theorem report_awaits (d : Dev) (m : FMsg) (h : d.held m.src < 2) : (d.report m).fcol.awaiting = d.fcol.awaiting ++ [m] := by
  unfold Dev.report Dev.sendMsg; rw [if_pos h]; dsimp only; split <;> rfl

/-! ## Monitors (R456 to R462) -/

/-- Where a monitor sample may write. -/
def monReach (a : Nat) : Prop :=
  (0x400D8000 ≤ a ∧ a < 0x400E0000 ∧ (a % 0x1000 = 0x10 ∨ a % 0x1000 = 0x1C ∨ 0x100 ≤ a % 0x1000)) ∨
    a = R.PFLT 0xD0 ∨ a = R.FCOL_CNT_C ∨ a = R.PIRQ P.FCOL ∨ a = R.INTC_CNT

/-- Two devices that differ in what a monitor sample may change only. -/
def SameButMon (d e : Dev) : Prop := e.rest = d.rest ∧ ∀ a, ¬ monReach a → e.reg a = d.reg a

theorem SameButMon.refl (d : Dev) : SameButMon d d := ⟨rfl, fun _ _ => rfl⟩
theorem SameButMon.trans {d e f : Dev} (h : SameButMon d e) (k : SameButMon e f) : SameButMon d f :=
  ⟨k.1.trans h.1, fun a ha => (k.2 a ha).trans (h.2 a ha)⟩
theorem SameButMon.mem {d e : Dev} (h : SameButMon d e) : e.mem = d.mem := by rw [← rest_mem, h.1, rest_mem]
theorem SameButMon.byte {d e : Dev} (h : SameButMon d e) (a : Nat) : e.byte a = d.byte a := by unfold Dev.byte; rw [h.mem]

theorem monReach_report {m a : Nat} (hm : m < 16) (h : ¬ monReach a) : ¬ reportReach (P.MON (m / 2)) a := by
  unfold reportReach P.MON
  unfold monReach at h
  simp only [not_or] at h ⊢
  refine ⟨fun e => h.1 ?_, h.2⟩
  subst e; unfold R.PFLT
  omega

theorem monTake_same (d : Dev) (now m p : Nat) (v : Int) (hm : m < 16) : SameButMon d (d.monTake now m p v) := by
  have hset : ∀ (e : Dev) (x : Mon), SameButMon e (e.setMon m x) := fun e x => ⟨rest_mons e _, fun _ _ => rfl⟩
  have hirq : ∀ (e : Dev) (i : Nat), SameButMon e (e.irq (P.MON (m / 2)) i) := fun e i =>
    ⟨irq_rest _ _ _, fun a ha => by
      refine irq_reg e _ _ a (fun h => ha ?_) (fun h => ha ?_)
      · unfold monReach; exact .inr (.inr (.inr (.inr h)))
      · unfold monReach; subst h; left; unfold R.PIRQ P.MON; omega⟩
  have hrep : ∀ (e : Dev) (k c dt ar : Nat), SameButMon e (e.rep (P.MON (m / 2)) k c dt ar) := fun e k c dt ar =>
    ⟨report_rest _ _, fun a ha => report_reg e _ a (monReach_report hm ha)⟩
  have hst : ∀ (e : Dev) (b : Bool), SameButMon e (e.put (F.MON_STAT_FULL m) b) := fun e b =>
    ⟨put_rest _ _ _, fun a ha => reg_put_ne e _ b a (fun h => ha (by
      unfold monReach; subst h; left; unfold F.MON_STAT_FULL R.MON_STAT; dsimp only; omega))⟩
  have hby : ∀ e : Dev, SameButMon e (e.incSat (F.MON_BEYOND_BEYOND m)) := fun e =>
    ⟨incSat_rest _ _, fun a ha => reg_incSat_ne e _ a (fun h => ha (by
      unfold monReach; subst h; left; unfold F.MON_BEYOND_BEYOND R.MON_BEYOND; dsimp only; omega))⟩
  have hfull : ∀ e : Dev, SameButMon e (e.monFull m) := fun e => by
    unfold Dev.monFull
    split
    · exact (hst _ _).trans (hirq _ _)
    · exact .refl e
  have hreport : ∀ (e : Dev) (v : Int), SameButMon e (e.monReport m v) := fun e v => by
    unfold Dev.monReport
    split
    · exact ((hset _ _).trans (hirq _ _)).trans (hrep _ _ _ _ _)
    · exact .refl e
  have hlim : ∀ e : Dev, SameButMon e (e.monLimit m p v) := fun e => by
    have key : ∀ b : Bool, SameButMon e (if b = true then (e.incSat (F.MON_BEYOND_BEYOND m)).monReport m v else e) := fun b => by
      cases b
      · exact .refl e
      · exact (hby e).trans (hreport _ v)
    exact key _
  exact ((hset d _).trans (hfull _)).trans (hlim _)

theorem tickFree_same (d : Dev) : SameButMon d d.tickFree := ⟨rest_freeCtr d _, fun _ _ => rfl⟩

theorem monOne_same (d : Dev) (now m p sel : Nat) (v : Int) (hm : m < 16) : SameButMon d (d.monOne now m p sel v) := by
  unfold Dev.monOne
  split
  · split
    · exact monTake_same d now m p _ hm
    · split
      · exact (tickFree_same d).trans (monTake_same _ now m p _ hm)
      · refine (tickFree_same d).trans ⟨incSat_rest _ _, fun a ha => reg_incSat_ne _ _ a (fun h => ha ?_)⟩
        unfold monReach; subst h; left; unfold F.MON_STAT_MISS R.MON_STAT; dsimp only; omega
  · exact .refl d

/-- A probe value changes monitors, and what the report of a monitor changes. -/
theorem probe_same (d : Dev) (now p sel : Nat) (v : Int) : SameButMon d (d.probe now p sel v) := by
  have : ∀ (l : List Nat), (∀ m ∈ l, m < 16) → ∀ e : Dev, SameButMon d e → SameButMon d (l.foldl (fun d m => d.monOne now m p sel v) e) := by
    intro l
    induction l with
    | nil => intro _ e he; exact he
    | cons m r ih =>
      intro hl e he
      exact ih (fun x hx => hl x (List.mem_cons_of_mem _ hx)) _ (he.trans (monOne_same e now m p sel v (hl m (List.mem_cons_self ..))))
  exact this (List.range 16) (fun m hm => List.mem_range.1 hm) d (.refl d)

/-! ## Rings (R374, R375) -/

/-- A disabled or full ring takes no record. -/
theorem ringPush_none (d : Dev) (now r : Nat) (ws : List Word) (h : d.ringEn r = false ∨ d.ringN r ≤ d.ringFill r) :
    d.ringPush now r ws = none := by
  unfold Dev.ringPush
  rcases h with h | h
  · simp [h]
  · simp; intro; omega

end Sys2Proof.Machine
end

