-- ==== Sys2Proof/Laws/State.lean ====
section
/-!
SUPPORT. Laws/State.lean: one lemma for every field of the device under each basic update, so that no proof unfolds a record update. A write of
a register, a field, a bit, a latch or a memory byte leaves every other part of the device; a device built of parts reads its registers from the
part that holds them.
-/

namespace Sys2Proof.Machine

/-! ## `setReg` writes the registers only -/

@[simp] theorem setReg_shadow (d : Dev) (a : Nat) (w : Word) : (d.setReg a w).shadow = d.shadow := rfl
@[simp] theorem setReg_latches (d : Dev) (a : Nat) (w : Word) : (d.setReg a w).latches = d.latches := rfl
@[simp] theorem setReg_mem (d : Dev) (a : Nat) (w : Word) : (d.setReg a w).mem = d.mem := rfl
@[simp] theorem setReg_freeCtr (d : Dev) (a : Nat) (w : Word) : (d.setReg a w).freeCtr = d.freeCtr := rfl
@[simp] theorem setReg_port (d : Dev) (a : Nat) (w : Word) : (d.setReg a w).port = d.port := rfl
@[simp] theorem setReg_supply (d : Dev) (a : Nat) (w : Word) : (d.setReg a w).supply = d.supply := rfl
@[simp] theorem setReg_fcol (d : Dev) (a : Nat) (w : Word) : (d.setReg a w).fcol = d.fcol := rfl
@[simp] theorem setReg_harts (d : Dev) (a : Nat) (w : Word) : (d.setReg a w).harts = d.harts := rfl
@[simp] theorem setReg_intc (d : Dev) (a : Nat) (w : Word) : (d.setReg a w).intc = d.intc := rfl
@[simp] theorem setReg_mons (d : Dev) (a : Nat) (w : Word) : (d.setReg a w).mons = d.mons := rfl
@[simp] theorem setReg_trig (d : Dev) (a : Nat) (w : Word) : (d.setReg a w).trig = d.trig := rfl
@[simp] theorem setReg_chans (d : Dev) (a : Nat) (w : Word) : (d.setReg a w).chans = d.chans := rfl
@[simp] theorem setReg_taps (d : Dev) (a : Nat) (w : Word) : (d.setReg a w).taps = d.taps := rfl
@[simp] theorem setReg_igns (d : Dev) (a : Nat) (w : Word) : (d.setReg a w).igns = d.igns := rfl
@[simp] theorem setReg_soft (d : Dev) (a : Nat) (w : Word) : (d.setReg a w).soft = d.soft := rfl
@[simp] theorem setReg_whls (d : Dev) (a : Nat) (w : Word) : (d.setReg a w).whls = d.whls := rfl
@[simp] theorem setReg_sys (d : Dev) (a : Nat) (w : Word) : (d.setReg a w).sys = d.sys := rfl
@[simp] theorem setReg_angs (d : Dev) (a : Nat) (w : Word) : (d.setReg a w).angs = d.angs := rfl
@[simp] theorem setReg_preds (d : Dev) (a : Nat) (w : Word) : (d.setReg a w).preds = d.preds := rfl
@[simp] theorem setReg_carv (d : Dev) (a : Nat) (w : Word) : (d.setReg a w).carv = d.carv := rfl
@[simp] theorem setReg_drvs (d : Dev) (a : Nat) (w : Word) : (d.setReg a w).drvs = d.drvs := rfl
@[simp] theorem setReg_banks (d : Dev) (a : Nat) (w : Word) : (d.setReg a w).banks = d.banks := rfl
@[simp] theorem setReg_bsts (d : Dev) (a : Nat) (w : Word) : (d.setReg a w).bsts = d.bsts := rfl
@[simp] theorem setReg_prof (d : Dev) (a : Nat) (w : Word) : (d.setReg a w).prof = d.prof := rfl
@[simp] theorem setReg_trimQ (d : Dev) (a : Nat) (w : Word) : (d.setReg a w).trimQ = d.trimQ := rfl
@[simp] theorem setReg_cyls (d : Dev) (a : Nat) (w : Word) : (d.setReg a w).cyls = d.cyls := rfl
@[simp] theorem setReg_adcs (d : Dev) (a : Nat) (w : Word) : (d.setReg a w).adcs = d.adcs := rfl
@[simp] theorem setReg_runs (d : Dev) (a : Nat) (w : Word) : (d.setReg a w).runs = d.runs := rfl
@[simp] theorem setReg_knk (d : Dev) (a : Nat) (w : Word) : (d.setReg a w).knk = d.knk := rfl
@[simp] theorem setReg_nls (d : Dev) (a : Nat) (w : Word) : (d.setReg a w).nls = d.nls := rfl
@[simp] theorem setReg_fab (d : Dev) (a : Nat) (w : Word) : (d.setReg a w).fab = d.fab := rfl
@[simp] theorem setReg_beac (d : Dev) (a : Nat) (w : Word) : (d.setReg a w).beac = d.beac := rfl
@[simp] theorem setReg_sec (d : Dev) (a : Nat) (w : Word) : (d.setReg a w).sec = d.sec := rfl
@[simp] theorem setReg_upd (d : Dev) (a : Nat) (w : Word) : (d.setReg a w).upd = d.upd := rfl
@[simp] theorem setReg_mramc (d : Dev) (a : Nat) (w : Word) : (d.setReg a w).mramc = d.mramc := rfl
@[simp] theorem setReg_oasis (d : Dev) (a : Nat) (w : Word) : (d.setReg a w).oasis = d.oasis := rfl
@[simp] theorem setReg_jtag (d : Dev) (a : Nat) (w : Word) : (d.setReg a w).jtag = d.jtag := rfl
@[simp] theorem setReg_dm (d : Dev) (a : Nat) (w : Word) : (d.setReg a w).dm = d.dm := rfl
@[simp] theorem setReg_tmrs (d : Dev) (a : Nat) (w : Word) : (d.setReg a w).tmrs = d.tmrs := rfl
@[simp] theorem setReg_pio (d : Dev) (a : Nat) (w : Word) : (d.setReg a w).pio = d.pio := rfl

/-! ## `set` writes the registers only -/

@[simp] theorem set_shadow (d : Dev) (f : Fld) (v : Nat) : (d.set f v).shadow = d.shadow := rfl
@[simp] theorem set_latches (d : Dev) (f : Fld) (v : Nat) : (d.set f v).latches = d.latches := rfl
@[simp] theorem set_mem (d : Dev) (f : Fld) (v : Nat) : (d.set f v).mem = d.mem := rfl
@[simp] theorem set_freeCtr (d : Dev) (f : Fld) (v : Nat) : (d.set f v).freeCtr = d.freeCtr := rfl
@[simp] theorem set_port (d : Dev) (f : Fld) (v : Nat) : (d.set f v).port = d.port := rfl
@[simp] theorem set_supply (d : Dev) (f : Fld) (v : Nat) : (d.set f v).supply = d.supply := rfl
@[simp] theorem set_fcol (d : Dev) (f : Fld) (v : Nat) : (d.set f v).fcol = d.fcol := rfl
@[simp] theorem set_harts (d : Dev) (f : Fld) (v : Nat) : (d.set f v).harts = d.harts := rfl
@[simp] theorem set_intc (d : Dev) (f : Fld) (v : Nat) : (d.set f v).intc = d.intc := rfl
@[simp] theorem set_mons (d : Dev) (f : Fld) (v : Nat) : (d.set f v).mons = d.mons := rfl
@[simp] theorem set_trig (d : Dev) (f : Fld) (v : Nat) : (d.set f v).trig = d.trig := rfl
@[simp] theorem set_chans (d : Dev) (f : Fld) (v : Nat) : (d.set f v).chans = d.chans := rfl
@[simp] theorem set_taps (d : Dev) (f : Fld) (v : Nat) : (d.set f v).taps = d.taps := rfl
@[simp] theorem set_igns (d : Dev) (f : Fld) (v : Nat) : (d.set f v).igns = d.igns := rfl
@[simp] theorem set_soft (d : Dev) (f : Fld) (v : Nat) : (d.set f v).soft = d.soft := rfl
@[simp] theorem set_whls (d : Dev) (f : Fld) (v : Nat) : (d.set f v).whls = d.whls := rfl
@[simp] theorem set_sys (d : Dev) (f : Fld) (v : Nat) : (d.set f v).sys = d.sys := rfl
@[simp] theorem set_angs (d : Dev) (f : Fld) (v : Nat) : (d.set f v).angs = d.angs := rfl
@[simp] theorem set_preds (d : Dev) (f : Fld) (v : Nat) : (d.set f v).preds = d.preds := rfl
@[simp] theorem set_carv (d : Dev) (f : Fld) (v : Nat) : (d.set f v).carv = d.carv := rfl
@[simp] theorem set_drvs (d : Dev) (f : Fld) (v : Nat) : (d.set f v).drvs = d.drvs := rfl
@[simp] theorem set_banks (d : Dev) (f : Fld) (v : Nat) : (d.set f v).banks = d.banks := rfl
@[simp] theorem set_bsts (d : Dev) (f : Fld) (v : Nat) : (d.set f v).bsts = d.bsts := rfl
@[simp] theorem set_prof (d : Dev) (f : Fld) (v : Nat) : (d.set f v).prof = d.prof := rfl
@[simp] theorem set_trimQ (d : Dev) (f : Fld) (v : Nat) : (d.set f v).trimQ = d.trimQ := rfl
@[simp] theorem set_cyls (d : Dev) (f : Fld) (v : Nat) : (d.set f v).cyls = d.cyls := rfl
@[simp] theorem set_adcs (d : Dev) (f : Fld) (v : Nat) : (d.set f v).adcs = d.adcs := rfl
@[simp] theorem set_runs (d : Dev) (f : Fld) (v : Nat) : (d.set f v).runs = d.runs := rfl
@[simp] theorem set_knk (d : Dev) (f : Fld) (v : Nat) : (d.set f v).knk = d.knk := rfl
@[simp] theorem set_nls (d : Dev) (f : Fld) (v : Nat) : (d.set f v).nls = d.nls := rfl
@[simp] theorem set_fab (d : Dev) (f : Fld) (v : Nat) : (d.set f v).fab = d.fab := rfl
@[simp] theorem set_beac (d : Dev) (f : Fld) (v : Nat) : (d.set f v).beac = d.beac := rfl
@[simp] theorem set_sec (d : Dev) (f : Fld) (v : Nat) : (d.set f v).sec = d.sec := rfl
@[simp] theorem set_upd (d : Dev) (f : Fld) (v : Nat) : (d.set f v).upd = d.upd := rfl
@[simp] theorem set_mramc (d : Dev) (f : Fld) (v : Nat) : (d.set f v).mramc = d.mramc := rfl
@[simp] theorem set_oasis (d : Dev) (f : Fld) (v : Nat) : (d.set f v).oasis = d.oasis := rfl
@[simp] theorem set_jtag (d : Dev) (f : Fld) (v : Nat) : (d.set f v).jtag = d.jtag := rfl
@[simp] theorem set_dm (d : Dev) (f : Fld) (v : Nat) : (d.set f v).dm = d.dm := rfl
@[simp] theorem set_tmrs (d : Dev) (f : Fld) (v : Nat) : (d.set f v).tmrs = d.tmrs := rfl
@[simp] theorem set_pio (d : Dev) (f : Fld) (v : Nat) : (d.set f v).pio = d.pio := rfl

/-! ## `put` writes the registers only -/

@[simp] theorem put_shadow (d : Dev) (f : Fld) (b : Bool) : (d.put f b).shadow = d.shadow := rfl
@[simp] theorem put_latches (d : Dev) (f : Fld) (b : Bool) : (d.put f b).latches = d.latches := rfl
@[simp] theorem put_mem (d : Dev) (f : Fld) (b : Bool) : (d.put f b).mem = d.mem := rfl
@[simp] theorem put_freeCtr (d : Dev) (f : Fld) (b : Bool) : (d.put f b).freeCtr = d.freeCtr := rfl
@[simp] theorem put_port (d : Dev) (f : Fld) (b : Bool) : (d.put f b).port = d.port := rfl
@[simp] theorem put_supply (d : Dev) (f : Fld) (b : Bool) : (d.put f b).supply = d.supply := rfl
@[simp] theorem put_fcol (d : Dev) (f : Fld) (b : Bool) : (d.put f b).fcol = d.fcol := rfl
@[simp] theorem put_harts (d : Dev) (f : Fld) (b : Bool) : (d.put f b).harts = d.harts := rfl
@[simp] theorem put_intc (d : Dev) (f : Fld) (b : Bool) : (d.put f b).intc = d.intc := rfl
@[simp] theorem put_mons (d : Dev) (f : Fld) (b : Bool) : (d.put f b).mons = d.mons := rfl
@[simp] theorem put_trig (d : Dev) (f : Fld) (b : Bool) : (d.put f b).trig = d.trig := rfl
@[simp] theorem put_chans (d : Dev) (f : Fld) (b : Bool) : (d.put f b).chans = d.chans := rfl
@[simp] theorem put_taps (d : Dev) (f : Fld) (b : Bool) : (d.put f b).taps = d.taps := rfl
@[simp] theorem put_igns (d : Dev) (f : Fld) (b : Bool) : (d.put f b).igns = d.igns := rfl
@[simp] theorem put_soft (d : Dev) (f : Fld) (b : Bool) : (d.put f b).soft = d.soft := rfl
@[simp] theorem put_whls (d : Dev) (f : Fld) (b : Bool) : (d.put f b).whls = d.whls := rfl
@[simp] theorem put_sys (d : Dev) (f : Fld) (b : Bool) : (d.put f b).sys = d.sys := rfl
@[simp] theorem put_angs (d : Dev) (f : Fld) (b : Bool) : (d.put f b).angs = d.angs := rfl
@[simp] theorem put_preds (d : Dev) (f : Fld) (b : Bool) : (d.put f b).preds = d.preds := rfl
@[simp] theorem put_carv (d : Dev) (f : Fld) (b : Bool) : (d.put f b).carv = d.carv := rfl
@[simp] theorem put_drvs (d : Dev) (f : Fld) (b : Bool) : (d.put f b).drvs = d.drvs := rfl
@[simp] theorem put_banks (d : Dev) (f : Fld) (b : Bool) : (d.put f b).banks = d.banks := rfl
@[simp] theorem put_bsts (d : Dev) (f : Fld) (b : Bool) : (d.put f b).bsts = d.bsts := rfl
@[simp] theorem put_prof (d : Dev) (f : Fld) (b : Bool) : (d.put f b).prof = d.prof := rfl
@[simp] theorem put_trimQ (d : Dev) (f : Fld) (b : Bool) : (d.put f b).trimQ = d.trimQ := rfl
@[simp] theorem put_cyls (d : Dev) (f : Fld) (b : Bool) : (d.put f b).cyls = d.cyls := rfl
@[simp] theorem put_adcs (d : Dev) (f : Fld) (b : Bool) : (d.put f b).adcs = d.adcs := rfl
@[simp] theorem put_runs (d : Dev) (f : Fld) (b : Bool) : (d.put f b).runs = d.runs := rfl
@[simp] theorem put_knk (d : Dev) (f : Fld) (b : Bool) : (d.put f b).knk = d.knk := rfl
@[simp] theorem put_nls (d : Dev) (f : Fld) (b : Bool) : (d.put f b).nls = d.nls := rfl
@[simp] theorem put_fab (d : Dev) (f : Fld) (b : Bool) : (d.put f b).fab = d.fab := rfl
@[simp] theorem put_beac (d : Dev) (f : Fld) (b : Bool) : (d.put f b).beac = d.beac := rfl
@[simp] theorem put_sec (d : Dev) (f : Fld) (b : Bool) : (d.put f b).sec = d.sec := rfl
@[simp] theorem put_upd (d : Dev) (f : Fld) (b : Bool) : (d.put f b).upd = d.upd := rfl
@[simp] theorem put_mramc (d : Dev) (f : Fld) (b : Bool) : (d.put f b).mramc = d.mramc := rfl
@[simp] theorem put_oasis (d : Dev) (f : Fld) (b : Bool) : (d.put f b).oasis = d.oasis := rfl
@[simp] theorem put_jtag (d : Dev) (f : Fld) (b : Bool) : (d.put f b).jtag = d.jtag := rfl
@[simp] theorem put_dm (d : Dev) (f : Fld) (b : Bool) : (d.put f b).dm = d.dm := rfl
@[simp] theorem put_tmrs (d : Dev) (f : Fld) (b : Bool) : (d.put f b).tmrs = d.tmrs := rfl
@[simp] theorem put_pio (d : Dev) (f : Fld) (b : Bool) : (d.put f b).pio = d.pio := rfl

/-! ## `setByte` writes the memory only, `setLatch` the latches, `tickFree` the counter of free values, `setHart` the cores -/

@[simp] theorem setByte_regs (d : Dev) (a : Nat) (x : Byte) : (d.setByte a x).regs = d.regs := rfl
@[simp] theorem setByte_shadow (d : Dev) (a : Nat) (x : Byte) : (d.setByte a x).shadow = d.shadow := rfl
@[simp] theorem setByte_latches (d : Dev) (a : Nat) (x : Byte) : (d.setByte a x).latches = d.latches := rfl
@[simp] theorem setByte_freeCtr (d : Dev) (a : Nat) (x : Byte) : (d.setByte a x).freeCtr = d.freeCtr := rfl
@[simp] theorem setByte_port (d : Dev) (a : Nat) (x : Byte) : (d.setByte a x).port = d.port := rfl
@[simp] theorem setByte_supply (d : Dev) (a : Nat) (x : Byte) : (d.setByte a x).supply = d.supply := rfl
@[simp] theorem setByte_fcol (d : Dev) (a : Nat) (x : Byte) : (d.setByte a x).fcol = d.fcol := rfl
@[simp] theorem setByte_harts (d : Dev) (a : Nat) (x : Byte) : (d.setByte a x).harts = d.harts := rfl
@[simp] theorem setByte_intc (d : Dev) (a : Nat) (x : Byte) : (d.setByte a x).intc = d.intc := rfl
@[simp] theorem setByte_mons (d : Dev) (a : Nat) (x : Byte) : (d.setByte a x).mons = d.mons := rfl
@[simp] theorem setByte_trig (d : Dev) (a : Nat) (x : Byte) : (d.setByte a x).trig = d.trig := rfl
@[simp] theorem setByte_chans (d : Dev) (a : Nat) (x : Byte) : (d.setByte a x).chans = d.chans := rfl
@[simp] theorem setByte_taps (d : Dev) (a : Nat) (x : Byte) : (d.setByte a x).taps = d.taps := rfl
@[simp] theorem setByte_igns (d : Dev) (a : Nat) (x : Byte) : (d.setByte a x).igns = d.igns := rfl
@[simp] theorem setByte_soft (d : Dev) (a : Nat) (x : Byte) : (d.setByte a x).soft = d.soft := rfl
@[simp] theorem setByte_whls (d : Dev) (a : Nat) (x : Byte) : (d.setByte a x).whls = d.whls := rfl
@[simp] theorem setByte_sys (d : Dev) (a : Nat) (x : Byte) : (d.setByte a x).sys = d.sys := rfl
@[simp] theorem setByte_angs (d : Dev) (a : Nat) (x : Byte) : (d.setByte a x).angs = d.angs := rfl
@[simp] theorem setByte_preds (d : Dev) (a : Nat) (x : Byte) : (d.setByte a x).preds = d.preds := rfl
@[simp] theorem setByte_carv (d : Dev) (a : Nat) (x : Byte) : (d.setByte a x).carv = d.carv := rfl
@[simp] theorem setByte_drvs (d : Dev) (a : Nat) (x : Byte) : (d.setByte a x).drvs = d.drvs := rfl
@[simp] theorem setByte_banks (d : Dev) (a : Nat) (x : Byte) : (d.setByte a x).banks = d.banks := rfl
@[simp] theorem setByte_bsts (d : Dev) (a : Nat) (x : Byte) : (d.setByte a x).bsts = d.bsts := rfl
@[simp] theorem setByte_prof (d : Dev) (a : Nat) (x : Byte) : (d.setByte a x).prof = d.prof := rfl
@[simp] theorem setByte_trimQ (d : Dev) (a : Nat) (x : Byte) : (d.setByte a x).trimQ = d.trimQ := rfl
@[simp] theorem setByte_cyls (d : Dev) (a : Nat) (x : Byte) : (d.setByte a x).cyls = d.cyls := rfl
@[simp] theorem setByte_adcs (d : Dev) (a : Nat) (x : Byte) : (d.setByte a x).adcs = d.adcs := rfl
@[simp] theorem setByte_runs (d : Dev) (a : Nat) (x : Byte) : (d.setByte a x).runs = d.runs := rfl
@[simp] theorem setByte_knk (d : Dev) (a : Nat) (x : Byte) : (d.setByte a x).knk = d.knk := rfl
@[simp] theorem setByte_nls (d : Dev) (a : Nat) (x : Byte) : (d.setByte a x).nls = d.nls := rfl
@[simp] theorem setByte_fab (d : Dev) (a : Nat) (x : Byte) : (d.setByte a x).fab = d.fab := rfl
@[simp] theorem setByte_beac (d : Dev) (a : Nat) (x : Byte) : (d.setByte a x).beac = d.beac := rfl
@[simp] theorem setByte_sec (d : Dev) (a : Nat) (x : Byte) : (d.setByte a x).sec = d.sec := rfl
@[simp] theorem setByte_upd (d : Dev) (a : Nat) (x : Byte) : (d.setByte a x).upd = d.upd := rfl
@[simp] theorem setByte_mramc (d : Dev) (a : Nat) (x : Byte) : (d.setByte a x).mramc = d.mramc := rfl
@[simp] theorem setByte_oasis (d : Dev) (a : Nat) (x : Byte) : (d.setByte a x).oasis = d.oasis := rfl
@[simp] theorem setByte_jtag (d : Dev) (a : Nat) (x : Byte) : (d.setByte a x).jtag = d.jtag := rfl
@[simp] theorem setByte_dm (d : Dev) (a : Nat) (x : Byte) : (d.setByte a x).dm = d.dm := rfl
@[simp] theorem setByte_tmrs (d : Dev) (a : Nat) (x : Byte) : (d.setByte a x).tmrs = d.tmrs := rfl
@[simp] theorem setByte_pio (d : Dev) (a : Nat) (x : Byte) : (d.setByte a x).pio = d.pio := rfl

@[simp] theorem setLatch_regs (d : Dev) (who : Initiator) (a : Nat) (w : Word) : (d.setLatch who a w).regs = d.regs := rfl
@[simp] theorem setLatch_shadow (d : Dev) (who : Initiator) (a : Nat) (w : Word) : (d.setLatch who a w).shadow = d.shadow := rfl
@[simp] theorem setLatch_mem (d : Dev) (who : Initiator) (a : Nat) (w : Word) : (d.setLatch who a w).mem = d.mem := rfl
@[simp] theorem setLatch_freeCtr (d : Dev) (who : Initiator) (a : Nat) (w : Word) : (d.setLatch who a w).freeCtr = d.freeCtr := rfl
@[simp] theorem setLatch_port (d : Dev) (who : Initiator) (a : Nat) (w : Word) : (d.setLatch who a w).port = d.port := rfl
@[simp] theorem setLatch_supply (d : Dev) (who : Initiator) (a : Nat) (w : Word) : (d.setLatch who a w).supply = d.supply := rfl
@[simp] theorem setLatch_fcol (d : Dev) (who : Initiator) (a : Nat) (w : Word) : (d.setLatch who a w).fcol = d.fcol := rfl
@[simp] theorem setLatch_harts (d : Dev) (who : Initiator) (a : Nat) (w : Word) : (d.setLatch who a w).harts = d.harts := rfl
@[simp] theorem setLatch_intc (d : Dev) (who : Initiator) (a : Nat) (w : Word) : (d.setLatch who a w).intc = d.intc := rfl
@[simp] theorem setLatch_mons (d : Dev) (who : Initiator) (a : Nat) (w : Word) : (d.setLatch who a w).mons = d.mons := rfl
@[simp] theorem setLatch_trig (d : Dev) (who : Initiator) (a : Nat) (w : Word) : (d.setLatch who a w).trig = d.trig := rfl
@[simp] theorem setLatch_chans (d : Dev) (who : Initiator) (a : Nat) (w : Word) : (d.setLatch who a w).chans = d.chans := rfl
@[simp] theorem setLatch_taps (d : Dev) (who : Initiator) (a : Nat) (w : Word) : (d.setLatch who a w).taps = d.taps := rfl
@[simp] theorem setLatch_igns (d : Dev) (who : Initiator) (a : Nat) (w : Word) : (d.setLatch who a w).igns = d.igns := rfl
@[simp] theorem setLatch_soft (d : Dev) (who : Initiator) (a : Nat) (w : Word) : (d.setLatch who a w).soft = d.soft := rfl
@[simp] theorem setLatch_whls (d : Dev) (who : Initiator) (a : Nat) (w : Word) : (d.setLatch who a w).whls = d.whls := rfl
@[simp] theorem setLatch_sys (d : Dev) (who : Initiator) (a : Nat) (w : Word) : (d.setLatch who a w).sys = d.sys := rfl
@[simp] theorem setLatch_angs (d : Dev) (who : Initiator) (a : Nat) (w : Word) : (d.setLatch who a w).angs = d.angs := rfl
@[simp] theorem setLatch_preds (d : Dev) (who : Initiator) (a : Nat) (w : Word) : (d.setLatch who a w).preds = d.preds := rfl
@[simp] theorem setLatch_carv (d : Dev) (who : Initiator) (a : Nat) (w : Word) : (d.setLatch who a w).carv = d.carv := rfl
@[simp] theorem setLatch_drvs (d : Dev) (who : Initiator) (a : Nat) (w : Word) : (d.setLatch who a w).drvs = d.drvs := rfl
@[simp] theorem setLatch_banks (d : Dev) (who : Initiator) (a : Nat) (w : Word) : (d.setLatch who a w).banks = d.banks := rfl
@[simp] theorem setLatch_bsts (d : Dev) (who : Initiator) (a : Nat) (w : Word) : (d.setLatch who a w).bsts = d.bsts := rfl
@[simp] theorem setLatch_prof (d : Dev) (who : Initiator) (a : Nat) (w : Word) : (d.setLatch who a w).prof = d.prof := rfl
@[simp] theorem setLatch_trimQ (d : Dev) (who : Initiator) (a : Nat) (w : Word) : (d.setLatch who a w).trimQ = d.trimQ := rfl
@[simp] theorem setLatch_cyls (d : Dev) (who : Initiator) (a : Nat) (w : Word) : (d.setLatch who a w).cyls = d.cyls := rfl
@[simp] theorem setLatch_adcs (d : Dev) (who : Initiator) (a : Nat) (w : Word) : (d.setLatch who a w).adcs = d.adcs := rfl
@[simp] theorem setLatch_runs (d : Dev) (who : Initiator) (a : Nat) (w : Word) : (d.setLatch who a w).runs = d.runs := rfl
@[simp] theorem setLatch_knk (d : Dev) (who : Initiator) (a : Nat) (w : Word) : (d.setLatch who a w).knk = d.knk := rfl
@[simp] theorem setLatch_nls (d : Dev) (who : Initiator) (a : Nat) (w : Word) : (d.setLatch who a w).nls = d.nls := rfl
@[simp] theorem setLatch_fab (d : Dev) (who : Initiator) (a : Nat) (w : Word) : (d.setLatch who a w).fab = d.fab := rfl
@[simp] theorem setLatch_beac (d : Dev) (who : Initiator) (a : Nat) (w : Word) : (d.setLatch who a w).beac = d.beac := rfl
@[simp] theorem setLatch_sec (d : Dev) (who : Initiator) (a : Nat) (w : Word) : (d.setLatch who a w).sec = d.sec := rfl
@[simp] theorem setLatch_upd (d : Dev) (who : Initiator) (a : Nat) (w : Word) : (d.setLatch who a w).upd = d.upd := rfl
@[simp] theorem setLatch_mramc (d : Dev) (who : Initiator) (a : Nat) (w : Word) : (d.setLatch who a w).mramc = d.mramc := rfl
@[simp] theorem setLatch_oasis (d : Dev) (who : Initiator) (a : Nat) (w : Word) : (d.setLatch who a w).oasis = d.oasis := rfl
@[simp] theorem setLatch_jtag (d : Dev) (who : Initiator) (a : Nat) (w : Word) : (d.setLatch who a w).jtag = d.jtag := rfl
@[simp] theorem setLatch_dm (d : Dev) (who : Initiator) (a : Nat) (w : Word) : (d.setLatch who a w).dm = d.dm := rfl
@[simp] theorem setLatch_tmrs (d : Dev) (who : Initiator) (a : Nat) (w : Word) : (d.setLatch who a w).tmrs = d.tmrs := rfl
@[simp] theorem setLatch_pio (d : Dev) (who : Initiator) (a : Nat) (w : Word) : (d.setLatch who a w).pio = d.pio := rfl

@[simp] theorem tickFree_regs (d : Dev) : (d.tickFree).regs = d.regs := rfl
@[simp] theorem tickFree_shadow (d : Dev) : (d.tickFree).shadow = d.shadow := rfl
@[simp] theorem tickFree_latches (d : Dev) : (d.tickFree).latches = d.latches := rfl
@[simp] theorem tickFree_mem (d : Dev) : (d.tickFree).mem = d.mem := rfl
@[simp] theorem tickFree_port (d : Dev) : (d.tickFree).port = d.port := rfl
@[simp] theorem tickFree_supply (d : Dev) : (d.tickFree).supply = d.supply := rfl
@[simp] theorem tickFree_fcol (d : Dev) : (d.tickFree).fcol = d.fcol := rfl
@[simp] theorem tickFree_harts (d : Dev) : (d.tickFree).harts = d.harts := rfl
@[simp] theorem tickFree_intc (d : Dev) : (d.tickFree).intc = d.intc := rfl
@[simp] theorem tickFree_mons (d : Dev) : (d.tickFree).mons = d.mons := rfl
@[simp] theorem tickFree_trig (d : Dev) : (d.tickFree).trig = d.trig := rfl
@[simp] theorem tickFree_chans (d : Dev) : (d.tickFree).chans = d.chans := rfl
@[simp] theorem tickFree_taps (d : Dev) : (d.tickFree).taps = d.taps := rfl
@[simp] theorem tickFree_igns (d : Dev) : (d.tickFree).igns = d.igns := rfl
@[simp] theorem tickFree_soft (d : Dev) : (d.tickFree).soft = d.soft := rfl
@[simp] theorem tickFree_whls (d : Dev) : (d.tickFree).whls = d.whls := rfl
@[simp] theorem tickFree_sys (d : Dev) : (d.tickFree).sys = d.sys := rfl
@[simp] theorem tickFree_angs (d : Dev) : (d.tickFree).angs = d.angs := rfl
@[simp] theorem tickFree_preds (d : Dev) : (d.tickFree).preds = d.preds := rfl
@[simp] theorem tickFree_carv (d : Dev) : (d.tickFree).carv = d.carv := rfl
@[simp] theorem tickFree_drvs (d : Dev) : (d.tickFree).drvs = d.drvs := rfl
@[simp] theorem tickFree_banks (d : Dev) : (d.tickFree).banks = d.banks := rfl
@[simp] theorem tickFree_bsts (d : Dev) : (d.tickFree).bsts = d.bsts := rfl
@[simp] theorem tickFree_prof (d : Dev) : (d.tickFree).prof = d.prof := rfl
@[simp] theorem tickFree_trimQ (d : Dev) : (d.tickFree).trimQ = d.trimQ := rfl
@[simp] theorem tickFree_cyls (d : Dev) : (d.tickFree).cyls = d.cyls := rfl
@[simp] theorem tickFree_adcs (d : Dev) : (d.tickFree).adcs = d.adcs := rfl
@[simp] theorem tickFree_runs (d : Dev) : (d.tickFree).runs = d.runs := rfl
@[simp] theorem tickFree_knk (d : Dev) : (d.tickFree).knk = d.knk := rfl
@[simp] theorem tickFree_nls (d : Dev) : (d.tickFree).nls = d.nls := rfl
@[simp] theorem tickFree_fab (d : Dev) : (d.tickFree).fab = d.fab := rfl
@[simp] theorem tickFree_beac (d : Dev) : (d.tickFree).beac = d.beac := rfl
@[simp] theorem tickFree_sec (d : Dev) : (d.tickFree).sec = d.sec := rfl
@[simp] theorem tickFree_upd (d : Dev) : (d.tickFree).upd = d.upd := rfl
@[simp] theorem tickFree_mramc (d : Dev) : (d.tickFree).mramc = d.mramc := rfl
@[simp] theorem tickFree_oasis (d : Dev) : (d.tickFree).oasis = d.oasis := rfl
@[simp] theorem tickFree_jtag (d : Dev) : (d.tickFree).jtag = d.jtag := rfl
@[simp] theorem tickFree_dm (d : Dev) : (d.tickFree).dm = d.dm := rfl
@[simp] theorem tickFree_tmrs (d : Dev) : (d.tickFree).tmrs = d.tmrs := rfl
@[simp] theorem tickFree_pio (d : Dev) : (d.tickFree).pio = d.pio := rfl

@[simp] theorem setHart_regs (d : Dev) (h : Nat) (x : Hart) : (d.setHart h x).regs = d.regs := rfl
@[simp] theorem setHart_shadow (d : Dev) (h : Nat) (x : Hart) : (d.setHart h x).shadow = d.shadow := rfl
@[simp] theorem setHart_latches (d : Dev) (h : Nat) (x : Hart) : (d.setHart h x).latches = d.latches := rfl
@[simp] theorem setHart_mem (d : Dev) (h : Nat) (x : Hart) : (d.setHart h x).mem = d.mem := rfl
@[simp] theorem setHart_freeCtr (d : Dev) (h : Nat) (x : Hart) : (d.setHart h x).freeCtr = d.freeCtr := rfl
@[simp] theorem setHart_port (d : Dev) (h : Nat) (x : Hart) : (d.setHart h x).port = d.port := rfl
@[simp] theorem setHart_supply (d : Dev) (h : Nat) (x : Hart) : (d.setHart h x).supply = d.supply := rfl
@[simp] theorem setHart_fcol (d : Dev) (h : Nat) (x : Hart) : (d.setHart h x).fcol = d.fcol := rfl
@[simp] theorem setHart_intc (d : Dev) (h : Nat) (x : Hart) : (d.setHart h x).intc = d.intc := rfl
@[simp] theorem setHart_mons (d : Dev) (h : Nat) (x : Hart) : (d.setHart h x).mons = d.mons := rfl
@[simp] theorem setHart_trig (d : Dev) (h : Nat) (x : Hart) : (d.setHart h x).trig = d.trig := rfl
@[simp] theorem setHart_chans (d : Dev) (h : Nat) (x : Hart) : (d.setHart h x).chans = d.chans := rfl
@[simp] theorem setHart_taps (d : Dev) (h : Nat) (x : Hart) : (d.setHart h x).taps = d.taps := rfl
@[simp] theorem setHart_igns (d : Dev) (h : Nat) (x : Hart) : (d.setHart h x).igns = d.igns := rfl
@[simp] theorem setHart_soft (d : Dev) (h : Nat) (x : Hart) : (d.setHart h x).soft = d.soft := rfl
@[simp] theorem setHart_whls (d : Dev) (h : Nat) (x : Hart) : (d.setHart h x).whls = d.whls := rfl
@[simp] theorem setHart_sys (d : Dev) (h : Nat) (x : Hart) : (d.setHart h x).sys = d.sys := rfl
@[simp] theorem setHart_angs (d : Dev) (h : Nat) (x : Hart) : (d.setHart h x).angs = d.angs := rfl
@[simp] theorem setHart_preds (d : Dev) (h : Nat) (x : Hart) : (d.setHart h x).preds = d.preds := rfl
@[simp] theorem setHart_carv (d : Dev) (h : Nat) (x : Hart) : (d.setHart h x).carv = d.carv := rfl
@[simp] theorem setHart_drvs (d : Dev) (h : Nat) (x : Hart) : (d.setHart h x).drvs = d.drvs := rfl
@[simp] theorem setHart_banks (d : Dev) (h : Nat) (x : Hart) : (d.setHart h x).banks = d.banks := rfl
@[simp] theorem setHart_bsts (d : Dev) (h : Nat) (x : Hart) : (d.setHart h x).bsts = d.bsts := rfl
@[simp] theorem setHart_prof (d : Dev) (h : Nat) (x : Hart) : (d.setHart h x).prof = d.prof := rfl
@[simp] theorem setHart_trimQ (d : Dev) (h : Nat) (x : Hart) : (d.setHart h x).trimQ = d.trimQ := rfl
@[simp] theorem setHart_cyls (d : Dev) (h : Nat) (x : Hart) : (d.setHart h x).cyls = d.cyls := rfl
@[simp] theorem setHart_adcs (d : Dev) (h : Nat) (x : Hart) : (d.setHart h x).adcs = d.adcs := rfl
@[simp] theorem setHart_runs (d : Dev) (h : Nat) (x : Hart) : (d.setHart h x).runs = d.runs := rfl
@[simp] theorem setHart_knk (d : Dev) (h : Nat) (x : Hart) : (d.setHart h x).knk = d.knk := rfl
@[simp] theorem setHart_nls (d : Dev) (h : Nat) (x : Hart) : (d.setHart h x).nls = d.nls := rfl
@[simp] theorem setHart_fab (d : Dev) (h : Nat) (x : Hart) : (d.setHart h x).fab = d.fab := rfl
@[simp] theorem setHart_beac (d : Dev) (h : Nat) (x : Hart) : (d.setHart h x).beac = d.beac := rfl
@[simp] theorem setHart_sec (d : Dev) (h : Nat) (x : Hart) : (d.setHart h x).sec = d.sec := rfl
@[simp] theorem setHart_upd (d : Dev) (h : Nat) (x : Hart) : (d.setHart h x).upd = d.upd := rfl
@[simp] theorem setHart_mramc (d : Dev) (h : Nat) (x : Hart) : (d.setHart h x).mramc = d.mramc := rfl
@[simp] theorem setHart_oasis (d : Dev) (h : Nat) (x : Hart) : (d.setHart h x).oasis = d.oasis := rfl
@[simp] theorem setHart_jtag (d : Dev) (h : Nat) (x : Hart) : (d.setHart h x).jtag = d.jtag := rfl
@[simp] theorem setHart_dm (d : Dev) (h : Nat) (x : Hart) : (d.setHart h x).dm = d.dm := rfl
@[simp] theorem setHart_tmrs (d : Dev) (h : Nat) (x : Hart) : (d.setHart h x).tmrs = d.tmrs := rfl
@[simp] theorem setHart_pio (d : Dev) (h : Nat) (x : Hart) : (d.setHart h x).pio = d.pio := rfl

@[simp] theorem tickFree_freeCtr (d : Dev) : d.tickFree.freeCtr = d.freeCtr + 1 := rfl

/-! ## A device built of parts -/

@[simp] theorem reg_mk (r : SMap Word) (x1 : SMap Word) (x2 : SMap Word) (x3 : SMap Byte) (x4 : Nat) (x5 : Port) (x6 : Supply) (x7 : Fcol)
    (x8 : Vector Hart 3) (x9 : Intc) (x10 : Vector Mon 16) (x11 : TrigM) (x12 : Vector Chan 104) (x13 : Taps) (x14 : Vector Ign 24) (x15 :
    Soft) (x16 : Vector Whl 8) (x17 : Sys) (x18 : Vector Ang 2) (x19 : Vector Pred 2) (x20 : Carv) (x21 : Vector Drv 48) (x22 : Vector Bank
    12) (x23 : Vector Bst 2) (x24 : ProfStore) (x25 : List (Nat × Int)) (x26 : Vector Cyl 24) (x27 : Vector Adc 8) (x28 : Vector Run 32)
    (x29 : Knk) (x30 : Vector Nl 4) (x31 : Fab) (x32 : Beac) (x33 : Sec) (x34 : Upd) (x35 : Mramc) (x36 : Oasis) (x37 : Jtag) (x38 : Dm)
    (x39 : Vector Tmr 32) (x40 : Vector Pio 8) (a : Nat) : (Dev.mk r x1 x2 x3 x4 x5 x6 x7 x8 x9 x10 x11 x12 x13 x14 x15 x16 x17 x18 x19 x20
    x21 x22 x23 x24 x25 x26 x27 x28 x29 x30 x31 x32 x33 x34 x35 x36 x37 x38 x39 x40).reg a = (smGet r a).getD (resetWord a) := rfl

@[simp] theorem get_mk (r : SMap Word) (x1 : SMap Word) (x2 : SMap Word) (x3 : SMap Byte) (x4 : Nat) (x5 : Port) (x6 : Supply) (x7 : Fcol)
    (x8 : Vector Hart 3) (x9 : Intc) (x10 : Vector Mon 16) (x11 : TrigM) (x12 : Vector Chan 104) (x13 : Taps) (x14 : Vector Ign 24) (x15 :
    Soft) (x16 : Vector Whl 8) (x17 : Sys) (x18 : Vector Ang 2) (x19 : Vector Pred 2) (x20 : Carv) (x21 : Vector Drv 48) (x22 : Vector Bank
    12) (x23 : Vector Bst 2) (x24 : ProfStore) (x25 : List (Nat × Int)) (x26 : Vector Cyl 24) (x27 : Vector Adc 8) (x28 : Vector Run 32)
    (x29 : Knk) (x30 : Vector Nl 4) (x31 : Fab) (x32 : Beac) (x33 : Sec) (x34 : Upd) (x35 : Mramc) (x36 : Oasis) (x37 : Jtag) (x38 : Dm)
    (x39 : Vector Tmr 32) (x40 : Vector Pio 8) (f : Fld) : (Dev.mk r x1 x2 x3 x4 x5 x6 x7 x8 x9 x10 x11 x12 x13 x14 x15 x16 x17 x18 x19 x20
    x21 x22 x23 x24 x25 x26 x27 x28 x29 x30 x31 x32 x33 x34 x35 x36 x37 x38 x39 x40).get f = wordGet ((smGet r f.addr).getD (resetWord
    f.addr)) f.hi f.lo := rfl

@[simp] theorem reg_regs (d : Dev) (a : Nat) : (smGet d.regs a).getD (resetWord a) = d.reg a := rfl
@[simp] theorem get_reg (d : Dev) (f : Fld) : wordGet (d.reg f.addr) f.hi f.lo = d.get f := rfl

/-! ## The state after a command -/

@[simp] theorem after_now (s : State) (t : Nat) (d : Dev) : (s.after t d).now = s.clock t := rfl
@[simp] theorem after_pending (s : State) (t : Nat) (d : Dev) : (s.after t d).pending = s.pending := rfl

end Sys2Proof.Machine
end

