-- ==== Sys2Proof/Laws/Access.lean ====
section
/-!
SUPPORT. Laws/Access.lean: register accesses that are granted: what a write or a read of a register comes to when its page is not restarting
and its initiator may make it (R52, R55).
-/

namespace Sys2Proof.Machine

/-- Address `a` is that of a register of page p of block b, index i of its array, beyond the common registers, and no field of it is RWL. -/
def regAt (a : Nat) (b : Blk) (p i : Nat) : Bool :=
  isPageAddr a && decide (a % 4 = 0) && decide (pageInfo (pageOf a) = some (b, p)) && decide (0x40 ≤ a % 0x1000) &&
    (match rowAt b p (a % 0x1000) with
     | some (row, j) => decide (j = i) && decide (rwlMask row.fields = 0)
     | none => false) && (decide (b ≠ .cmb) || decide (a < R.CMB_VD 0) || decide (R.CMB_VD 7 < a))

/-- An access touches the monitors and the free-value counter only. -/
theorem access_same (d : Dev) (now : Nat) (who : Initiator) : SameButMon d (d.access now who) :=
  (tickFree_same d).trans (probe_same _ _ _ _ _)

theorem not_monReach (a : Nat) (h : (a < 0x400D0000 ∧ a ≠ R.INTC_CNT) ∨ (0x400E0000 ≤ a) ∨ (a % 0x1000 < 0x100 ∧ a % 0x1000 ≠ 0x10 ∧ a % 0x1000 ≠ 0x1C ∧
    a ≠ R.FCOL_CNT_C ∧ a ≠ R.INTC_CNT)) : ¬ monReach a := by
  unfold monReach R.PFLT R.PIRQ P.FCOL R.FCOL_CNT_C R.INTC_CNT
  unfold R.FCOL_CNT_C R.INTC_CNT at h
  omega

theorem access_reg (d : Dev) (now : Nat) (who : Initiator) (a : Nat) (h : ¬ monReach a) : (d.access now who).reg a = d.reg a :=
  (access_same d now who).2 a h
theorem access_restarting (d : Dev) (now : Nat) (who : Initiator) (pg : Nat) : (d.access now who).restarting pg = d.restarting pg := by
  unfold Dev.restarting Dev.flag Dev.get F.PSTAT_RESTARTING
  rw [access_reg]
  exact not_monReach _ (by unfold R.PSTAT R.FCOL_CNT_C R.INTC_CNT; dsimp only; omega)
theorem access_pacc (d : Dev) (now : Nat) (who who' : Initiator) (pg : Nat) : (d.access now who).pacc who' pg = d.pacc who' pg := by
  have h : (d.access now who).reg (R.PACC pg) = d.reg (R.PACC pg) :=
    access_reg _ _ _ _ (not_monReach _ (by unfold R.PACC R.FCOL_CNT_C R.INTC_CNT; omega))
  unfold Dev.pacc
  cases who' <;> simp only [h]
theorem access_target (d : Dev) (now : Nat) (who : Initiator) (s : Nat) (h : s < 1024) : (d.access now who).target s = d.target s := by
  unfold Dev.target Dev.get
  rw [access_reg]
  refine not_monReach _ (.inl ?_)
  unfold F.INTC_SRC_CFG_TARGET R.INTC_SRC_CFG R.INTC_CNT
  dsimp only
  omega
theorem access_mode (d : Dev) (now : Nat) (who : Initiator) : (d.access now who).mode = d.mode := by
  unfold Dev.mode Dev.get
  rw [access_reg]
  exact not_monReach _ (.inl (by decide))
theorem access_mayWrite (d : Dev) (now : Nat) (who who' : Initiator) (a : Nat) (v : Word) :
    (d.access now who).mayWrite who' a v = d.mayWrite who' a v := by
  unfold Dev.mayWrite Dev.supOnly Dev.srcSupOnly
  simp only [access_pacc, access_mode]
  by_cases h : pageOf a ≤ 0xB4
  · rw [access_target _ _ _ _ (by omega)]
  · simp only [decide_eq_false h, Bool.and_false, Bool.false_and]

theorem wr_of_page {d e : Dev} {now : Nat} {who : Initiator} {a : Nat} {v : Word} (h1 : isPageAddr a = true) (h2 : a % 4 = 0)
    (hp : (d.access now who).pageWrite now who a v = (e, .ok)) : d.wr now who a v = e.result .ok := by
  unfold Dev.wr Dev.busWrite Dev.wordWrite
  rw [if_pos h1, if_pos h2, hp]

/-- What a masked or cleared request changes (R386). -/
theorem maskOne_both (old d : Dev) (h : Nat) :
    (old.maskOne d h).rest = d.rest ∧ ∀ a, a ≠ R.INTC_CNT → (old.maskOne d h).reg a = d.reg a := by
  unfold Dev.maskOne
  split
  · split
    · exact ⟨rfl, fun _ _ => rfl⟩
    · exact ⟨incSat_rest _ _, fun a ha => reg_incSat_ne _ _ _ ha⟩
  · exact ⟨rfl, fun _ _ => rfl⟩
theorem maskSettle_rest (old d : Dev) : (Dev.maskSettle old d).rest = d.rest := by
  unfold Dev.maskSettle
  rw [intcRefresh_rest, (maskOne_both _ _ _).1, (maskOne_both _ _ _).1, (maskOne_both _ _ _).1]
theorem maskSettle_reg (old d : Dev) (a : Nat) (ha : a ≠ R.INTC_CNT) : (Dev.maskSettle old d).reg a = d.reg a := by
  unfold Dev.maskSettle
  rw [intcRefresh_reg _ _ ha, (maskOne_both _ _ _).2 a ha, (maskOne_both _ _ _).2 a ha, (maskOne_both _ _ _).2 a ha]

/-- The word plays no part in the permission outside the pages of the interrupt sources. -/
theorem mayWrite_any (d : Dev) (who : Initiator) (a : Nat) (v w : Word) (h : pageOf a < 0xB1 ∨ 0xB4 < pageOf a) :
    d.mayWrite who a v = d.mayWrite who a w := by
  unfold Dev.mayWrite Dev.supOnly
  rcases h with h | h
  · simp only [show ¬ 0xB1 ≤ pageOf a by omega, decide_false, Bool.false_and]
  · simp only [show ¬ pageOf a ≤ 0xB4 by omega, decide_false, Bool.false_and, Bool.and_false]

/-- A granted write of a block's register is the block's write, and its initiator sees it done. -/
theorem wr_granted (d : Dev) (now : Nat) (who : Initiator) (a : Nat) (v : Word) (b : Blk) (p i : Nat)
    (ha : regAt a b p i = true) (hr : d.restarting (pageOf a) = false) (hw : d.mayWrite who a v = true) :
    ∃ row, rowAt b p (a % 0x1000) = some (row, i) ∧
      d.wr now who a v = ((d.access now who).blockWrite now who b p a row i v).result .ok := by
  simp only [regAt, Bool.and_eq_true, decide_eq_true_eq] at ha
  obtain ⟨⟨⟨⟨⟨h1, h2⟩, h3⟩, h4⟩, h5⟩, h7⟩ := ha
  split at h5
  · rename_i row j hrow
    simp only [Bool.and_eq_true, decide_eq_true_eq] at h5
    obtain ⟨rfl, h6⟩ := h5
    refine ⟨row, hrow, wr_of_page h1 h2 ?_⟩
    have hr' := (access_restarting d now who (pageOf a)).trans hr
    have hw' := (access_mayWrite d now who who a v).trans hw
    have hc : ¬ (b = .cmb ∧ R.CMB_VD 0 ≤ a ∧ a ≤ R.CMB_VD 7 ∧ (d.access now who).vtabBusy j = true) := by
      rintro ⟨hb, x, y, _⟩
      simp only [hb, Bool.or_eq_true, decide_eq_true_eq, ne_eq, not_true_eq_false, false_or] at h7
      omega
    generalize d.access now who = e at *
    have e2 : ∀ x : Word, x &&& 0 = 0 := fun x => BitVec.and_zero
    have e3 : ∀ x : Word, x ||| 0 = x := fun x => BitVec.or_zero
    have e1 : v &&& ~~~(0 : Word) = v := by rw [show ~~~(0 : Word) = BitVec.allOnes 32 from rfl, BitVec.and_allOnes]
    unfold Dev.pageWrite
    simp only [h3, hr', hw', hrow, h6, if_neg hc, show ¬ a % 0x1000 < 0x40 by omega, Bool.false_eq_true, false_and, if_false, Bool.not_true,
      ite_self, e1, e2, e3, if_true]
  · cases h5

/-- The initiator has the page unlocked: the RWL fields take its writes too (R55, R57). -/
theorem access_unlocked (d : Dev) (now : Nat) (who who' : Initiator) (pg : Nat) : (d.access now who).unlocked who' pg = d.unlocked who' pg := by
  unfold Dev.unlocked Dev.flag Dev.get
  have h : ∀ f : Fld, f.addr = R.PLOCK pg → (d.access now who).reg f.addr = d.reg f.addr := by
    intro f hf
    rw [hf]
    exact access_reg _ _ _ _ (not_monReach _ (by unfold R.PLOCK R.FCOL_CNT_C R.INTC_CNT; omega))
  rw [h (F.PLOCK_UNLOCKED pg) rfl, h (F.PLOCK_OWNER pg) rfl]

/-- A granted write of a register with RWL fields, its page unlocked by the initiator, is the block's write. -/
theorem wr_unlocked (d : Dev) (now : Nat) (who : Initiator) (a : Nat) (v : Word) (b : Blk) (p i : Nat) (row : RRow)
    (h1 : isPageAddr a = true) (h2 : a % 4 = 0) (h3 : pageInfo (pageOf a) = some (b, p)) (h4 : 0x40 ≤ a % 0x1000)
    (hrow : rowAt b p (a % 0x1000) = some (row, i)) (hb : b ≠ .cmb)
    (hr : d.restarting (pageOf a) = false) (hw : d.mayWrite who a v = true) (hu : d.unlocked who (pageOf a) = true) :
    d.wr now who a v = ((d.access now who).blockWrite now who b p a row i v).result .ok := by
  refine wr_of_page h1 h2 ?_
  have hr' := (access_restarting d now who (pageOf a)).trans hr
  have hw' := (access_mayWrite d now who who a v).trans hw
  have hu' := (access_unlocked d now who who (pageOf a)).trans hu
  generalize d.access now who = e at *
  have e2 : ∀ x : Word, x &&& 0 = 0 := fun x => BitVec.and_zero
  have e3 : ∀ x : Word, x ||| 0 = x := fun x => BitVec.or_zero
  have e1 : v &&& ~~~(0 : Word) = v := by rw [show ~~~(0 : Word) = BitVec.allOnes 32 from rfl, BitVec.and_allOnes]
  unfold Dev.pageWrite
  simp only [h3, hr', hw', hu', hrow, show ¬ a % 0x1000 < 0x40 by omega, Bool.false_eq_true, false_and, if_false, Bool.not_true,
    e1, e2, e3, if_true, hb]

/-- A granted write of a common register (R46). -/
theorem wr_common (d : Dev) (now : Nat) (who : Initiator) (a : Nat) (v : Word) (b : Blk) (p : Nat)
    (h1 : isPageAddr a = true) (h2 : a % 4 = 0) (h3 : pageInfo (pageOf a) = some (b, p)) (h4 : a % 0x1000 < 0x40)
    (hr : d.restarting (pageOf a) = false ∨ a % 0x1000 = 8) (hw : d.mayWrite who a v = true) :
    d.wr now who a v = ((d.access now who).commonWrite now who b p (pageOf a) (a % 0x1000) v).result .ok := by
  refine wr_of_page h1 h2 ?_
  have hr' : ¬ ((d.access now who).restarting (pageOf a) = true ∧ a % 0x1000 ≠ 8) := by
    rintro ⟨x, y⟩
    rw [access_restarting] at x
    rcases hr with hr | hr
    · rw [x] at hr; cases hr
    · exact y hr
  have hw' := (access_mayWrite d now who who a v).trans hw
  generalize d.access now who = e at *
  unfold Dev.pageWrite
  simp only [h3, if_neg hr', hw', Bool.not_true, Bool.false_eq_true, if_false]
  rw [if_pos h4]

/-- A granted write whose block write is `f`. -/
theorem after_wr (s : State) (t : Nat) (who : Initiator) (a : Nat) (v : Word) (b : Blk) (p i : Nat) (f : Dev → Dev)
    (ha : regAt a b p i = true) (hv : pageOf a < 0xB1 ∨ 0xB4 < pageOf a) (h : Granted s who a)
    (he : ∀ row (d : Dev), rowAt b p (a % 0x1000) = some (row, i) → d.blockWrite (s.clock t) who b p a row i v = f d) :
    s.after t (s.dev.wr (s.clock t) who a v) = s.wrote t who f := by
  obtain ⟨row, hr, e⟩ := wr_granted s.dev (s.clock t) who a v b p i ha h.1 ((mayWrite_any _ _ _ _ _ hv).trans h.2)
  simp only [State.wrote, e, he row _ hr]
/-- A granted write that sets bits: the word written repeats the kept fields. -/
theorem after_wrBits (s : State) (t : Nat) (who : Initiator) (a : Nat) (m k : Word) (b : Blk) (p i : Nat) (f : Dev → Dev)
    (ha : regAt a b p i = true) (hv : pageOf a < 0xB1 ∨ 0xB4 < pageOf a) (hk : keepMask a = k) (h : Granted s who a)
    (he : ∀ row (d : Dev), rowAt b p (a % 0x1000) = some (row, i) → d.blockWrite (s.clock t) who b p a row i (s.dev.reg a &&& k ||| m) = f d) :
    s.after t (s.dev.wrBits (s.clock t) who a m) = s.wrote t who f := by
  unfold Dev.wrBits Dev.repeated
  rw [hk]
  exact after_wr s t who a _ b p i f ha hv h he

/-- The address of a common register: page `pg`, offset `o`. -/
theorem common_addr (pg o : Nat) (h : pg < 256) (ho : o < 0x40) (h4 : o % 4 = 0) (hi : (pageInfo pg).isSome = true) :
    isPageAddr (0x40000000 + 0x1000 * pg + o) = true ∧ (0x40000000 + 0x1000 * pg + o) % 4 = 0 ∧
      pageOf (0x40000000 + 0x1000 * pg + o) = pg ∧ (0x40000000 + 0x1000 * pg + o) % 0x1000 = o := by
  have hp : pageOf (0x40000000 + 0x1000 * pg + o) = pg := by unfold pageOf; omega
  refine ⟨?_, by omega, hp, by omega⟩
  unfold isPageAddr
  rw [hp, hi]
  simp only [Bool.and_true, Bool.and_eq_true, decide_eq_true_eq]
  omega
/-- A granted command on a common register. -/
theorem after_common (s : State) (t : Nat) (who : Initiator) (pg o : Nat) (v : Word) (b : Blk) (p : Nat)
    (h : pg < 256) (ho : o < 0x40) (h4 : o % 4 = 0) (hi : pageInfo pg = some (b, p))
    (hr : s.dev.restarting pg = false ∨ o = 8) (hw : s.dev.mayWrite who (0x40000000 + 0x1000 * pg + o) 0 = true) :
    s.after t (s.dev.wr (s.clock t) who (0x40000000 + 0x1000 * pg + o) v) = s.wrote t who (fun d => d.commonWrite (s.clock t) who b p pg o v) := by
  obtain ⟨a1, a2, a3, a4⟩ := common_addr pg o h ho h4 (by rw [hi]; rfl)
  have hw' : s.dev.mayWrite who (0x40000000 + 0x1000 * pg + o) v = true := by
    revert hw
    unfold Dev.mayWrite Dev.supOnly
    simp only [a4, show ¬ 0x400 ≤ o by omega, decide_false, Bool.and_false, Bool.false_and]
    exact id
  have e := wr_common s.dev (s.clock t) who _ v b p a1 a2 (by rw [a3, hi]) (by rw [a4]; exact ho) (by rw [a3, a4]; exact hr) hw'
  rw [a3, a4] at e
  simp only [State.wrote, e]

/-- A read of a register is answered with its word. -/
theorem readBack_page (d : Dev) (now : Nat) (who : Initiator) (a : Nat) (h1 : isPageAddr a = true) (h2 : a % 4 = 0)
    (hr : d.restarting (pageOf a) = false) :
    d.readBack now who a = (((d.access now who).regRead now who a).1).readResult ((d.access now who).regRead now who a).2 .ok := by
  unfold Dev.readBack Dev.busRead
  simp only [h1, h2, hr, Bool.false_and, if_true, Bool.false_eq_true, if_false, ne_eq, not_true_eq_false, and_false]

/-- What a read of a block's register comes to. -/
theorem regRead_row (d : Dev) (now : Nat) (who : Initiator) (a : Nat) (b : Blk) (p i : Nat)
    (ha : regAt a b p i = true) (hr : d.restarting (pageOf a) = false) :
    ∃ row, rowAt b p (a % 0x1000) = some (row, i) ∧ d.regRead now who a =
      (let d1 := ((if b = .pio then d.pioSettle now p else d).readLatch now who b p a)
       match d1.view now who b p a i with
       | some r => r
       | none => (d1, if latched a b p then d1.latch who a else if a = R.SYS_SAFEACK then d1.reg a else readMask row (d1.reg a))) := by
  simp only [regAt, Bool.and_eq_true, decide_eq_true_eq] at ha
  obtain ⟨⟨⟨⟨⟨h1, h2⟩, h3⟩, h4⟩, h5⟩, h7⟩ := ha
  split at h5
  · rename_i row j hrow
    simp only [Bool.and_eq_true, decide_eq_true_eq] at h5
    obtain ⟨rfl, h6⟩ := h5
    refine ⟨row, hrow, ?_⟩
    unfold Dev.regRead
    simp only [h3, hr, hrow, show ¬ a % 0x1000 = 8 by omega, show ¬ a % 0x1000 = 0xC by omega, show ¬ a % 0x1000 < 0x40 by omega, if_false,
      Bool.false_eq_true]
    all_goals rfl
  · cases h5

end Sys2Proof.Machine
end

