-- ==== Sys2Proof/Laws/Exec.lean ====
section
/-!
SUPPORT. Laws/Exec.lean: for every command, its meaning as an equation: the state after it in terms of the shared operations.
-/

namespace Sys2Proof.Machine

theorem exec_angEnable (t : Nat) (who : Initiator) (k : Fin 2) (s : State) :
    exec (.angEnable t who k) s = s.run t (fun now d => d.wrPctl now who (P.ANG k) 0 true) := rfl
theorem exec_gapNotfound (t : Nat) (k : Fin 2) (s : State) :
    exec (.gapNotfound t k) s = s.run t (fun _ d => d.gapNotFound k) := rfl
theorem exec_phaseUnknown (t : Nat) (k : Fin 2) (s : State) :
    exec (.phaseUnknown t k) s = s.run t (fun now d => d.phaseUnknown now k) := rfl
theorem exec_camLost (t : Nat) (k : Fin 2) (c : Fin 3) (s : State) :
    exec (.camLost t k c) s = s.run t (fun now d => d.camLostEv now k c) := rfl
theorem exec_primLost (t : Nat) (k : Fin 2) (cur : Nat) (s : State) :
    exec (.primLost t k cur) s = s.run t (fun now d => d.primLost now k cur) := rfl
theorem exec_stall (t : Nat) (k : Fin 2) (s : State) :
    exec (.stall t k) s = s.run t (fun now d => d.stall now k) := rfl
theorem exec_swDrop (t : Nat) (who : Initiator) (k : Fin 2) (s : State) :
    exec (.swDrop t who k) s = s.run t (fun now d => d.wrBits now who (R.ANG_CTL k) 2) := rfl
theorem exec_reacq (t : Nat) (who : Initiator) (k : Fin 2) (s : State) :
    exec (.reacq t who k) s = s.run t (fun now d => d.wrBits now who (R.ANG_CTL k) 1) := rfl
theorem exec_angClr (t : Nat) (who : Initiator) (k : Fin 2) (s : State) :
    exec (.angClr t who k) s = s.run t (fun now d => d.wrBits now who (R.ANG_CTL k) 4) := rfl
theorem exec_angPosRead (t : Nat) (who : Initiator) (k : Fin 2) (s : State) :
    exec (.angPosRead t who k) s = s.run t (fun now d => d.readBack now who (R.ANG_POS k)) := rfl
theorem exec_holdLimit (t : Nat) (k : Fin 2) (s : State) :
    exec (.holdLimit t k) s = s.run t (fun now d => d.holdLimit now k) := rfl
theorem exec_predAngleRead (t : Nat) (who : Initiator) (k : Fin 2) (s : State) :
    exec (.predAngleRead t who k) s = s.run t (fun now d => d.readBack now who (R.PRED_ANGLE k)) := rfl
theorem exec_predTkLoRead (t : Nat) (who : Initiator) (k : Fin 2) (s : State) :
    exec (.predTkLoRead t who k) s = s.run t (fun now d => d.readBack now who (R.PRED_TK_LO k)) := rfl
theorem exec_duneReset (t : Nat) (who : Initiator) (k : Fin 2) (s : State) :
    exec (.duneReset t who k) s = s.run t (fun now d => d.wrBits now who (R.PRED_CTL k) 2) := rfl
theorem exec_predClr (t : Nat) (who : Initiator) (k : Fin 2) (s : State) :
    exec (.predClr t who k) s = s.run t (fun now d => d.wrBits now who (R.PRED_CTL k) 1) := rfl
theorem exec_duneProfileWrite (t : Nat) (who : Initiator) (k : Fin 2) (entry : Fin 512) (w : Fin 2) (v : Word) (s : State) :
    exec (.duneProfileWrite t who k entry w v) s = s.run t (fun now d => d.wr now who (0x41008000 + 0x1000 * k.val + 8 * entry.val + 4 * w.val) (v)) := rfl
theorem exec_armRingEntry (t : Nat) (r : Fin 8) (err : Fin 3) (s : State) :
    exec (.armRingEntry t r err) s = s.run t (fun now d => d.armEntry now r err) := rfl
theorem exec_directArmSubmit (t : Nat) (who : Initiator) (w3 : Word) (s : State) :
    exec (.directArmSubmit t who w3) s = s.run t (fun now d => d.wr now who (R.CARV_DARM_W 3) (w3)) := rfl
theorem exec_armRingResume (t : Nat) (r : Fin 8) (s : State) :
    exec (.armRingResume t r) s = s.run t (fun now d => d.armResume now r) := rfl
theorem exec_leadCommit (t : Nat) (slot : Fin 256) (s : State) :
    exec (.leadCommit t slot) s = s.run t (fun now d => d.leadCheck now slot) := rfl
theorem exec_cancel (t : Nat) (who : Initiator) (w : Word) (s : State) :
    exec (.cancel t who w) s = s.run t (fun now d => d.wr now who (R.CARV_CANCEL) (w)) := rfl
theorem exec_flush0 (t : Nat) (who : Initiator) (s : State) :
    exec (.flush0 t who) s = s.run t (fun now d => d.wrBits now who (R.CARV_CTL) 1) := rfl
theorem exec_flush1 (t : Nat) (who : Initiator) (s : State) :
    exec (.flush1 t who) s = s.run t (fun now d => d.wrBits now who (R.CARV_CTL) 2) := rfl
theorem exec_carvClr (t : Nat) (who : Initiator) (s : State) :
    exec (.carvClr t who) s = s.run t (fun now d => d.wrBits now who (R.CARV_CTL) 4) := rfl
theorem exec_carvInspSelWrite (t : Nat) (who : Initiator) (w : Word) (s : State) :
    exec (.carvInspSelWrite t who w) s = s.run t (fun now d => d.wr now who (R.CARV_INSP_SEL) (w)) := rfl
theorem exec_reservationWrite (t : Nat) (who : Initiator) (idx : Fin 4) (w : Word) (s : State) :
    exec (.reservationWrite t who idx w) s = s.run t (fun now d => d.wr now who (R.CARV_RES idx) (w)) := rfl
theorem exec_trimUpdate (t : Nat) (s : State) :
    exec (.trimUpdate t) s = s.run t (fun now d => d.trimUpdate now) := rfl
theorem exec_edgeRelease (t : Nat) (chan : Fin 104) (cur : Nat) (s : State) :
    exec (.edgeRelease t chan cur) s = s.run t (fun now d => d.edgeRelease now chan cur) := rfl
theorem exec_placerHandover (t : Nat) (chan : Fin 104) (s : State) :
    exec (.placerHandover t chan) s = s.run t (fun now d => d.handover now chan) := rfl
theorem exec_tapSelWrite (t : Nat) (who : Initiator) (n : Fin 32) (sel : Fin 8) (s : State) :
    exec (.tapSelWrite t who n sel) s = s.run t (fun now d => d.wrField now who (F.TAPC_CFG_SEL n) sel) := rfl
theorem exec_trigSw (t : Nat) (who : Initiator) (mask : Word) (s : State) :
    exec (.trigSw t who mask) s = s.run t (fun now d => d.wr now who (R.TRIG_SW) (mask)) := rfl
theorem exec_trigClr (t : Nat) (who : Initiator) (s : State) :
    exec (.trigClr t who) s = s.run t (fun now d => d.wrBits now who (R.TRIG_CTL) 1) := rfl
theorem exec_dwellMax (t : Nat) (n : Fin 24) (s : State) :
    exec (.dwellMax t n) s = s.run t (fun now d => d.dwellMax now n) := rfl
theorem exec_softOffRise (t : Nat) (s : State) :
    exec (.softOffRise t) s = s.run t (fun now d => d.softRise now) := rfl
theorem exec_softOffFall (t : Nat) (s : State) :
    exec (.softOffFall t) s = s.run t (fun now d => d.softFall now) := rfl
theorem exec_softOffEnd (t : Nat) (s : State) :
    exec (.softOffEnd t) s = s.run t (fun now d => d.softEnd now) := rfl
theorem exec_ignFeedbackEdge (t : Nat) (n : Fin 24) (lvl : Bool) (s : State) :
    exec (.ignFeedbackEdge t n lvl) s = s.run t (fun now d => d.ignFeedback now n lvl) := rfl
theorem exec_ignNochg (t : Nat) (n : Fin 24) (s : State) :
    exec (.ignNochg t n) s = s.run t (fun now d => d.ignNochgTimeout now n) := rfl
theorem exec_ignStuck (t : Nat) (n : Fin 24) (s : State) :
    exec (.ignStuck t n) s = s.run t (fun now d => d.ignStuck now n) := rfl
theorem exec_ignUninh (t : Nat) (who : Initiator) (n : Fin 24) (s : State) :
    exec (.ignUninh t who n) s = s.run t (fun now d => d.wrBits now who (R.IGN_CTL n) 2) := rfl
theorem exec_ignClr (t : Nat) (who : Initiator) (n : Fin 24) (s : State) :
    exec (.ignClr t who n) s = s.run t (fun now d => d.wrBits now who (R.IGN_CTL n) 1) := rfl
theorem exec_ignLastLoRead (t : Nat) (who : Initiator) (n : Fin 24) (s : State) :
    exec (.ignLastLoRead t who n) s = s.run t (fun now d => d.readBack now who (R.IGN_LAST_LO n)) := rfl
theorem exec_interruptEntry (t : Nat) (h : Fin 3) (pc : Word) (user : Bool) (mie : Bool) (s : State) :
    exec (.interruptEntry t h pc user mie) s = s.run t (fun now d => d.interruptEntry now h pc user mie) := rfl
theorem exec_mxeoiWrite (t : Nat) (h : Fin 3) (pc : Word) (user : Bool) (mie : Bool) (s : State) :
    exec (.mxeoiWrite t h pc user mie) s = s.run t (fun _ d => d.mxeoi h pc user mie) := rfl
theorem exec_scrubRead (t : Nat) (m : Fin 4) (addr : Word) (err : Fin 3) (s : State) :
    exec (.scrubRead t m addr err) s = s.run t (fun _ d => d.scrubRead m addr.toNat err) := rfl
theorem exec_coreScrubClr (t : Nat) (who : Initiator) (h : Fin 3) (s : State) :
    exec (.coreScrubClr t who h) s = s.run t (fun now d => d.wrBits now who (R.CORE_SCRUB h) 2) := rfl
theorem exec_ringIndexWrite (t : Nat) (who : Initiator) (r : Fin 32) (v : Word) (s : State) :
    exec (.ringIndexWrite t who r v) s = s.run t (fun now d => d.wr now who (if ringDevice r then R.RING_TAIL r else R.RING_HEAD r) (v)) := rfl
theorem exec_ringEnableWrite (t : Nat) (who : Initiator) (r : Fin 32) (on : Bool) (s : State) :
    exec (.ringEnableWrite t who r on) s = s.run t (fun now d => d.wrField now who (F.RING_CFG_EN r) on.toNat) := rfl
theorem exec_ringRequest (t : Nat) (k : Fin 8) (s : State) :
    exec (.ringRequest t k) s = s.run t (fun now d => d.ringRequest now k) := rfl
theorem exec_ringScrubClr (t : Nat) (who : Initiator) (s : State) :
    exec (.ringScrubClr t who) s = s.run t (fun now d => d.wrBits now who (R.RING_SCRUB) 2) := rfl
theorem exec_intcSwi (t : Nat) (who : Initiator) (w : Word) (s : State) :
    exec (.intcSwi t who w) s = s.run t (fun now d => d.wr now who (R.INTC_SWI) (w)) := rfl
theorem exec_intcPendClear (t : Nat) (who : Initiator) (j : Fin 4) (w : Fin 4) (bits : Word) (s : State) :
    exec (.intcPendClear t who j w bits) s = s.run t (fun now d => d.wr now who (R.INTC_PEND j w) (bits)) := rfl
theorem exec_intcSourceCfgWrite (t : Nat) (who : Initiator) (src : Fin 512) (vec : Bool) (v : Word) (s : State) :
    exec (.intcSourceCfgWrite t who src vec v) s = s.run t (fun now d => d.wr now who (if vec then R.INTC_SRC_VEC src else R.INTC_SRC_CFG src) (v)) := rfl
theorem exec_intcClaim (t : Nat) (who : Initiator) (n : Fin 4) (s : State) :
    exec (.intcClaim t who n) s = s.run t (fun now d => d.readBack now who (R.INTC_CLAIM n)) := rfl
theorem exec_intcComplete (t : Nat) (who : Initiator) (n : Fin 4) (src : Fin 512) (s : State) :
    exec (.intcComplete t who n src) s = s.run t (fun now d => d.wr now who (R.INTC_COMPLETE n) (w32 src)) := rfl
theorem exec_debugHalt (t : Nat) (h : Fin 3) (pc : Word) (s : State) :
    exec (.debugHalt t h pc) s = s.run t (fun _ d => d.debugHalt h pc) := rfl
theorem exec_debugResume (t : Nat) (h : Fin 3) (s : State) :
    exec (.debugResume t h) s = s.run t (fun _ d => d.debugResume h) := rfl
theorem exec_debugStep (t : Nat) (h : Fin 3) (pc : Word) (user : Bool) (mie : Bool) (s : State) :
    exec (.debugStep t h pc user mie) s = s.run t (fun _ d => d.debugStep h pc user mie) := rfl
theorem exec_bankAdmit (t : Nat) (b : Fin 12) (cur : Nat) (s : State) :
    exec (.bankAdmit t b cur) s = s.run t (fun now d => d.bankAdmit now b cur) := rfl
theorem exec_startTolerance (t : Nat) (n : Fin 48) (s : State) :
    exec (.startTolerance t n) s = s.run t (fun now d => d.startTolerance now n) := rfl
theorem exec_bankWaitDrop (t : Nat) (n : Fin 48) (s : State) :
    exec (.bankWaitDrop t n) s = s.run t (fun now d => d.bankWaitDrop now n) := rfl
theorem exec_bnrReady (t : Nat) (n : Fin 48) (cur : Nat) (s : State) :
    exec (.bnrReady t n cur) s = s.run t (fun now d => d.bnrReady now n cur) := rfl
theorem exec_bnrWaitExpiry (t : Nat) (n : Fin 48) (s : State) :
    exec (.bnrWaitExpiry t n) s = s.run t (fun now d => d.bnrExpiry now n) := rfl
theorem exec_currentThreshold (t : Nat) (n : Fin 48) (hi : Bool) (s : State) :
    exec (.currentThreshold t n hi) s = s.run t (fun now d => d.currentThreshold now n hi) := rfl
theorem exec_fastDecayEnd (t : Nat) (n : Fin 48) (cur : Nat) (s : State) :
    exec (.fastDecayEnd t n cur) s = s.run t (fun now d => d.fastDecayEnd now n cur) := rfl
theorem exec_phaseMinTime (t : Nat) (n : Fin 48) (cur : Nat) (s : State) :
    exec (.phaseMinTime t n cur) s = s.run t (fun now d => d.phaseMin now n cur) := rfl
theorem exec_drvPhTo (t : Nat) (n : Fin 48) (cur : Nat) (s : State) :
    exec (.drvPhTo t n cur) s = s.run t (fun now d => d.phaseTimeout now n cur) := rfl
theorem exec_armatureDetect (t : Nat) (n : Fin 48) (raws : List Nat) (s : State) :
    exec (.armatureDetect t n raws) s = s.run t (fun now d => d.armSample now n raws) := rfl
theorem exec_drvArmMiss (t : Nat) (n : Fin 48) (s : State) :
    exec (.drvArmMiss t n) s = s.run t (fun now d => d.armWindowEnd now n) := rfl
theorem exec_endDecayEnd (t : Nat) (n : Fin 48) (peak : Nat) (s : State) :
    exec (.endDecayEnd t n peak) s = s.run t (fun now d => d.profileEnd now n peak) := rfl
theorem exec_offMinEnd (t : Nat) (n : Fin 48) (cur : Nat) (s : State) :
    exec (.offMinEnd t n cur) s = s.run t (fun now d => d.offMinEnd now n cur) := rfl
theorem exec_drvOnmax (t : Nat) (n : Fin 48) (s : State) :
    exec (.drvOnmax t n) s = s.run t (fun now d => d.onMax now n) := rfl
theorem exec_dutyBucket (t : Nat) (n : Fin 48) (s : State) :
    exec (.dutyBucket t n) s = s.run t (fun now d => d.dutyBucket now n) := rfl
theorem exec_drvOc (t : Nat) (n : Fin 48) (s : State) :
    exec (.drvOc t n) s = s.run t (fun now d => d.overCurrent now n) := rfl
theorem exec_drvLsShort (t : Nat) (n : Fin 48) (code : Nat) (s : State) :
    exec (.drvLsShort t n code) s = s.run t (fun now d => d.lsShort now n code) := rfl
theorem exec_bankHsShort (t : Nat) (b : Fin 12) (vsw : Nat) (s : State) :
    exec (.bankHsShort t b vsw) s = s.run t (fun now d => d.hsShort now b vsw) := rfl
theorem exec_bankGndShort (t : Nat) (b : Fin 12) (vsw : Nat) (s : State) :
    exec (.bankGndShort t b vsw) s = s.run t (fun now d => d.gndShort now b vsw) := rfl
theorem exec_drvAbort (t : Nat) (who : Initiator) (n : Fin 48) (cur : Nat) (s : State) :
    exec (.drvAbort t who n cur) s = s.run t (fun now d => d.gated now who (R.DRV_CTL n) 4 (fun d => d.drvAbort now n cur)) := rfl
theorem exec_drvUninh (t : Nat) (who : Initiator) (n : Fin 48) (s : State) :
    exec (.drvUninh t who n) s = s.run t (fun now d => d.wrBits now who (R.DRV_CTL n) 2) := rfl
theorem exec_drvClr (t : Nat) (who : Initiator) (n : Fin 48) (s : State) :
    exec (.drvClr t who n) s = s.run t (fun now d => d.wrBits now who (R.DRV_CTL n) 1) := rfl
theorem exec_drvLastLoRead (t : Nat) (who : Initiator) (n : Fin 48) (s : State) :
    exec (.drvLastLoRead t who n) s = s.run t (fun now d => d.readBack now who (R.DRV_LAST_LO n)) := rfl
theorem exec_unlatch (t : Nat) (who : Initiator) (b : Fin 12) (s : State) :
    exec (.unlatch t who b) s = s.run t (fun now d => d.wrBits now who (R.BANK_CTL b) 2) := rfl
theorem exec_bankClr (t : Nat) (who : Initiator) (b : Fin 12) (s : State) :
    exec (.bankClr t who b) s = s.run t (fun now d => d.wrBits now who (R.BANK_CTL b) 1) := rfl
theorem exec_boostMeasure (t : Nat) (k : Fin 2) (vhv : Nat) (vb : Nat) (s : State) :
    exec (.boostMeasure t k vhv vb) s = s.run t (fun now d => d.boostMeasure now k vhv vb) := rfl
theorem exec_boostCycleEnd (t : Nat) (k : Fin 2) (s : State) :
    exec (.boostCycleEnd t k) s = s.run t (fun now d => d.bstCycleEnd now k) := rfl
theorem exec_bstTonEnd (t : Nat) (k : Fin 2) (s : State) :
    exec (.bstTonEnd t k) s = s.run t (fun now d => d.bstTonEnd now k) := rfl
theorem exec_bstTimeout (t : Nat) (k : Fin 2) (s : State) :
    exec (.bstTimeout t k) s = s.run t (fun now d => d.bstTimeout now k) := rfl
theorem exec_bstClr (t : Nat) (who : Initiator) (k : Fin 2) (s : State) :
    exec (.bstClr t who k) s = s.run t (fun now d => d.wrBits now who (R.BST_CTL k) 1) := rfl
theorem exec_profLoad (t : Nat) (who : Initiator) (p : Fin 16) (s : State) :
    exec (.profLoad t who p) s = s.run t (fun now d => d.wr now who (R.PROF_LOAD) (w32 p)) := rfl
theorem exec_profLoadDone (t : Nat) (s : State) :
    exec (.profLoadDone t) s = s.run t (fun _ d => d.profLoadDone) := rfl
theorem exec_helloTimer (t : Nat) (s : State) :
    exec (.helloTimer t) s = s.run t (fun now d => d.sendHello now) := rfl
theorem exec_hello (t : Nat) (n : Fin 4) (fr : LinkFrame) (s : State) :
    exec (.hello t n fr) s = s.run t (fun now d => d.frameIn now n fr false (isLink 2) (fun d b => d.helloIn now n b)) := rfl
theorem exec_topo (t : Nat) (n : Fin 4) (fr : LinkFrame) (s : State) :
    exec (.topo t n fr) s = s.run t (fun now d => d.frameIn now n fr false (isLink 3) (fun d b => d.topoIn now n b)) := rfl
theorem exec_assign (t : Nat) (n : Fin 4) (fr : LinkFrame) (s : State) :
    exec (.assign t n fr) s = s.run t (fun now d => d.frameIn now n fr false (isLink 4) (fun d b => d.assignIn now b)) := rfl
theorem exec_chg (t : Nat) (n : Fin 4) (fr : LinkFrame) (s : State) :
    exec (.chg t n fr) s = s.run t (fun now d => d.frameIn now n fr false (isLink 5) (fun d b => d.chgIn now b)) := rfl
theorem exec_settleExpiry (t : Nat) (s : State) :
    exec (.settleExpiry t) s = s.run t (fun now d => d.settleExpiry now) := rfl
theorem exec_redisc (t : Nat) (who : Initiator) (s : State) :
    exec (.redisc t who) s = s.run t (fun now d => d.wrBits now who (R.FAB_CTL) 2) := rfl
theorem exec_fabClr (t : Nat) (who : Initiator) (s : State) :
    exec (.fabClr t who) s = s.run t (fun now d => d.wrBits now who (R.FAB_CTL) 1) := rfl
theorem exec_ftxEntry (t : Nat) (r : Fin 4) (err : Fin 3) (s : State) :
    exec (.ftxEntry t r err) s = s.run t (fun now d => d.ftxEntryErr now r err) := rfl
theorem exec_regRd (t : Nat) (n : Fin 4) (fr : LinkFrame) (err : Fin 3) (s : State) :
    exec (.regRd t n fr err) s = s.run t (fun now d => d.msgIn now n fr 0 none 0 err) := rfl
theorem exec_regWr (t : Nat) (n : Fin 4) (fr : LinkFrame) (s : State) :
    exec (.regWr t n fr) s = s.run t (fun now d => d.msgIn now n fr 1 none 0 0) := rfl
theorem exec_regRsp (t : Nat) (n : Fin 4) (fr : LinkFrame) (s : State) :
    exec (.regRsp t n fr) s = s.run t (fun now d => d.msgIn now n fr 2 none 0 0) := rfl
theorem exec_intr (t : Nat) (n : Fin 4) (fr : LinkFrame) (s : State) :
    exec (.intr t n fr) s = s.run t (fun now d => d.msgIn now n fr 3 none 0 0) := rfl
theorem exec_intrAck (t : Nat) (n : Fin 4) (fr : LinkFrame) (s : State) :
    exec (.intrAck t n fr) s = s.run t (fun now d => d.msgIn now n fr 4 none 0 0) := rfl
theorem exec_msg (t : Nat) (n : Fin 4) (fr : LinkFrame) (rxq : Fin 4) (s : State) :
    exec (.msg t n fr rxq) s = s.run t (fun now d => d.msgIn now n fr 5 none rxq 0) := rfl
theorem exec_msgAck (t : Nat) (n : Fin 4) (fr : LinkFrame) (s : State) :
    exec (.msgAck t n fr) s = s.run t (fun now d => d.msgIn now n fr 6 none 0 0) := rfl
theorem exec_noticeHold (t : Nat) (n : Fin 4) (fr : LinkFrame) (s : State) :
    exec (.noticeHold t n fr) s = s.run t (fun now d => d.msgIn now n fr 7 (some 0) 0 0) := rfl
theorem exec_noticeRelease (t : Nat) (n : Fin 4) (fr : LinkFrame) (s : State) :
    exec (.noticeRelease t n fr) s = s.run t (fun now d => d.msgIn now n fr 7 (some 1) 0 0) := rfl
theorem exec_noticePath (t : Nat) (n : Fin 4) (fr : LinkFrame) (s : State) :
    exec (.noticePath t n fr) s = s.run t (fun now d => d.msgIn now n fr 7 (some 2) 0 0) := rfl
theorem exec_messageTimeout (t : Nat) (r : Fin 5) (src : Fin 512) (s : State) :
    exec (.messageTimeout t r src) s = s.run t (fun now d => d.messageTimeout now r src) := rfl
theorem exec_maxPause (t : Nat) (r : Fin 5) (src : Fin 512) (s : State) :
    exec (.maxPause t r src) s = s.run t (fun now d => d.maxPause now r src) := rfl
theorem exec_btagTExpiry (t : Nat) (n : Fin 4) (s : State) :
    exec (.btagTExpiry t n) s = s.run t (fun now d => d.btagExpiry now n) := rfl
theorem exec_beaconVto (t : Nat) (n : Fin 4) (s : State) :
    exec (.beaconVto t n) s = s.run t (fun now d => d.beaconVto now n) := rfl
theorem exec_beaconReceive (t : Nat) (n : Fin 4) (trx : Nat) (b0 : BitVec 16) (b1 : BitVec 16) (b2 : BitVec 16) (dls : List Nat) (up : Bool) (par : Fin 3) (cur : Nat) (s : State) :
    exec (.beaconReceive t n trx b0 b1 b2 dls up par cur) s = s.run t (fun now d => d.beaconIn now n trx b0 b1 b2 dls up par cur) := rfl
theorem exec_beacStatRead (t : Nat) (who : Initiator) (f : Fin 4) (s : State) :
    exec (.beacStatRead t who f) s = s.run t (fun now d => d.readBack now who (R.BEAC_STAT f)) := rfl
theorem exec_beacClr (t : Nat) (who : Initiator) (s : State) :
    exec (.beacClr t who) s = s.run t (fun now d => d.wrBits now who (R.BEAC_CTL) 1) := rfl
theorem exec_faultMessage (t : Nat) (src : Fin 512) (s : State) :
    exec (.faultMessage t src) s = s.run t (fun now d => d.faultMessage now src) := rfl
theorem exec_reactTimeout (t : Nat) (src : Fin 512) (s : State) :
    exec (.reactTimeout t src) s = s.run t (fun now d => d.reactTimeout now src) := rfl
theorem exec_fcolAck (t : Nat) (who : Initiator) (src : Fin 512) (s : State) :
    exec (.fcolAck t who src) s = s.run t (fun now d => d.wr now who (R.FCOL_ACK) (w32 src)) := rfl
theorem exec_fcolAckAll (t : Nat) (who : Initiator) (s : State) :
    exec (.fcolAckAll t who) s = s.run t (fun now d => d.wr now who (R.FCOL_ACK) (0x80000000)) := rfl
theorem exec_dholdClear (t : Nat) (who : Initiator) (w : Word) (s : State) :
    exec (.dholdClear t who w) s = s.run t (fun now d => d.wr now who (R.FCOL_DHOLD) (w)) := rfl
theorem exec_firstClr (t : Nat) (who : Initiator) (s : State) :
    exec (.firstClr t who) s = s.run t (fun now d => d.wrBits now who (R.FCOL_CTL) 2) := rfl
theorem exec_fcolClr (t : Nat) (who : Initiator) (s : State) :
    exec (.fcolClr t who) s = s.run t (fun now d => d.wrBits now who (R.FCOL_CTL) 1) := rfl
theorem exec_fcolFirstW0Read (t : Nat) (who : Initiator) (s : State) :
    exec (.fcolFirstW0Read t who) s = s.run t (fun now d => d.readBack now who (R.FCOL_FIRST_W0)) := rfl
theorem exec_swlvlWrite (t : Nat) (who : Initiator) (v : Bool) (s : State) :
    exec (.swlvlWrite t who v) s = s.run t (fun now d => d.wrField now who F.FCOL_ERRPIN_SWLVL v.toNat) := rfl
theorem exec_minwEnd (t : Nat) (s : State) :
    exec (.minwEnd t) s = s.run t (fun now d => d.minwEnds now) := rfl
theorem exec_faultForce (t : Nat) (who : Initiator) (src : Fin 512) (viaPage : Bool) (s : State) :
    exec (.faultForce t who src viaPage) s = s.run t (fun now d => if viaPage then d.wr now who (R.PFFRC src) 1 else d.wr now who (R.FFRC_FRC (src / 256) (src % 256 / 32)) (1#32 <<< (src.val % 32))) := rfl
theorem exec_swFault (t : Nat) (who : Initiator) (w : Word) (s : State) :
    exec (.swFault t who w) s = s.run t (fun now d => d.wr now who (R.FCOL_SWF) (w)) := rfl
theorem exec_monSnap (t : Nat) (who : Initiator) (m : Fin 16) (s : State) :
    exec (.monSnap t who m) s = s.run t (fun now d => d.wrBits now who (R.MON_CTL m) 1) := rfl
theorem exec_monSnapclr (t : Nat) (who : Initiator) (m : Fin 16) (s : State) :
    exec (.monSnapclr t who m) s = s.run t (fun now d => d.wrBits now who (R.MON_CTL m) 2) := rfl
theorem exec_monClr (t : Nat) (who : Initiator) (m : Fin 16) (s : State) :
    exec (.monClr t who m) s = s.run t (fun now d => d.wrBits now who (R.MON_CTL m) 4) := rfl
theorem exec_monCfgWrite (t : Nat) (who : Initiator) (m : Fin 16) (w : Word) (s : State) :
    exec (.monCfgWrite t who m w) s = s.run t (fun now d => d.wr now who (R.MON_CFG m) (w)) := rfl
theorem exec_hostRead (t : Nat) (cmd : Word) (addr : Word) (crc : BitVec 16) (r : Reading) (s : State) :
    exec (.hostRead t cmd addr crc r) s = s.run t (fun now d => d.hostRead now cmd addr crc r.err r.met) := rfl
theorem exec_hostWrite (t : Nat) (cmd : Word) (addr : Word) (b : Burst) (crc : BitVec 16) (s : State) :
    exec (.hostWrite t cmd addr b crc) s = s.run t (fun now d => d.hostWrite now cmd addr b.data crc b.met) := rfl
theorem exec_hostWaitTimeout (t : Nat) (cmd : Word) (addr : Word) (crc : BitVec 16) (k : Fin 257) (s : State) :
    exec (.hostWaitTimeout t cmd addr crc k) s = s.run t (fun now d => d.hostTimeout now cmd addr crc k) := rfl
theorem exec_hostAbort (t : Nat) (cmd : Word) (addr : Word) (data : List Word) (crc : BitVec 16) (after : Bool) (r : Reached) (s : State) :
    exec (.hostAbort t cmd addr data crc after r) s = s.run t (fun now d => d.hostAbort now cmd addr data crc after r.k r.late) := rfl
theorem exec_extest (t : Nat) (v : BitVec 218) (s : State) :
    exec (.extest t v) s = s.run t (fun _ d => d.extest v) := rfl
theorem exec_idcode (t : Nat) (s : State) :
    exec (.idcode t) s = s.run t (fun _ d => d.idcode) := rfl
theorem exec_samplePreload (t : Nat) (cap : BitVec 218) (v : BitVec 218) (s : State) :
    exec (.samplePreload t cap v) s = s.run t (fun _ d => d.samplePreload cap v) := rfl
theorem exec_clamp (t : Nat) (s : State) :
    exec (.clamp t) s = s.run t (fun _ d => d.clampPins) := rfl
theorem exec_highz (t : Nat) (s : State) :
    exec (.highz t) s = s.run t (fun _ d => d.highz) := rfl
theorem exec_dtmcs (t : Nat) (s : State) :
    exec (.dtmcs t) s = s.run t (fun _ d => d.dtmcs) := rfl
theorem exec_dmi (t : Nat) (a : Fin 128) (v : Word) (op : Fin 4) (s : State) :
    exec (.dmi t a v op) s = s.run t (fun now d => d.dmi now a v op) := rfl
theorem exec_bypass (t : Nat) (s : State) :
    exec (.bypass t) s = s.run t (fun _ d => d.bypass) := rfl
theorem exec_testLogicReset (t : Nat) (s : State) :
    exec (.testLogicReset t) s = s.run t (fun _ d => d.idcode) := rfl
theorem exec_linkAlign (t : Nat) (n : Fin 4) (s : State) :
    exec (.linkAlign t n) s = s.run t (fun now d => d.linkAlign now n) := rfl
theorem exec_rate (t : Nat) (n : Fin 4) (rate : BitVec 7) (s : State) :
    exec (.rate t n rate) s = s.run t (fun _ d => d.nlRate n rate.toNat) := rfl
theorem exec_rateSwitch (t : Nat) (n : Fin 4) (s : State) :
    exec (.rateSwitch t n) s = s.run t (fun _ d => d.rateSwitch n) := rfl
theorem exec_invalidSymbol (t : Nat) (n : Fin 4) (run : Bool) (s : State) :
    exec (.invalidSymbol t n run) s = s.run t (fun now d => d.invalidSymbol now n run) := rfl
theorem exec_symbolTimeout (t : Nat) (n : Fin 4) (s : State) :
    exec (.symbolTimeout t n) s = s.run t (fun now d => d.nlDown now n 1) := rfl
theorem exec_reset (t : Nat) (n : Fin 4) (s : State) :
    exec (.reset t n) s = s.run t (fun now d => d.nlDown now n 3) := rfl
theorem exec_auth (t : Nat) (n : Fin 4) (fr : LinkFrame) (res : Fin 3) (uid : List Word) (port : Fin 4) (txSeq : BitVec 8) (s : State) :
    exec (.auth t n fr res uid port txSeq) s = s.run t (fun now d => d.authIn now n fr res uid port txSeq.toNat) := rfl
theorem exec_authTimeout (t : Nat) (n : Fin 4) (s : State) :
    exec (.authTimeout t n) s = s.run t (fun now d => d.authFail now n) := rfl
theorem exec_backoffEnd (t : Nat) (n : Fin 4) (s : State) :
    exec (.backoffEnd t n) s = s.run t (fun now d => d.backoffEnd now n) := rfl
theorem exec_nlCtlDown (t : Nat) (who : Initiator) (n : Fin 4) (s : State) :
    exec (.nlCtlDown t who n) s = s.run t (fun now d => d.wrBits now who (R.NL_CTL n) 2) := rfl
theorem exec_nlClr (t : Nat) (who : Initiator) (n : Fin 4) (s : State) :
    exec (.nlClr t who n) s = s.run t (fun now d => d.wrBits now who (R.NL_CTL n) 1) := rfl
theorem exec_nlPeer0Read (t : Nat) (who : Initiator) (n : Fin 4) (s : State) :
    exec (.nlPeer0Read t who n) s = s.run t (fun now d => d.readBack now who (R.NL_PEER n 0)) := rfl
theorem exec_ack (t : Nat) (n : Fin 4) (seq : BitVec 8) (s : State) :
    exec (.ack t n seq) s = s.run t (fun now d => d.nlAck now n seq.toNat) := rfl
theorem exec_nack (t : Nat) (n : Fin 4) (seq : BitVec 8) (s : State) :
    exec (.nack t n seq) s = s.run t (fun now d => d.nlNack now n seq.toNat) := rfl
theorem exec_credit (t : Nat) (n : Fin 4) (k : Fin 17) (s : State) :
    exec (.credit t n k) s = s.run t (fun now d => d.nlCredit now n k) := rfl
theorem exec_ackTimeout (t : Nat) (n : Fin 4) (s : State) :
    exec (.ackTimeout t n) s = s.run t (fun now d => d.ackTimeout now n) := rfl
theorem exec_echoRequestTimer (t : Nat) (n : Fin 4) (s : State) :
    exec (.echoRequestTimer t n) s = s.run t (fun now d => d.echoTimer now n) := rfl
theorem exec_echoReq (t : Nat) (n : Fin 4) (s : State) :
    exec (.echoReq t n) s = s.run t (fun now d => d.echoReq now n) := rfl
theorem exec_echoRsp (t : Nat) (n : Fin 4) (resid : Nat) (t4 : Nat) (s : State) :
    exec (.echoRsp t n resid t4) s = s.run t (fun now d => d.echoRsp now n resid t4) := rfl
theorem exec_echoTimeout (t : Nat) (n : Fin 4) (s : State) :
    exec (.echoTimeout t n) s = s.run t (fun now d => d.echoTimeout now n) := rfl
theorem exec_tagCarrier (t : Nat) (n : Fin 4) (fr : LinkFrame) (s : State) :
    exec (.tagCarrier t n fr) s = s.run t (fun now d => d.tagCarrier now n fr) := rfl
theorem exec_modeCmdConfig (t : Nat) (who : Initiator) (key : BitVec 8) (s : State) :
    exec (.modeCmdConfig t who key) s = s.run t (fun now d => d.wr now who (R.SYS_MODECMD) (w32 (key.toNat * 256 + 4))) := rfl
theorem exec_modeCmdReady (t : Nat) (who : Initiator) (key : BitVec 8) (s : State) :
    exec (.modeCmdReady t who key) s = s.run t (fun now d => d.wr now who (R.SYS_MODECMD) (w32 (key.toNat * 256 + 5))) := rfl
theorem exec_modeCmdService (t : Nat) (who : Initiator) (key : BitVec 8) (s : State) :
    exec (.modeCmdService t who key) s = s.run t (fun now d => d.wr now who (R.SYS_MODECMD) (w32 (key.toNat * 256 + 9))) := rfl
theorem exec_modeCmdShutdown (t : Nat) (who : Initiator) (key : BitVec 8) (s : State) :
    exec (.modeCmdShutdown t who key) s = s.run t (fun now d => d.wr now who (R.SYS_MODECMD) (w32 (key.toNat * 256 + 10))) := rfl
theorem exec_modeCmdSafe (t : Nat) (who : Initiator) (key : BitVec 8) (s : State) :
    exec (.modeCmdSafe t who key) s = s.run t (fun now d => d.wr now who (R.SYS_MODECMD) (w32 (key.toNat * 256 + 11))) := rfl
theorem exec_leadWrite (t : Nat) (who : Initiator) (v : Fin 2) (s : State) :
    exec (.leadWrite t who v) s = s.run t (fun now d => d.wrField now who F.SYS_MODE_LEAD v) := rfl
theorem exec_safeackWrite (t : Nat) (who : Initiator) (w : Word) (s : State) :
    exec (.safeackWrite t who w) s = s.run t (fun now d => d.wr now who (R.SYS_SAFEACK) (w)) := rfl
theorem exec_shutdownDrainEnd (t : Nat) (s : State) :
    exec (.shutdownDrainEnd t) s = s.run t (fun now d => d.drainEnd now) := rfl
theorem exec_shutdownDone (t : Nat) (s : State) :
    exec (.shutdownDone t) s = s.run t (fun _ d => d.shutdownDone) := rfl
theorem exec_bootComplete (t : Nat) (ok : BitVec 8) (us : Nat) (s : State) :
    exec (.bootComplete t ok us) s = s.run t (fun now d => d.bootDone now ok us) := rfl
theorem exec_bootFail (t : Nat) (code : BitVec 8) (s : State) :
    exec (.bootFail t code) s = s.run t (fun _ d => d.bootFail code.toNat) := rfl
theorem exec_reboot (t : Nat) (who : Initiator) (s : State) :
    exec (.reboot t who) s = s.run t (fun now d => d.wrBits now who (R.SYS_CTL) 1) := rfl
theorem exec_sysClr (t : Nat) (who : Initiator) (s : State) :
    exec (.sysClr t who) s = s.run t (fun now d => d.wrBits now who (R.SYS_CTL) 2) := rfl
theorem exec_sysSafeTsLoRead (t : Nat) (who : Initiator) (s : State) :
    exec (.sysSafeTsLoRead t who) s = s.run t (fun now d => d.readBack now who (R.SYS_SAFE_TS_LO)) := rfl
theorem exec_oasisWriteTransfer (t : Nat) (a : Nat) (s : State) :
    exec (.oasisWriteTransfer t a) s = s.run t (fun _ d => d.oasisTransfer a) := rfl
theorem exec_rtcSet (t : Nat) (who : Initiator) (w : Word) (s : State) :
    exec (.rtcSet t who w) s = s.run t (fun now d => d.wr now who (R.RTC_SET) (w)) := rfl
theorem exec_rtcSecond (t : Nat) (s : State) :
    exec (.rtcSecond t) s = s.run t (fun now d => d.rtcSecond now) := rfl
theorem exec_rtcXtal (t : Nat) (s : State) :
    exec (.rtcXtal t) s = s.run t (fun _ d => d.rtcXtal) := rfl
theorem exec_xtalRecover (t : Nat) (s : State) :
    exec (.xtalRecover t) s = s.run t (fun _ d => d.xtalRecover) := rfl
theorem exec_rtcSubRead (t : Nat) (who : Initiator) (sub : Fin 32768) (s : State) :
    exec (.rtcSubRead t who sub) s = s.run t (fun now d => d.rtcRead now who sub) := rfl
theorem exec_rtcTbLoRead (t : Nat) (who : Initiator) (s : State) :
    exec (.rtcTbLoRead t who) s = s.run t (fun now d => d.readBack now who (R.RTC_TB_LO)) := rfl
theorem exec_oasisRamRead (t : Nat) (who : Initiator) (w : Fin 64) (bad : Option Nat) (s : State) :
    exec (.oasisRamRead t who w bad) s = s.run t (fun now d => (d.oasisRamRead w bad).readBack now who (R.OPWR_RAM w)) := rfl
theorem exec_sentinelTick (t : Nat) (lvl : BitVec 8) (vals : List Nat) (s : State) :
    exec (.sentinelTick t lvl vals) s = s.run t (fun _ d => d.sentTick lvl vals) := rfl
theorem exec_standstillCrossing (x : Crossing) (s : State) :
    exec (.standstillCrossing x) s = s.run x.t (fun _ d => d.standstill x.neg) := rfl
theorem exec_sentEvtClear (t : Nat) (who : Initiator) (viaWhl : Bool) (n : Fin 8) (bits : Word) (s : State) :
    exec (.sentEvtClear t who viaWhl n bits) s = s.run t (fun now d => d.wr now who (if viaWhl then R.WHL_SSC n else R.SENT_EVT) (bits)) := rfl
theorem exec_vbatMeasure (t : Nat) (mv : Nat) (s : State) :
    exec (.vbatMeasure t mv) s = s.run t (fun _ d => d.vbatMeasure mv) := rfl
theorem exec_oasisSupplyChangeover (t : Nat) (vddio : Bool) (s : State) :
    exec (.oasisSupplyChangeover t vddio) s = s.run t (fun _ d => d.oasisSource vddio) := rfl
theorem exec_oasisStart (t : Nat) (s : State) :
    exec (.oasisStart t) s = s.run t (fun _ d => d.oasisStart) := rfl
theorem exec_presetWrite (t : Nat) (who : Initiator) (a : Nat) (code : Fin 16) (s : State) :
    exec (.presetWrite t who a code) s = s.run t (fun now d => d.wrField now who ⟨a, 3, 0⟩ code) := rfl
theorem exec_presetAll (t : Nat) (who : Initiator) (page : Fin 256) (s : State) :
    exec (.presetAll t who page) s = s.run t (fun now d => d.wrPctl now who page 3 true) := rfl
theorem exec_registerWrite (t : Nat) (who : Initiator) (a : Nat) (v : Word) (s : State) :
    exec (.registerWrite t who a v) s = s.run t (fun now d => (d.sizedWrite now who a 4 v).1) := rfl
theorem exec_windowWrite (t : Nat) (who : Initiator) (a : Nat) (size : Nat) (v : Word) (s : State) :
    exec (.windowWrite t who a size v) s = s.run t (fun now d => (d.sizedWrite now who a size v).1) := rfl
theorem exec_enableWrite (t : Nat) (who : Initiator) (page : Fin 256) (on : Bool) (s : State) :
    exec (.enableWrite t who page on) s = s.run t (fun now d => d.wrPctl now who page 0 on) := rfl
theorem exec_freezeWrite (t : Nat) (who : Initiator) (page : Fin 256) (on : Bool) (s : State) :
    exec (.freezeWrite t who page on) s = s.run t (fun now d => d.wrPctl now who page 1 on) := rfl
theorem exec_blockRestart (t : Nat) (who : Initiator) (page : Fin 256) (s : State) :
    exec (.blockRestart t who page) s = s.run t (fun now d => d.wrPctl now who page 2 true) := rfl
theorem exec_blockRestartDone (t : Nat) (page : Fin 256) (s : State) :
    exec (.blockRestartDone t page) s = s.run t (fun _ d => d.restartDone page) := rfl
theorem exec_shdwHoldWrite (t : Nat) (who : Initiator) (page : Fin 256) (on : Bool) (s : State) :
    exec (.shdwHoldWrite t who page on) s = s.run t (fun now d => d.wrPctl now who page 4 on) := rfl
theorem exec_pifrcWrite (t : Nat) (who : Initiator) (page : Fin 256) (v : Word) (s : State) :
    exec (.pifrcWrite t who page v) s = s.run t (fun now d => d.wr now who (R.PIFRC page) (v)) := rfl
theorem exec_pirqClear (t : Nat) (who : Initiator) (page : Fin 256) (v : Clearing) (s : State) :
    exec (.pirqClear t who page v) s = s.run t (fun now d => d.pirqClearMeet now who page v.v v.met) := rfl
theorem exec_plockWrite (t : Nat) (who : Initiator) (page : Fin 256) (v : Word) (s : State) :
    exec (.plockWrite t who page v) s = s.run t (fun now d => d.wr now who (R.PLOCK page) (v)) := rfl
theorem exec_goto (t : Nat) (n : Fin 8) (ext : Word) (s : State) :
    exec (.goto t n ext) s = s.run t (fun now d => d.pioStep now n ext (PioDo.isGoto)) := rfl
theorem exec_drive (t : Nat) (n : Fin 8) (ext : Word) (s : State) :
    exec (.drive t n ext) s = s.run t (fun now d => d.pioStep now n ext (PioDo.isDrive)) := rfl
theorem exec_emit (t : Nat) (n : Fin 8) (ext : Word) (s : State) :
    exec (.emit t n ext) s = s.run t (fun now d => d.pioStep now n ext (PioDo.isEmit)) := rfl
theorem exec_take (t : Nat) (n : Fin 8) (ext : Word) (s : State) :
    exec (.take t n ext) s = s.run t (fun now d => d.pioStep now n ext (PioDo.isTake)) := rfl
theorem exec_xferFill (t : Nat) (n : Fin 8) (ext : Word) (s : State) :
    exec (.xferFill t n ext) s = s.run t (fun now d => d.pioStep now n ext (PioDo.isXfer .fill)) := rfl
theorem exec_xferDeliver (t : Nat) (n : Fin 8) (ext : Word) (s : State) :
    exec (.xferDeliver t n ext) s = s.run t (fun now d => d.pioStep now n ext (PioDo.isXfer .deliver)) := rfl
theorem exec_xferTxa (t : Nat) (n : Fin 8) (ext : Word) (s : State) :
    exec (.xferTxa t n ext) s = s.run t (fun now d => d.pioStep now n ext (PioDo.isXfer .txa)) := rfl
theorem exec_xferArx (t : Nat) (n : Fin 8) (ext : Word) (s : State) :
    exec (.xferArx t n ext) s = s.run t (fun now d => d.pioStep now n ext (PioDo.isXfer .arx)) := rfl
theorem exec_calcAddImmA (t : Nat) (n : Fin 8) (ext : Word) (s : State) :
    exec (.calcAddImmA t n ext) s = s.run t (fun now d => d.pioStep now n ext (PioDo.isCalc .addImmA)) := rfl
theorem exec_calcAddImmB (t : Nat) (n : Fin 8) (ext : Word) (s : State) :
    exec (.calcAddImmB t n ext) s = s.run t (fun now d => d.pioStep now n ext (PioDo.isCalc .addImmB)) := rfl
theorem exec_calcAdd (t : Nat) (n : Fin 8) (ext : Word) (s : State) :
    exec (.calcAdd t n ext) s = s.run t (fun now d => d.pioStep now n ext (PioDo.isCalc .add)) := rfl
theorem exec_calcSub (t : Nat) (n : Fin 8) (ext : Word) (s : State) :
    exec (.calcSub t n ext) s = s.run t (fun now d => d.pioStep now n ext (PioDo.isCalc .sub)) := rfl
theorem exec_calcAnd (t : Nat) (n : Fin 8) (ext : Word) (s : State) :
    exec (.calcAnd t n ext) s = s.run t (fun now d => d.pioStep now n ext (PioDo.isCalc .band)) := rfl
theorem exec_calcXor (t : Nat) (n : Fin 8) (ext : Word) (s : State) :
    exec (.calcXor t n ext) s = s.run t (fun now d => d.pioStep now n ext (PioDo.isCalc .bxor)) := rfl
theorem exec_calcShr (t : Nat) (n : Fin 8) (ext : Word) (s : State) :
    exec (.calcShr t n ext) s = s.run t (fun now d => d.pioStep now n ext (PioDo.isCalc .shr)) := rfl
theorem exec_calcShl (t : Nat) (n : Fin 8) (ext : Word) (s : State) :
    exec (.calcShl t n ext) s = s.run t (fun now d => d.pioStep now n ext (PioDo.isCalc .shl)) := rfl
theorem exec_move (t : Nat) (n : Fin 8) (ext : Word) (s : State) :
    exec (.move t n ext) s = s.run t (fun now d => d.pioStep now n ext (PioDo.isMove)) := rfl
theorem exec_ticks (t : Nat) (n : Fin 8) (ext : Word) (s : State) :
    exec (.ticks t n ext) s = s.run t (fun now d => d.pioStep now n ext (PioDo.isTicks)) := rfl
theorem exec_await (t : Nat) (n : Fin 8) (ext : Word) (s : State) :
    exec (.await t n ext) s = s.run t (fun now d => d.pioStep now n ext (PioDo.isAwait)) := rfl
theorem exec_signal (t : Nat) (n : Fin 8) (ext : Word) (s : State) :
    exec (.signal t n ext) s = s.run t (fun now d => d.pioStep now n ext (PioDo.isSignal)) := rfl
theorem exec_stop (t : Nat) (n : Fin 8) (ext : Word) (s : State) :
    exec (.stop t n ext) s = s.run t (fun now d => d.pioStep now n ext (PioDo.isStop)) := rfl
theorem exec_reva (t : Nat) (n : Fin 8) (ext : Word) (s : State) :
    exec (.reva t n ext) s = s.run t (fun now d => d.pioStep now n ext (PioDo.isReva)) := rfl
theorem exec_nota (t : Nat) (n : Fin 8) (ext : Word) (s : State) :
    exec (.nota t n ext) s = s.run t (fun now d => d.pioStep now n ext (PioDo.isNota)) := rfl
theorem exec_pioIllegal (t : Nat) (n : Fin 8) (ext : Word) (s : State) :
    exec (.pioIllegal t n ext) s = s.run t (fun now d => d.pioStep now n ext (PioDo.isIllegal)) := rfl
theorem exec_pioStepContinue (t : Nat) (n : Fin 8) (ext : Word) (s : State) :
    exec (.pioStepContinue t n ext) s = s.run t (fun now d => d.pioStep now n ext PioDo.isMore) := rfl
theorem exec_deliveryResume (t : Nat) (n : Fin 8) (ext : Word) (s : State) :
    exec (.deliveryResume t n ext) s = s.run t (fun now d => d.pioStep now n ext PioDo.isDelivery) := rfl
theorem exec_pioTxWrite (t : Nat) (who : Initiator) (n : Fin 8) (w : Word) (s : State) :
    exec (.pioTxWrite t who n w) s = s.run t (fun now d => d.wr now who (R.PIO_TX n) (w)) := rfl
theorem exec_pioRxRead (t : Nat) (who : Initiator) (n : Fin 8) (s : State) :
    exec (.pioRxRead t who n) s = s.run t (fun now d => d.readBack now who (R.PIO_RX n)) := rfl
theorem exec_pioHalt (t : Nat) (who : Initiator) (n : Fin 8) (s : State) :
    exec (.pioHalt t who n) s = s.run t (fun now d => d.wrBits now who (R.PIO_CTL n) 1) := rfl
theorem exec_pioResume (t : Nat) (who : Initiator) (n : Fin 8) (s : State) :
    exec (.pioResume t who n) s = s.run t (fun now d => d.wrBits now who (R.PIO_CTL n) 2) := rfl
theorem exec_pioRestart (t : Nat) (who : Initiator) (n : Fin 8) (s : State) :
    exec (.pioRestart t who n) s = s.run t (fun now d => d.wrBits now who (R.PIO_CTL n) 4) := rfl
theorem exec_pioClr (t : Nat) (who : Initiator) (n : Fin 8) (s : State) :
    exec (.pioClr t who n) s = s.run t (fun now d => d.wrBits now who (R.PIO_CTL n) 8) := rfl
theorem exec_programWrite (t : Nat) (who : Initiator) (n : Fin 8) (idx : Fin 37) (w : Word) (s : State) :
    exec (.programWrite t who n idx w) s = s.run t (fun now d => d.wr now who (pioProgAddr n idx) (w)) := rfl
theorem exec_piogStart (t : Nat) (who : Initiator) (mask : BitVec 8) (s : State) :
    exec (.piogStart t who mask) s = s.run t (fun now d => d.wr now who (R.PIOG_START) (mask.setWidth 32)) := rfl
theorem exec_piogHalt (t : Nat) (who : Initiator) (mask : BitVec 8) (s : State) :
    exec (.piogHalt t who mask) s = s.run t (fun now d => d.wr now who (R.PIOG_HALT) (mask.setWidth 32)) := rfl
theorem exec_piogResume (t : Nat) (who : Initiator) (mask : BitVec 8) (s : State) :
    exec (.piogResume t who mask) s = s.run t (fun now d => d.wr now who (R.PIOG_RESUME) (mask.setWidth 32)) := rfl
theorem exec_piogDsync (t : Nat) (who : Initiator) (mask : BitVec 8) (s : State) :
    exec (.piogDsync t who mask) s = s.run t (fun now d => d.wr now who (R.PIOG_DSYNC) (mask.setWidth 32)) := rfl
theorem exec_apertureOpen (t : Nat) (k : Fin 8) (s : State) :
    exec (.apertureOpen t k) s = s.run t (fun now d => d.apertureOpen now k) := rfl
theorem exec_conversionDone (t : Nat) (k : Fin 8) (uv : Int) (s : State) :
    exec (.conversionDone t k uv) s = s.run t (fun now d => d.conversionDone now k uv) := rfl
theorem exec_busyIntervalEnd (t : Nat) (k : Fin 8) (s : State) :
    exec (.busyIntervalEnd t k) s = s.run t (fun now d => d.busyEnds now k) := rfl
theorem exec_adcSwGo (t : Nat) (who : Initiator) (k : Fin 8) (inp : Fin 64) (s : State) :
    exec (.adcSwGo t who k inp) s = s.run t (fun now d => d.wr now who (R.ADC_SW k) (w32 (0x80000000 + inp))) := rfl
theorem exec_adcSwresRead (t : Nat) (who : Initiator) (k : Fin 8) (s : State) :
    exec (.adcSwresRead t who k) s = s.run t (fun now d => d.readBack now who (R.ADC_SWRES k)) := rfl
theorem exec_adcClr (t : Nat) (who : Initiator) (k : Fin 8) (s : State) :
    exec (.adcClr t who k) s = s.run t (fun now d => d.wrBits now who (R.ADC_CTL k) 1) := rfl
theorem exec_runEnableWrite (t : Nat) (who : Initiator) (k : Fin 2) (w : Word) (s : State) :
    exec (.runEnableWrite t who k w) s = s.run t (fun now d => d.wr now who (R.SMPL_DOM_RUN k) (w)) := rfl
theorem exec_sampleCommit (t : Nat) (k : Fin 2) (r : Fin 16) (s : State) :
    exec (.sampleCommit t k r) s = s.run t (fun now d => d.sampleCheck now k r) := rfl
theorem exec_smplClr (t : Nat) (who : Initiator) (s : State) :
    exec (.smplClr t who) s = s.run t (fun now d => d.wrBits now who (R.SMPL_CTL) 1) := rfl
theorem exec_knockWindowOpen (t : Nat) (w : Fin 32) (s : State) :
    exec (.knockWindowOpen t w) s = s.run t (fun now d => d.knkOpen now w) := rfl
theorem exec_knockWindowClose (t : Nat) (c : Fin 8) (s : State) :
    exec (.knockWindowClose t c) s = s.run t (fun now d => d.knkClose now c) := rfl
theorem exec_knkClr (t : Nat) (who : Initiator) (s : State) :
    exec (.knkClr t who) s = s.run t (fun now d => d.wrBits now who (R.KNK_CTL) 1) := rfl
theorem exec_cylinderEnableWrite (t : Nat) (who : Initiator) (w : Word) (s : State) :
    exec (.cylinderEnableWrite t who w) s = s.run t (fun now d => d.wr now who (R.CMB_CYLEN) (w)) := rfl
theorem exec_cmbInspSelWrite (t : Nat) (who : Initiator) (w : Word) (s : State) :
    exec (.cmbInspSelWrite t who w) s = s.run t (fun now d => d.wr now who (R.CMB_INSP_SEL) (w)) := rfl
theorem exec_cmbClr (t : Nat) (who : Initiator) (s : State) :
    exec (.cmbClr t who) s = s.run t (fun now d => d.wrBits now who (R.CMB_CTL) 1) := rfl
theorem exec_trimZero (t : Nat) (who : Initiator) (hi : Bool) (w : Word) (s : State) :
    exec (.trimZero t who hi w) s = s.run t (fun now d => d.wr now who (if hi then R.TRIM_ZERO_HI else R.TRIM_ZERO_LO) (w)) := rfl
theorem exec_trimClr (t : Nat) (who : Initiator) (s : State) :
    exec (.trimClr t who) s = s.run t (fun now d => d.wrBits now who (R.TRIM_CTL) 1) := rfl
theorem exec_challenge (t : Nat) (who : Initiator) (fmt : Bool) (sig : Bool) (s : State) :
    exec (.challenge t who fmt sig) s = s.run t (fun now d => d.secCommand now who 1 fmt sig) := rfl
theorem exec_quote (t : Nat) (who : Initiator) (fmt : Bool) (sig : Bool) (s : State) :
    exec (.quote t who fmt sig) s = s.run t (fun now d => d.secCommand now who 2 fmt sig) := rfl
theorem exec_enroll (t : Nat) (who : Initiator) (fmt : Bool) (sig : Bool) (s : State) :
    exec (.enroll t who fmt sig) s = s.run t (fun now d => d.secCommand now who 3 fmt sig) := rfl
theorem exec_endorse (t : Nat) (who : Initiator) (fmt : Bool) (sig : Bool) (s : State) :
    exec (.endorse t who fmt sig) s = s.run t (fun now d => d.secCommand now who 4 fmt sig) := rfl
theorem exec_lock (t : Nat) (who : Initiator) (fmt : Bool) (sig : Bool) (s : State) :
    exec (.lock t who fmt sig) s = s.run t (fun now d => d.secCommand now who 5 fmt sig) := rfl
theorem exec_unlock (t : Nat) (who : Initiator) (fmt : Bool) (sig : Bool) (s : State) :
    exec (.unlock t who fmt sig) s = s.run t (fun now d => d.secCommand now who 6 fmt sig) := rfl
theorem exec_decommission (t : Nat) (who : Initiator) (fmt : Bool) (sig : Bool) (s : State) :
    exec (.decommission t who fmt sig) s = s.run t (fun now d => d.secCommand now who 7 fmt sig) := rfl
theorem exec_stageBegin (t : Nat) (who : Initiator) (kind : Fin 4) (s : State) :
    exec (.stageBegin t who kind) s = s.run t (fun now d => d.wr now who (R.UPD_STAGE) (w32 (0x55000000 + kind))) := rfl
theorem exec_stageWrite (t : Nat) (who : Initiator) (kind : Fin 4) (rep : Fin 4) (fail : Bool) (s : State) :
    exec (.stageWrite t who kind rep fail) s = s.run t (fun now d => d.gated now who R.UPD_STAGE (w32 (0x55000100 + kind)) (fun d => d.stageWrite kind rep fail)) := rfl
theorem exec_stageFinish (t : Nat) (who : Initiator) (kind : Fin 4) (sig : Bool) (fail : Bool) (s : State) :
    exec (.stageFinish t who kind sig fail) s = s.run t (fun now d => d.gated now who R.UPD_STAGE (w32 (0x55000200 + kind)) (fun d => d.stageFinish kind sig fail)) := rfl
theorem exec_stageAbort (t : Nat) (who : Initiator) (kind : Fin 4) (s : State) :
    exec (.stageAbort t who kind) s = s.run t (fun now d => d.wr now who (R.UPD_STAGE) (w32 (0x55000300 + kind))) := rfl
theorem exec_activate (t : Nat) (who : Initiator) (mask : BitVec 4) (s : State) :
    exec (.activate t who mask) s = s.run t (fun now d => d.wr now who (R.UPD_ACT) (w32 (0x41000000 + mask.toNat))) := rfl
theorem exec_activationDone (t : Nat) (sig : BitVec 4) (sup : Bool) (s : State) :
    exec (.activationDone t sig sup) s = s.run t (fun now d => d.activationDone now sig sup) := rfl
theorem exec_confirm (t : Nat) (who : Initiator) (mask : BitVec 4) (s : State) :
    exec (.confirm t who mask) s = s.run t (fun now d => d.wr now who (R.UPD_CTL) (w32 mask.toNat)) := rfl
theorem exec_revert (t : Nat) (who : Initiator) (mask : BitVec 4) (s : State) :
    exec (.revert t who mask) s = s.run t (fun now d => d.wr now who (R.UPD_CTL) (w32 (mask.toNat * 256))) := rfl
theorem exec_mramDirectWrite (t : Nat) (who : Initiator) (w : Word) (s : State) :
    exec (.mramDirectWrite t who w) s = s.run t (fun now d => d.wr now who (R.MRAMC_WDHI) (w)) := rfl
theorem exec_mramWriteDone (t : Nat) (rep : Fin 4) (fail : Bool) (s : State) :
    exec (.mramWriteDone t rep fail) s = s.run t (fun _ d => d.mramDone rep fail) := rfl
theorem exec_logAppend (t : Nat) (who : Initiator) (src : Word) (s : State) :
    exec (.logAppend t who src) s = s.run t (fun now d => d.wr now who (R.MRAMC_LAPP) (src)) := rfl
theorem exec_logAppendDone (t : Nat) (rep : Fin 4) (fail : Bool) (s : State) :
    exec (.logAppendDone t rep fail) s = s.run t (fun _ d => d.logDone rep fail) := rfl
theorem exec_mramcClr (t : Nat) (who : Initiator) (s : State) :
    exec (.mramcClr t who) s = s.run t (fun now d => d.wrBits now who (R.MRAMC_CTL) 1) := rfl
theorem exec_randomGeneratorHealthTest (t : Nat) (pass : Bool) (s : State) :
    exec (.randomGeneratorHealthTest t pass) s = s.run t (fun _ d => d.rngTest pass) := rfl
theorem exec_tbNowLoRead (t : Nat) (who : Initiator) (s : State) :
    exec (.tbNowLoRead t who) s = s.run t (fun now d => d.readBack now who (R.TB_NOW_LO)) := rfl
theorem exec_stageMeterWindow (t : Nat) (stage : Nat) (mv : Nat) (s : State) :
    exec (.stageMeterWindow t stage mv) s = s.run t (fun now d => d.stageWindow now stage mv) := rfl
theorem exec_stgmClr (t : Nat) (who : Initiator) (s : State) :
    exec (.stgmClr t who) s = s.run t (fun now d => d.wrBits now who (R.SYS_STGM_CTL) 1) := rfl
theorem exec_vddcUnderspec (t : Nat) (mv : Nat) (s : State) :
    exec (.vddcUnderspec t mv) s = s.run t (fun _ d => d.vddcFall mv) := rfl
theorem exec_vddcRecover (t : Nat) (mv : Nat) (s : State) :
    exec (.vddcRecover t mv) s = s.run t (fun now d => d.vddcRecover now mv) := rfl
theorem exec_brownout (t : Nat) (s : State) :
    exec (.brownout t) s = s.run t (fun now d => d.brownout now) := rfl
theorem exec_vddcCollapse (t : Nat) (mv : Nat) (s : State) :
    exec (.vddcCollapse t mv) s = s.runAt t (fun now d => (d.collapse mv, if mv < 620 then 0 else now)) := rfl
theorem exec_referenceLoss (t : Nat) (s : State) :
    exec (.referenceLoss t) s = s.run t (fun _ d => d.referenceLoss) := rfl
theorem exec_referenceRelock (t : Nat) (span : BitVec 16) (s : State) :
    exec (.referenceRelock t span) s = s.runAt t (fun now d => d.relock now span.toNat) := rfl
theorem exec_slewEnd (t : Nat) (s : State) :
    exec (.slewEnd t) s = s.run t (fun now d => d.slewEnd now) := rfl
theorem exec_refselWrite (t : Nat) (who : Initiator) (v : Fin 2) (s : State) :
    exec (.refselWrite t who v) s = s.run t (fun now d => d.wrField now who F.TB_CTL_REFSEL v) := rfl
theorem exec_refselRelockTimeout (t : Nat) (s : State) :
    exec (.refselRelockTimeout t) s = s.run t (fun now d => d.refselTimeout now) := rfl
theorem exec_coreSupplyGood (t : Nat) (pinLow : Bool) (vbat : Bool) (s : State) :
    exec (.coreSupplyGood t pinLow vbat) s = s.run t (fun now d => d.supplyGood now pinLow vbat) := rfl
theorem exec_pornLow (t : Nat) (ns : Nat) (s : State) :
    exec (.pornLow t ns) s = s.runAt t (fun now d => (d.pornLow ns, if d.pornTaken ns then 0 else now)) := rfl
theorem exec_calibratorFirstLock (t : Nat) (span : BitVec 16) (s : State) :
    exec (.calibratorFirstLock t span) s = s.runAt t (fun now d => (let q := d.firstLock span.toNat; (q.1, if q.2 then 0 else now))) := rfl
theorem exec_vddaLow (t : Nat) (low : Bool) (mv : Nat) (s : State) :
    exec (.vddaLow t low mv) s = s.run t (fun _ d => d.vddaEvent low mv) := rfl
theorem exec_vbLow (t : Nat) (low : Bool) (mv : Nat) (s : State) :
    exec (.vbLow t low mv) s = s.run t (fun _ d => d.vbEvent low mv) := rfl
theorem exec_d2dCommandFail (t : Nat) (chan : Fin 104) (passed : Bool) (s : State) :
    exec (.d2dCommandFail t chan passed) s = s.run t (fun now d => d.d2dFail now chan passed) := rfl
theorem exec_timerTick (t : Nat) (k : Fin 32) (s : State) :
    exec (.timerTick t k) s = s.run t (fun now d => d.timerTick now k) := rfl
theorem exec_reloadWrite (t : Nat) (who : Initiator) (k : Fin 32) (w : Word) (s : State) :
    exec (.reloadWrite t who k w) s = s.run t (fun now d => d.wr now who (R.TMR_RELOAD k) (w)) := rfl
theorem exec_compareWrite (t : Nat) (who : Initiator) (k : Fin 32) (w : Word) (s : State) :
    exec (.compareWrite t who k w) s = s.run t (fun now d => d.wr now who (R.TMR_COMPARE k) (w)) := rfl
theorem exec_timerRun (t : Nat) (who : Initiator) (k : Fin 32) (s : State) :
    exec (.timerRun t who k) s = s.run t (fun now d => d.wrField now who (F.TMR_CTL_RUN k) 1) := rfl
theorem exec_timerStop (t : Nat) (who : Initiator) (k : Fin 32) (s : State) :
    exec (.timerStop t who k) s = s.run t (fun now d => d.wrField now who (F.TMR_CTL_RUN k) 0) := rfl
theorem exec_timerFwrap (t : Nat) (who : Initiator) (k : Fin 32) (s : State) :
    exec (.timerFwrap t who k) s = s.run t (fun now d => d.wrBits now who (R.TMR_CTL k) 2) := rfl
theorem exec_timerClr (t : Nat) (who : Initiator) (k : Fin 32) (s : State) :
    exec (.timerClr t who k) s = s.run t (fun now d => d.wrBits now who (R.TMR_CTL k) 4) := rfl
theorem exec_startTick (t : Nat) (k : Fin 32) (s : State) :
    exec (.startTick t k) s = s.run t (fun now d => d.startTick now k) := rfl
theorem exec_timerTrigger (t : Nat) (k : Fin 32) (s : State) :
    exec (.timerTrigger t k) s = s.run t (fun now d => d.timerTrigger now k) := rfl
theorem exec_groupStart (t : Nat) (who : Initiator) (g : Fin 8) (s : State) :
    exec (.groupStart t who g) s = s.run t (fun now d => d.wr now who (R.TMR_GRP_CTL g) (1)) := rfl
theorem exec_groupStop (t : Nat) (who : Initiator) (g : Fin 8) (s : State) :
    exec (.groupStop t who g) s = s.run t (fun now d => d.wr now who (R.TMR_GRP_CTL g) (2)) := rfl
theorem exec_tmrWrapLoRead (t : Nat) (who : Initiator) (k : Fin 32) (s : State) :
    exec (.tmrWrapLoRead t who k) s = s.run t (fun now d => d.readBack now who (R.TMR_WRAP_LO k)) := rfl
theorem exec_wheelTransition (t : Nat) (n : Fin 8) (pin : Bool) (peak : Nat) (frac : Fin 65536) (s : State) :
    exec (.wheelTransition t n pin peak frac) s = s.run t (fun now d => d.wheelTransition now n pin (peak * 65536 + frac)) := rfl
theorem exec_wheelEdgeConfirm (t : Nat) (n : Fin 8) (dip : Nat) (u : Upsets) (cur : Nat) (s : State) :
    exec (.wheelEdgeConfirm t n dip u cur) s = s.run t (fun now d => (let q := d.wheelConfirm now n dip u.up u.par cur; (q.1.edgeMoves d now n).originateAll now q.2)) := rfl
theorem exec_pwdirClassify (t : Nat) (n : Fin 8) (up : Bool) (par : Fin 3) (cur : Nat) (s : State) :
    exec (.pwdirClassify t n up par cur) s = s.run t (fun now d => (let q := d.pwdirClassify now n up par cur; q.1.originateAll now q.2)) := rfl
theorem exec_holdingQueueDeliver (t : Nat) (k : Fin 2) (s : State) :
    exec (.holdingQueueDeliver t k) s = s.run t (fun now d => (let q := d.holdingDeliver now k; q.1.originateAll now q.2)) := rfl
theorem exec_whlCommitTimeout (t : Nat) (n : Fin 8) (s : State) :
    exec (.whlCommitTimeout t n) s = s.run t (fun now d => d.whlCommitTimeout now n) := rfl
theorem exec_whlOpen (t : Nat) (n : Fin 8) (s : State) :
    exec (.whlOpen t n) s = s.run t (fun _ d => d.sensorFault n false) := rfl
theorem exec_whlShort (t : Nat) (n : Fin 8) (s : State) :
    exec (.whlShort t n) s = s.run t (fun _ d => d.sensorFault n true) := rfl
theorem exec_sensorClear (t : Nat) (n : Fin 8) (short : Bool) (s : State) :
    exec (.sensorClear t n short) s = s.run t (fun _ d => d.sensorClear n short) := rfl
theorem exec_whlLastLoRead (t : Nat) (who : Initiator) (n : Fin 8) (s : State) :
    exec (.whlLastLoRead t who n) s = s.run t (fun now d => d.readBack now who (R.WHL_LAST_LO n)) := rfl
theorem exec_whlClr (t : Nat) (who : Initiator) (n : Fin 8) (s : State) :
    exec (.whlClr t who n) s = s.run t (fun now d => d.wrBits now who (R.WHL_CLR n) 1) := rfl

end Sys2Proof.Machine
end

