-- ==== Sys2Proof/Laws/Forms.lean ====
section
/-!
SUPPORT. Laws/Forms.lean: how a statement about a command follows from the command's meaning: an event from its effect, a register write from the
effect of a granted write, a read from the word it answers.
-/

namespace Sys2Proof.Machine

theorem does_of {c : Instr} {s : State} {f g : Nat → Dev → Dev} (h : exec c s = s.run c.time g)
    (hp : g (s.clock c.time) s.dev = f (s.clock c.time) s.dev) : Does c s f := by
  unfold Does
  rw [h]
  unfold State.run
  rw [hp]

theorem completes_of {c : Instr} {s : State} {P : Dev → Prop} {g : Nat → Dev → Dev} (h : exec c s = s.run c.time g)
    (hp : P (g (s.clock c.time) s.dev)) : Completes c s P := ⟨_, h, hp⟩

theorem wrote_of {c : Instr} {s : State} {who : Initiator} {f : Dev → Dev} {g : Nat → Dev → Dev} (h : exec c s = s.run c.time g)
    (e : s.after c.time (g (s.clock c.time) s.dev) = s.wrote c.time who f) : exec c s = .next (s.wrote c.time who f) := by
  rw [h]
  unfold State.run
  rw [e]

theorem writes_of {c : Instr} {s : State} {who : Initiator} {f : Dev → Dev} {P : Dev → Dev → Prop} (h : exec c s = .next (s.wrote c.time who f))
    (hp : P (s.dev.access (s.clock c.time) who) (f (s.dev.access (s.clock c.time) who))) : Writes c s who P :=
  ⟨f (s.dev.access (s.clock c.time) who), h, hp⟩

end Sys2Proof.Machine
end

