-- ==== Sys2Proof/Tests/Slice0.lean ====
section
/-!
SUPPORT. Tests/Slice0.lean: commands that cannot be sent, values the manual works out, and for every statement with hypotheses a state and operands
that meet them, clause by clause (`witness_` and the statement's name; some statements have several such theorems).
-/

namespace Sys2Proof

open Machine

/-- A page enabled. -/
def Machine.Dev.on (d : Dev) (pg : Nat) : Dev := d.put (F.PCTL_ENABLE pg) true

set_option maxRecDepth 20000
set_option Elab.async false
set_option linter.unusedVariables false

namespace Tests

/-! ## Small states -/

/-- reset, with a change to the device and a time -/
def mk (f : Dev → Dev) (now : Nat := 1000000) : State := { State.reset with now := now, dev := f Dev.reset }
def wedge0 : WEdge := { t := 1000000 }

/-- primary table of n teeth over L with a gap of 3 -/
def tbl (k : Nat) (d : Dev) : Dev :=
  -- 8-1 teeth per rev, two-stroke L = 377487360 : 7 teeth
  let L := 377487360
  let d := (d.set (F.ANG_CFG_STROKE k) 1).setReg (R.ANG_BIND k) 0xBA98
  let d := ((d.set (F.ANG_TTN_A_PRIM_N k) 7).set (F.ANG_TTN_A_RED_N k) 7).set (F.ANG_TTN_B_C0_N k) 2 |>.set (F.ANG_TTN_B_C1_N k) 2
  let tb := (List.range 7).map (fun i => L / 8 * i)
  let d := (tb.zipIdx).foldl (fun (d : Dev) e => (d.setWord (0x41000000 + 0x4000 * k + 4 * e.2) (w32 e.1)).setWord (0x41000000 + 0x4000 * k + 0x800 + 4 * e.2) (w32 e.1)) d
  [(2, [100, 5000000]), (3, [100, 6000000])].foldl (fun (d : Dev) (e : Nat × List Nat) => e.2.zipIdx.foldl (fun (d : Dev) x => d.setWord (0x41000000 + 0x4000 * k + 0x800 * e.1 + 4 * x.2) (w32 x.1)) d) d
/-- a domain that commits: 8-1 teeth per turn, two-stroke, the wheel bound and synchronised, six predictions behind it -/
def sync (k : Nat) (st : Nat := 3) (f : Dev → Dev := id) (stroke : Nat := 1) : State := mk (fun d =>
  let prim := (List.range 7).map (47185920 * ·)
  let tabs : Vector (List Nat) 5 := #v[prim, prim, [100, 5000000], [100, 6000000], []]
  let d := ((((d.on P.CARV).on (P.ANG k)).on (P.PRED k)).set F.SYS_MODE_MODE 7).set (F.ANG_CFG_STROKE k) 1
  let d := (((d.setReg (R.ANG_BIND k) 0xBA98).set (F.ANG_TTN_A_PRIM_N k) 7).set (F.ANG_TTN_A_RED_N k) 7).set (F.ANG_TTN_B_C0_N k) 2 |>.set (F.ANG_TTN_B_C1_N k) 2
  let d := (List.range 4).foldl (fun (d : Dev) r => (d.set (F.WHL_BIND_ROLE r) (r + 1)).set (F.WHL_BIND_DOMAIN r) k) d
  let d := (d.set (F.ANG_CFG_STROKE k) stroke).set (F.ANG_STATE_STATE k) st
  let L := d.cycleLen k
  let per : Period := { d := 25600, s := L / 8, sc := L / 8, ratio := 0x40000000 }
  let d := d.setPred k { list := [per, per, per], valid := true, tk := 990000, thk := 0, omega := (L / 8) * 2 ^ 40 / 25600, acc := 0, sNext := L / 8, ps := 0, dNext := 0x40000000, pNext := 25600, thHold := 150000000 }
  f (d.updAng k (fun a => { a with tabs := tabs, shTabs := tabs, tSrc := some 980000, dSrc := some 25600, tAny := 980000, idx := vSet (vSet a.idx 0 (some 0)) 1 (some 0), per := vSet a.per 1 (some (25600, 1)), ratio1 := some 4096, ratio2 := some 4096 })))
def w1 (chan dom act : Nat) (pol rec ae link prio gd tle : Nat := 0) : Word := w32 (chan + dom * 2^8 + act * 2^10 + pol*2^14 + rec*2^16 + ae * 2^17 + link * 2^18 + prio * 2^24 + gd * 2^28 + tle * 2^29)
def ring (d : Dev) (r n : Nat) (ws : List Word) (base : Nat := 0x20001000) : Dev :=
  ((((d.setReg (R.RING_BASE r) (w32 base)).put (F.RING_CFG_EN r) true).set (F.RING_CFG_SIZE_LOG2 r) 4).set (F.RING_HEAD_HEAD r) n).setWords base ws
/-- four armed events, the first with its start edge committed and pending in its channel -/
def armed0 (k : Nat := 0) (f : Dev → Dev := id) : State := sync k 3 (fun d =>
  f { d.setReg R.CARV_ASEQ 4 with
    carv := { d.carv with genCtr := 4, slots := [
      (0, { st := 7, c := { angle := 20000000, w1 := w1 3 k 1, dur := 512000, tag := 11 }, due := 20000000, t := some 1000851, beyond := false, startC := true }),
      (1, { st := 2, c := { angle := 30000000, w1 := w1 75 k 1, dur := 512000, tag := 12 }, owner := 8, aseq := 1, gen := 1, due := 30000000, t := some 1006276, beyond := false }),
      (2, { st := 2, c := { angle := 40000000, w1 := w1 76 k 3 0 1, dur := 512000, tag := 13 }, owner := 8, aseq := 2, gen := 2, due := 40000000, t := some 1011701, beyond := false }),
      (3, { st := 2, c := { angle := 200000000, w1 := w1 77 k 3 1 1 0 3 0 0 1, dur := 512000, tag := 13 }, owner := 8, aseq := 3, gen := 3, due := 200000000, t := some 1124107 })] }
    chans := vSet d.chans 3 { (d.chan 3) with pend := some { slot := 0, gen := 0, start := true, act := 1, dom := k, target := 1000851, place := 1000851, prio := 0, aseq := 0, decided := 1000000, tag := 11 }, loadAt := 1000000 } })
def body (link : Bool) (b : List Word) (n : Nat) : LinkFrame :=
  let h := w32 (b.length * 0x2000000 + (if link then 0 else 0x1000000))
  let ws := (h :: b) ++ [0]
  { framing := true, words := ws, crc := crc16 ws, seq := n, tagOk := true, btagsOk := [] }
def lnk (n st : Nat) (x : Nl := {}) (f : Dev → Dev := id) : State := mk (fun d => f ((((d.on (P.NL n)).on P.FAB).set (F.NL_STAT_STATE n) st).setNl n x))
def img (d : Dev) (kind : Nat) (b : Bool) (ver la lb signer : Nat) (bodyW : List Word) : Dev :=
  (d.setWords (slotBase kind b) [0x544C4931, w32 (kind * 0x1000000 + 0x10000), w32 ver, w32 la, w32 lb, 0, w32 signer]).setWords (slotBase kind b + 256) bodyW
def cfgW : List Word := [0x01000001, w32 (R.TMR_RELOAD 5), 0x1234, 0]
def allow (d : Dev) : Dev := (List.range 256).foldl (fun d pg => d.setReg (R.PACC pg) 0xF) d
def intr (h : Nat) (n : Nat) (d : Dev) : Dev := ({ ((((d.put (F.INTC_SRC_CFG_ENABLE n) true).set (F.INTC_SRC_CFG_PRIO n) 5).set (F.INTC_SRC_CFG_TARGET n) h).setReg (R.INTC_SRC_VEC n) 0x8000) with intc := { d.intc with latched := [n] } })
def cmdW (op cnt tag : Nat) : Word := w32 (op * 0x10000000 + (cnt-1) * 0x10000 + tag * 256)
def okc (c a : Word) (l : List Word) : BitVec 16 := crc16 (c :: a :: l)
def W (n : Fin 8) (ty : Nat) (f : Dev → Dev) : State := mk (fun d => f ((d.on (P.WHL n)).set (F.WHL_CFG_TYPE n) ty))
def w0 : DrvWait := { why := 2, since := 1000, order := 1 }
def prof (sup fast exit arm ab : Nat) : List Word :=
  [w32 (2 + 0xF0), 0, 0x00640000, 0x15] ++ [w32 (sup + fast * 4 + exit * 8 + arm * 64 + ab * 256 + 5 * 65536), 0x00640100, 0x00020001, 0] ++ [w32 (1 + 1 * 8), 0x00640100, 0x00020001, 0] ++ List.replicate 24 0
def x0 (p : List Word) : Drv := { st := 2, prof := p, phase := 0, phaseAt := 900000, start := 900000, rel := 890000, offAt := 800000, occ := { has := true, slot := 3 } }
def r0 : AdcReq := { cls := 3, inp := 5, target := 900000 }
def kw (f : Dev → Dev) : State := sync 0 3 (fun d => f ((((((((d.on P.KNK).on P.SMPL).on (P.ADC 2)).put (F.KNK_WIN_A_EN 4) true).set (F.KNK_WIN_B_CH 4) 2).set (F.KNK_WIN_B_LEN 4) 20).setReg R.KNK_CHEN 0xFF).set (F.KNK_WIN_A_DOM 4) 0))
def pp : Nat × Bool := ((kw id).dev.projectPos 0 20000000).getD (0, false)
def run (k : Nat) (cnt : Word) (x : Tmr) (d : Dev) : Dev := (((d.put (F.TMR_STAT_RUNNING k) true).put (F.TMR_CTL_RUN k) true).setReg (R.TMR_COUNT k) cnt).setTmr k x
def eng (n : Nat) (i : BitVec 16) (x : Pio := {}) (f : Dev → Dev := id) : State := mk (fun d =>
  let d := (((d.on (P.PIO n)).set (F.PIO_STAT_STATE n) 1).setWord (pioAddr n 3) (i.setWidth 32)).set (F.PIO_STAT_PC n) 3
  f (((((d.setReg (R.PIO_A n) 0x80000123).setReg (R.PIO_B n) 0x77).setReg (R.PIO_LC n) 2).setReg (R.PIO_SEND n) 0xA5A5F00F).setReg (R.PIO_TAKE n) 0x12345678 |>.updEng n (fun _ => { x with next := 999936 })))
def core (h : Fin 3) (f : Dev → Dev) (x : Hart := {}) : State := mk (fun d => f (((d.on (P.CORE h)).set F.SYS_MODE_MODE 7).setHart h { x with running := true }))
def rq (k : Fin 8) (d : Dev) : Dev := (((d.setTrigPend (48 + k) (some 990000)).put (F.RING_RQ_SEL_EN k) true).set (F.RING_RQ_SEL_RES k) 3).setReg (R.RING_RQ_ADDR k) 0x40000042
def fr0 : Frame := { body := [1,2], seq := 4, sent := 900000 }
def fl (st : Nat) (root par : Option Nat) (f : Dev → Dev := id) : State := lnk 1 st { rxExp := 5 } (fun d => f { d.set F.FAB_STAT_EPOCH 7 with fab := { d.fab with root := root, parent := par, collecting := root == some ownUid } })
def topoB (u p : Nat) : List Word := [w32 0x03000700] ++ uidWords u ++ [0] ++ (List.range 4).flatMap (fun i => uidWords (if i = 1 then p else 0)) ++ List.replicate 4 0
def hd (dst src cls ttl seq arg : Nat) : List Word := ({ dst := dst, src := src, cls := cls, rr := false, ttl := ttl, seq := seq, arg := arg } : THdr).words
def m0 : Mon := { cnt := 4, sum := -7, bins := [(0, 0xFFFFFFFF), (3, 2)], min := some (-5), max := some 8 }
def full (d : Dev) : Dev := ((((img (img (img (img (img (img d 1 true 3 8 4 0 [1,2,3]) 2 true 3 8 4 0 [1,2,3]) 3 true 1 16 1 0 cfgW) 1 false 3 8 4 0 [1,2,3]) 2 false 3 8 4 0 [1,2,3]) 3 false 1 16 1 0 cfgW).setSlotSt 1 true 1).setSlotSt 2 true 1).setSlotSt 3 true 1).setSlotSt 1 false 1 |>.setSlotSt 2 false 1 |>.setSlotSt 3 false 1
def dn (d : Dev) : Dev := d.put (F.PSTAT_RESTARTING (P.CORE 0)) true

def hostStatusOf (o : Host.Outcome State Fault Refusal) : Word :=
  match o with
  | .next s => s.dev.port.status
  | _ => 0

/-! ## The commands that cannot be sent: one ill-formed term for each check -/

theorem test_wf_time : Instr.wf (.helloTimer (2 ^ 64)) = false := by decide
theorem test_wf_preset_address : Instr.wf (.presetWrite 0 .sup (R.WHL_CFG 0 + 4) 1) = false := by decide
theorem test_wf_page : Instr.wf (.presetAll 0 .sup 7) = false ∧ Instr.wf (.enableWrite 0 .sup 7 true) = false ∧ Instr.wf (.freezeWrite 0 .sup 7 true) = false ∧
    Instr.wf (.blockRestart 0 .sup 7) = false ∧ Instr.wf (.blockRestartDone 0 7) = false ∧ Instr.wf (.shdwHoldWrite 0 .sup 7 true) = false ∧
    Instr.wf (.pifrcWrite 0 .sup 7 1) = false ∧ Instr.wf (.pirqClear 0 .sup 7 ⟨1, 0⟩) = false ∧ Instr.wf (.plockWrite 0 .sup 7 1) = false := by decide
theorem test_wf_register_address : Instr.wf (.registerWrite 0 .host 0x40008042 0) = false ∧ Instr.wf (.registerWrite 0 .sup (2 ^ 32) 0) = false := by decide
theorem test_wf_window_address : Instr.wf (.windowWrite 0 .host 0x20000002 4 0) = false ∧ Instr.wf (.windowWrite 0 .sup 0x20000000 3 0) = false ∧
    Instr.wf (.windowWrite 0 .fab 0x20000000 2 0) = false := by decide
theorem test_wf_host_length : Instr.wf (.hostWrite 0 0x20010000 0x08000000 ⟨[1], []⟩ 0) = false ∧ Instr.wf (.hostAbort 0 0x20000000 0x08000000 [1, 2] 0 false ⟨0, false⟩) = false := by decide
theorem test_wf_supply : Instr.wf (.vddcUnderspec 0 720) = false ∧ Instr.wf (.vddcCollapse 0 620) = false := by decide
theorem test_wf_uid_length : Instr.wf (.auth 0 0 (body true [] 0) 1 [1, 2, 3] 0 0) = false := by decide
theorem test_wf_force_page : Instr.wf (.faultForce 0 .sup 7 true) = false := by decide
theorem test_wf_oasis_address : Instr.wf (.oasisWriteTransfer 0 0x40008040) = false ∧ Instr.wf (.oasisRamRead 0 .sup 0 (some 4)) = false := by decide
theorem test_wf_sentinel_values : Instr.wf (.sentinelTick 0 0 [1, 2, 3]) = false ∧ Instr.wf (.sentinelTick 0 0 [0, 0, 0, 0, 0, 0, 0, 256]) = false := by decide

/-! ## Values the manual works out -/

/-- R62: the CRC of "123456789". -/
theorem test_crc_check_value : crcBytes [0x31, 0x32, 0x33, 0x34, 0x35, 0x36, 0x37, 0x38, 0x39] 0xFFFF = 0x29B1 := by decide
/-- R69's example: two words from TB_NOW_LO, tag 0x3C. -/
theorem test_host_status : hostStatusOf (exec (.hostRead 1000100 0x10013C00 0x10000410 (crc16 [0x10013C00, 0x10000410]) ⟨0, []⟩) (mk id)) = 0x003C0002 := by decide +kernel
/-- R69's example: eight words from offset 0xFF0 of WHL0, where four remain in the page. -/
theorem test_host_truncation : hostStatusOf (exec (.hostRead 1000100 0x10070000 0x100023FC (crc16 [0x10070000, 0x100023FC]) ⟨0, []⟩) (mk id)) = 0x50000004 := by decide +kernel
/-- The worked example of 15_faults_monitors.md: kind 0x36, class U, source 0x025, at level 2 and at level 3. -/
theorem test_fault_words : faultWord 0x25 0x36 1 2 0 = 0x00096C25 ∧ faultWord 0x25 0x36 1 3 0 = 0x000D6C25 := by decide
/-- The programs of 12_pio_engines.md, words written out bit by bit. -/
theorem test_pio_words : pioDecode 0b1110011001000000 = .await .falling false true ∧ pioDecode 0b0110100000010000 = .take .a 16 ∧
    pioDecode 0b0011000000010001 = .drive true false 1 1 ∧ pioDecode 0b1100101110001111 = .move .lc .imm 15 ∧
    pioDecode 0b0100000000000001 = .emit false 1 ∧ pioDecode 0b0000010000001011 = .goto .loop 11 := by decide
theorem test_no_command_has_words : decodeTableWord 32 0x1234 = none := rfl

/-! ## What the witnesses are built from -/

theorem carv_row : ∃ row i, rowAt .carv 0 (R.CARV_RES 3 % 0x1000) = some (row, i) ∧ row.fields ≠ [] := ⟨_, _, rfl, by decide⟩
theorem some_pair {α β : Type} (o : Option (α × β)) (d : α × β) (h : o.isSome = true) : o = some ((o.getD d).1, (o.getD d).2) := by
  cases o <;> simp_all
def trigDev (act : Nat) : Dev := (run 5 44 { next := some 999936 } ((Dev.reset.on (tmrPage 5)).set (F.TMR_CFG_TRIG_ACT 5) act)).setTrigPend 13 (some 999000)
def boot0 : Dev := (mk (fun d => { (((img (img (img (d.put F.TB_STAT_CAL_LOCK true) 1 false 3 8 4 0 [1,2,3]) 2 false 3 8 4 0 [1,2,3]) 3 false 1 16 1 0 cfgW).setSlotSt 1 false 1).setSlotSt 2 false 1).setSlotSt 3 false 1 with sys := { d.sys with booting := true } })).dev
def bootNext (d : Dev) (k : Nat) : Dev := ((d.bootKind k (fun _ => true)).getD (d, none)).1
theorem boot_kind (d : Dev) (k : Nat) (v : Bool → Bool) (hv : v = fun _ => true) (h : (d.bootKind k (fun _ => true)).isSome = true) :
    d.bootKind k v = some (bootNext d k, ((d.bootKind k (fun _ => true)).getD (d, none)).2) := by
  subst hv; exact some_pair _ (d, none) h
theorem all_ok (k : Fin 4) : (fun (b : Bool) => (0xFF : BitVec 8).getLsbD (2 * k.val + b.toNat)) = fun _ => true := by
  funext b; revert k b; decide
theorem boot_chain (d0 : Dev) (v : Nat → Bool → Bool) (hv : ∀ k : Fin 4, v k = fun _ => true) (h0 : (d0.bootKind 0 (fun _ => true)).isSome = true)
    (h1 : ((bootNext d0 0).bootKind 1 (fun _ => true)).isSome = true) (h2 : ((bootNext (bootNext d0 0) 1).bootKind 2 (fun _ => true)).isSome = true)
    (h3 : ((bootNext (bootNext (bootNext d0 0) 1) 2).bootKind 3 (fun _ => true)).isSome = true) :
    ∃ d1 s0, d0.bootKind 0 (v 0) = some (d1, s0) ∧ ∃ d2 s1, d1.bootKind 1 (v 1) = some (d2, s1) ∧ ∃ d3 s2, d2.bootKind 2 (v 2) = some (d3, s2) ∧
      ∃ d4 s3, d3.bootKind 3 (v 3) = some (d4, s3) :=
  ⟨_, _, boot_kind _ _ _ (hv 0) h0, _, _, boot_kind _ _ _ (hv 1) h1, _, _, boot_kind _ _ _ (hv 2) h2, _, _, boot_kind _ _ _ (hv 3) h3⟩
def bootS : State := { State.reset with now := 1000000, dev := boot0 }
theorem fold_words (B B2 B3 u : Nat) (e2 : B2 = B * B) (e3 : B3 = B * B * B) (h : u < B * B * B * B) :
    ((u / B3 % B * B + u / B2 % B) * B + u / B % B) * B + u % B = u := by
  subst e2 e3
  have h3 : u / (B * B * B) % B = u / (B * B * B) := Nat.mod_eq_of_lt (Nat.div_lt_of_lt_mul (by rw [Nat.mul_comm]; rwa [Nat.mul_comm] at h))
  rw [h3, ← Nat.div_div_eq_div_mul u (B * B) B, Nat.div_add_mod', ← Nat.div_div_eq_div_mul u B B, Nat.div_add_mod', Nat.div_add_mod']
theorem foldl_four (f : Nat → Word → Nat) (a b c d : Word) : ([a, b, c, d].take 4).foldl f 0 = f (f (f (f 0 a) b) c) d := rfl
theorem uid_words (u : Nat) (h : u < 2 ^ 32 * 2 ^ 32 * 2 ^ 32 * 2 ^ 32) : wordsUid (uidWords u) = u := by
  have e : ∀ n : Nat, (w32 n).toNat = n % 2 ^ 32 := fun n => BitVec.toNat_ofNat n 32
  unfold wordsUid uidWords
  rw [foldl_four, e, e, e, e, Nat.zero_mul, Nat.zero_add]
  exact fold_words (2 ^ 32) (2 ^ 64) (2 ^ 96) u (by decide) (by decide) h
theorem own_uid_words : wordsUid (uidWords ownUid) = ownUid := uid_words ownUid (BitVec.isLt Config.deviceUid)
/-- a frame that carries no beacon tags is heard as any other -/
theorem heard_eq (d : Dev) (now n : Nat) (f g : LinkFrame) (hf : f.btagsOk = []) (hg : g.btagsOk = []) (hb : frameBufs f = frameBufs g) :
    d.heard now n f = d.heard now n g := by
  simp [Dev.heard, hf, hg, hb]
def linkF (k : Nat) : LinkFrame := body true [w32 (k * 0x1000000 + 0x700), 1, 2, 3, 4, 4] 5
def assignF (a b c d : Word) : LinkFrame :=
  let ws : List Word := [0x2C000000, 0x04000700, a, b, c, d, 0x0503, 0, 1, 2, 3, 4, 5, 6, 7, 8, 9, 10, 11, 12, 13, 14, 15, 0]
  { framing := true, words := ws, crc := crc16 ws, seq := 5, tagOk := true, btagsOk := [] }
/-- link 1 UP, at a node that has elected itself -/
def rootS : State := lnk 1 4 { rxExp := 5 } (fun d => { d with fab := { d.fab with root := some ownUid, collecting := true, topo := [(9, topoB 9 0)], topoAt := 1 } })
def farS : State := lnk 1 4 { rxExp := 5 } (fun d => { d with fab := { d.fab with parent := some 1, via := [(wordsUid [1, 2, 3, 4], 2), (wordsUid [1, 2, 3, 5], 2)] } })
theorem assign_len (a b c d : Word) : frameLen (assignF a b c d) = 22 ∧ frameTags (assignF a b c d) = 0 ∧ frameTransport (assignF a b c d) = false ∧
    frameKind (assignF a b c d) = 4 :=
  ⟨(rfl : _ = wordGet 0x2C000000 31 25).trans (by decide), (rfl : _ = wordGet 0x2C000000 23 22).trans (by decide),
    (rfl : _ = (0x2C000000 : Word).getLsbD 24).trans (by decide), (rfl : _ = wordGet 0x04000700 31 24).trans (by decide)⟩
theorem assign_bufs (a b c d : Word) : frameBufs (assignF a b c d) = 22 := by
  have h : frameLen (assignF a b c d) = 22 := (rfl : _ = wordGet 0x2C000000 31 25).trans (by decide)
  unfold frameBufs
  split
  · rw [h]; decide
  · rfl
theorem assign_good (a b c d : Word) : FrameGood farS.dev 1 (assignF a b c d) ∧ isLink 4 (assignF a b c d) = true := by
  obtain ⟨h1, h2, h3, h4⟩ := assign_len a b c d
  refine ⟨⟨rfl, rfl, ?_, h1 ▸ by decide, ?_, fun _ => rfl⟩, by simp [isLink, h1, h3, h4]⟩
  · show 5 % 256 = ((farS.dev.nlHear 1).nl 1).rxExp
    decide +kernel
  · rw [h1, h2]; rfl
theorem root_is : rootS.dev.isRoot = true := by
  show (some ownUid == some ownUid) = true
  simp
theorem heard_fab (d : Dev) (now n : Nat) (fr : LinkFrame) (h : fr.btagsOk = []) : (d.heard now n fr).fab.root = d.fab.root := by
  have : ∀ e : Dev, ((fr.btagsOk.take (frameTags fr)).foldl (fun (d : Dev) b => d.tagArrives now n b) e) = e := by simp [h]
  simp only [Dev.heard, this, ite_self, Dev.returnBufs]
  have e : ∀ e : Dev, (e.setReg (R.NL_CNT_RX n) (e.reg (R.NL_CNT_RX n) + 1)).fab.root = e.fab.root := fun _ => rfl
  rw [e]
  have r : (if frameBufs fr = 0 then (d.nlHear n).numberTaken now n else
      ((d.nlHear n).numberTaken now n).insertSyms now n (.credit (min 16 (max 1 ((frameBufs fr + 15) / 16))))).fab.root = (d.nlHear n).fab.root := by
    split <;> rfl
  rw [r]
  unfold Dev.nlHear
  simp only []
  split <;> rfl
theorem heard_root (fr : LinkFrame) (h : fr.btagsOk = []) : (rootS.dev.heard (rootS.clock 1000100) 1 fr).isRoot = true := by
  unfold Dev.isRoot; rw [heard_fab _ _ _ _ h]; exact root_is
theorem assign_uid (a b c d : Word) : wordsUid ((frameBody (assignF a b c d)).drop 1) = wordsUid [a, b, c, d] := by
  unfold frameBody; rw [(assign_len a b c d).1]; rfl
theorem assign_up (a b c d : Word) : (farS.dev.heard (farS.clock 1000100) 1 (assignF a b c d)).fabOn = true ∧ farS.dev.receiving 1 ∧
    FrameGood farS.dev 1 (assignF a b c d) ∧ isLink 4 (assignF a b c d) = true ∧ (farS.dev.heard (farS.clock 1000100) 1 (assignF a b c d)).nlState 1 = 4 := by
  rw [heard_eq farS.dev (farS.clock 1000100) 1 (assignF a b c d) (assignF 1 2 3 4) rfl rfl ((assign_bufs a b c d).trans (assign_bufs 1 2 3 4).symm)]
  exact ⟨by decide +kernel, by decide +kernel, (assign_good a b c d).1, (assign_good a b c d).2, by decide +kernel⟩
/-- of two identifiers one is another node's -/
theorem other_uid (p : Word → Prop) (h : ∀ w : Word, (w = 4 ∨ w = 5) → wordsUid [1, 2, 3, w] ≠ ownUid → p w) : p 4 ∨ p 5 := by
  rcases Decidable.em (wordsUid [1, 2, 3, 4] = ownUid) with e | e
  · exact .inr (h 5 (.inr rfl) (e ▸ by decide))
  · exact .inl (h 4 (.inl rfl) e)
theorem other_uid' : wordsUid [1, 2, 3, 6] ≠ ownUid ∨ wordsUid [1, 2, 3, 7] ≠ ownUid := by
  rcases Decidable.em (wordsUid [1, 2, 3, 6] = ownUid) with e | e
  · exact .inr (e ▸ by decide)
  · exact .inl e

/-! ## Witnesses -/

theorem witness_ClearCommandsZeroTheirCounters :
    (∃ (t : Nat) (who : Initiator) (s : State),
    (∃ n : Fin 8, Granted s who (R.WHL_CLR n)) ∧
    (∃ k : Fin 2, Granted s who (R.ANG_CTL k)) ∧
    (∃ k : Fin 2, Granted s who (R.PRED_CTL k)) ∧
    (Granted s who R.CARV_CTL) ∧
    (Granted s who R.TRIG_CTL) ∧
    (∃ n : Fin 24, Granted s who (R.IGN_CTL n)) ∧
    (∃ n : Fin 48, Granted s who (R.DRV_CTL n)) ∧
    (∃ b : Fin 12, Granted s who (R.BANK_CTL b)) ∧
    (∃ k : Fin 2, Granted s who (R.BST_CTL k)) ∧
    (∃ k : Fin 8, Granted s who (R.ADC_CTL k)) ∧
    (Granted s who R.SMPL_CTL) ∧
    (Granted s who R.KNK_CTL)) ∧
    (∃ (t : Nat) (who : Initiator) (s : State),
    (Granted s who R.CMB_CTL) ∧
    (Granted s who R.TRIM_CTL) ∧
    (∃ n : Fin 4, Granted s who (R.NL_CTL n)) ∧
    (Granted s who R.FAB_CTL) ∧
    (Granted s who R.BEAC_CTL) ∧
    (Granted s who R.FCOL_CTL) ∧
    (Granted s who R.SYS_CTL) ∧
    (Granted s who R.MRAMC_CTL)) :=
  ⟨⟨1000100, .sup, mk id, ⟨0, by decide +kernel⟩, ⟨0, by decide +kernel⟩, ⟨0, by decide +kernel⟩, by decide +kernel, by decide +kernel, ⟨0, by decide +kernel⟩, ⟨0, by decide +kernel⟩, ⟨0, by decide +kernel⟩, ⟨0, by decide +kernel⟩, ⟨0, by decide +kernel⟩, by decide +kernel, by decide +kernel⟩,
   ⟨1000100, .sup, mk id, by decide +kernel, by decide +kernel, ⟨0, by decide +kernel⟩, by decide +kernel, by decide +kernel, by decide +kernel, by decide +kernel, by decide +kernel⟩⟩

theorem witness_PageControlBitsAreWritten :
    (∃ (t : Nat) (who : Initiator) (pg : Fin 256) (b : Blk) (p : Nat) (s : State),
    (let still := s.dev.frozen pg = false ∨ s.dev.mode = 4 ∨ s.dev.mode = 9; (pageInfo pg = some (b, p)) ∧ (plainBlock b = true) ∧ Granted s who (R.PCTL pg) ∧ (s.dev.enabled pg = false) ∧ still) ∧
    ((pageInfo pg = some (b, p)) ∧ (plainBlock b = true) ∧ Granted s who (R.PCTL pg) ∧ (s.dev.frozen pg = false) ∧ (s.dev.mode = 4 ∨ s.dev.mode = 9))) ∧
    (∃ (t : Nat) (who : Initiator) (pg : Fin 256) (b : Blk) (p : Nat) (s : State),
    let still := s.dev.frozen pg = false ∨ s.dev.mode = 4 ∨ s.dev.mode = 9; (pageInfo pg = some (b, p)) ∧ (plainBlock b = true) ∧ Granted s who (R.PCTL pg) ∧ (s.dev.enabled pg = true) ∧ still ∧ (b = .carv ∨ b = .knk ∨ b = .trim ∨ b = .beac)) ∧
    (∃ (t : Nat) (who : Initiator) (pg : Fin 256) (b : Blk) (p : Nat) (s : State),
    (pageInfo pg = some (b, p)) ∧ (plainBlock b = true) ∧ Granted s who (R.PCTL pg) ∧ (s.dev.frozen pg = true) ∧ b ≠ .tmr) ∧
    (∃ (t : Nat) (who : Initiator) (pg : Fin 256) (b : Blk) (p : Nat) (s : State),
    (pageInfo pg = some (b, p)) ∧ (s.dev.mayWrite who (R.PCTL pg) 0 = true)) :=
  ⟨⟨1000100, .sup, 0x18, .carv, 0, mk (fun d => d.set F.SYS_MODE_MODE 4), by decide +kernel, by decide +kernel⟩,
   ⟨1000100, .sup, 0x18, .carv, 0, mk (fun d => d.on P.CARV), by decide +kernel⟩,
   ⟨1000100, .sup, 0x18, .carv, 0, mk (fun d => (d.on P.CARV).put (F.PCTL_FREEZE P.CARV) true), by decide +kernel⟩,
   ⟨1000100, .sup, 0x18, .carv, 0, mk id, by decide +kernel⟩⟩

theorem witness_InterruptBitsAndLockKeysAreWritten : ∃ (t : Nat) (who : Initiator) (pg : Fin 256) (b : Blk) (p : Nat) (v met : Word) (s : State),
    ((pageInfo pg = some (b, p)) ∧ Granted s who (R.PIRQ pg)) ∧
    ((pageInfo pg = some (b, p)) ∧ Granted s who (R.PIFRC pg)) ∧
    ((pageInfo pg = some (b, p)) ∧ Granted s who (R.PLOCK pg)) :=
  ⟨1000100, .sup, 0x18, .carv, 0, 5, 1, mk id, by decide +kernel, by decide +kernel, by decide +kernel⟩

theorem witness_SuppliesAndStageTimesAreWatched :
    (∃ (t mv : Nat) (chan : Fin 104) (s : State),
    ((s.dev.supply.under = false) ∧ 680 ≤ mv ∧ mv < 720) ∧
    (s.dev.supply.vddaLow = false) ∧
    (s.dev.supply.vbLow = false) ∧
    (s.dev.supply.forcedOff = false)) ∧
    (∃ (t mv : Nat) (chan : Fin 104) (s : State),
    ((s.dev.supply.under = true) ∧ mv < 680) ∧
    ((s.dev.supply.under = true) ∧ (s.dev.supply.brown = false))) ∧
    (∃ (t mv : Nat) (chan : Fin 104) (s : State),
    750 ≤ mv ∧ (s.dev.supply.vddcGoodSince = none)) ∧
    (∃ (t stage mv : Nat) (s : State),
    ∃ who : Initiator, Granted s who R.SYS_STGM_CTL) :=
  ⟨⟨1000100, 680, 3, mk id, by decide +kernel, by decide +kernel, by decide +kernel, by decide +kernel⟩,
   ⟨1000100, 0, 5, (mk (fun d => { d with supply := { d.supply with under := true } })), by decide +kernel, by decide +kernel⟩,
   ⟨1000100, 800, 3, mk id, by decide +kernel⟩,
   ⟨1000100, 3, 700, mk id, Sys2Proof.Machine.Initiator.sup, by decide +kernel⟩⟩

theorem witness_TheTimebaseFollowsTheReference :
    (∃ (t : Nat) (span : BitVec 16) (s : State),
    (s.dev.flag F.TB_STAT_REF_OK = true) ∧
    (let now := s.clock t; let implied := (now + 256) / 512 * 512; (s.dev.flag F.TB_STAT_HOLDOVER = true) ∧ implied < now)) ∧
    (∃ (t : Nat) (span : BitVec 16) (s : State),
    let now := s.clock t; let implied := (now + 256) / 512 * 512; (s.dev.flag F.TB_STAT_HOLDOVER = true) ∧ now ≤ implied) ∧
    (∃ (t : Nat) (span : BitVec 16) (s : State),
    let now := s.clock t; (s.dev.flag F.TB_STAT_SLEW = true) ∧ (s.dev.slewOfs now = 0)) ∧
    (∃ (t : Nat) (span : BitVec 16) (s : State),
    let now := s.clock t; ∃ by_, (s.dev.supply.refselBy = some by_) ∧ by_ ≤ now) ∧
    (∃ (t : Nat) (span : BitVec 16) (s : State),
    ∃ (who : Initiator) (v : Fin 2), Granted s who R.TB_CTL ∧ (s.dev.unlocked who P.TBASE = true) ∧ v.val ≠ s.dev.get F.TB_CTL_REFSEL ∧ (s.dev.mode = 4 ∨ s.dev.mode = 9)) :=
  ⟨⟨1000100, 77, mk (fun d => (d.put F.TB_STAT_HOLDOVER true).put F.TB_STAT_REF_OK true), by decide +kernel, by decide +kernel⟩,
   ⟨1000192, 77, mk (·.put F.TB_STAT_HOLDOVER true), by decide +kernel⟩,
   ⟨1000000, 0x77, mk (fun d => d.put F.TB_STAT_SLEW true), by decide +kernel⟩,
   ⟨1000100, 77, (mk (fun d => { d with supply := { d.supply with refselBy := some 4 } })), 4, by decide +kernel⟩,
   ⟨1000100, 77, mk (fun d => ((d.set F.SYS_MODE_MODE 4).put (F.PLOCK_UNLOCKED P.TBASE) true).set (F.PLOCK_OWNER P.TBASE) 0), Sys2Proof.Machine.Initiator.sup, 1, by decide +kernel⟩⟩

theorem witness_PowerOnClearsTheDieAndTheFirstLockStartsTheCount :
    (∃ (t mv ns : Nat) (span : BitVec 16) (pinLow vbat : Bool) (s : State),
    (mv < 620) ∧
    (ns < 200) ∧
    (s.dev.supply.started = false) ∧
    (s.dev.sys.good = false)) ∧
    (∃ (t mv ns : Nat) (span : BitVec 16) (pinLow vbat : Bool) (s : State),
    (1000 ≤ ns) ∧
    (s.dev.supply.started = true)) :=
  ⟨⟨1000100, 0, 199, 7, true, true, mk id, by decide +kernel, by decide +kernel, by decide +kernel, by decide +kernel⟩,
   ⟨1000100, 500, 1000, 7, true, true, (mk (fun d => { d with supply := { d.supply with started := true } })), by decide +kernel, by decide +kernel⟩⟩

theorem witness_ReadsLatchAndAct :
    (∃ (t : Nat) (who : Initiator) (s : State),
    (Readable s R.TB_NOW_LO) ∧
    (∃ n : Fin 8, Readable s (R.WHL_LAST_LO n)) ∧
    (∃ k : Fin 2, Readable s (R.ANG_POS k)) ∧
    (∃ k : Fin 2, Readable s (R.PRED_TK_LO k)) ∧
    (∃ n : Fin 24, Readable s (R.IGN_LAST_LO n)) ∧
    (∃ n : Fin 48, Readable s (R.DRV_LAST_LO n)) ∧
    (∃ k : Fin 8, Readable s (R.ADC_SWRES k)) ∧
    (∃ k : Fin 32, Readable s (R.TMR_WRAP_LO k)) ∧
    (∃ n : Fin 4, Readable s (R.NL_PEER n 0)) ∧
    (∃ f : Fin 4, Readable s (R.BEAC_STAT f)) ∧
    (Readable s R.FCOL_FIRST_W0) ∧
    (Readable s R.SYS_SAFE_TS_LO) ∧
    (Readable s R.RTC_TB_LO)) ∧
    (∃ (t : Nat) (who : Initiator) (s : State),
    (∃ k : Fin 2, Readable s (R.PRED_ANGLE k)) ∧
    (∃ n : Fin 8, let d := (s.dev.access (s.clock t) who).pioSettle (s.clock t) n; Readable s (R.PIO_RX n) ∧ (d.flag (F.PIO_STAT_RXF n) = false)) ∧
    (∃ n : Fin 4, let d := s.dev.access (s.clock t) who; Readable s (R.INTC_CLAIM n) ∧ (d.pinSource n = none)) ∧
    (∃ sub : Fin 32768, Readable s R.RTC_SUB) ∧
    (∃ w : Fin 64, Readable s (R.OPWR_RAM w)) ∧
    (∃ (w : Fin 64) (b : Fin 4), Readable s (R.OPWR_RAM w))) ∧
    (∃ (t : Nat) (who : Initiator) (s : State),
    (∃ n : Fin 8, let d := (s.dev.access (s.clock t) who).pioSettle (s.clock t) n; Readable s (R.PIO_RX n) ∧ (d.flag (F.PIO_STAT_RXF n) = true)) ∧
    (∃ n : Fin 4, let d := s.dev.access (s.clock t) who; Readable s (R.INTC_CLAIM n) ∧ ∃ src, d.pinSource n = some src)) :=
  ⟨⟨1000100, .sup, mk id, by decide +kernel, ⟨0, by decide +kernel⟩, ⟨0, by decide +kernel⟩, ⟨0, by decide +kernel⟩, ⟨0, by decide +kernel⟩, ⟨0, by decide +kernel⟩, ⟨0, by decide +kernel⟩, ⟨0, by decide +kernel⟩, ⟨0, by decide +kernel⟩, ⟨0, by decide +kernel⟩, by decide +kernel, by decide +kernel, by decide +kernel⟩,
   ⟨1000100, .sup, mk id, ⟨0, by decide +kernel⟩, ⟨0, by decide +kernel⟩, ⟨0, by decide +kernel⟩, ⟨0, by decide +kernel⟩, ⟨0, by decide +kernel⟩, 0, 0, by decide +kernel⟩,
   ⟨1000100, .host, sync 0 3 (fun d => intr 4 0x1E5 (d.put (F.PIO_STAT_RXF 3) true)), ⟨3, by decide +kernel⟩, 1, by decide +kernel, 485, by decide +kernel⟩⟩

theorem witness_PresetWritesLoadTheirFunction :
    (∃ (t : Nat) (who : Initiator) (pg : Fin 256) (b : Blk) (p pa : Nat) (code : Fin 16) (s : State),
    (pageInfo pg = some (b, p)) ∧ pa ∈ presetWords b p ∧ Granted s who pa ∧ 1 ≤ code.val ∧ code.val ≤ presetTop b ∧ (b = .ang → s.dev.enabled pg = false)) ∧
    (∃ (d : Dev) (pg : Fin 256) (b : Blk) (p pa : Nat) (code : Fin 16),
    (pageInfo pg = some (b, p)) ∧ pa ∈ presetWords b p ∧ 1 ≤ code.val ∧ code.val ≤ presetTop b) :=
  ⟨⟨1000100, .sup, 8, .whl, 0, 0x40008040, 1, mk id, by decide +kernel⟩,
   ⟨Dev.reset, 8, .whl, 0, 0x40008040, 1, by decide +kernel⟩⟩

theorem witness_RegisterWritesAreCheckedAndMade :
    (∃ (t : Nat) (who : Initiator) (v : Word) (s : State),
    ∃ (pg : Fin 256) (b : Blk) (p : Nat), (pageInfo pg = some (b, p)) ∧ Granted s who (R.PIEN pg)) ∧
    (∃ (t : Nat) (who : Initiator) (v : Word) (s : State),
    ∃ (pg : Fin 256) (b : Blk) (p : Nat), (pageInfo pg = some (b, p)) ∧ Granted s .sup (R.PACC pg)) ∧
    (∃ (t : Nat) (who : Initiator) (v : Word) (s : State),
    ∃ (a : Nat) (b : Blk) (p i : Nat) (row : RRow), (isPageAddr a = true) ∧ (a % 4 = 0) ∧ 0x40 ≤ a % 0x1000 ∧ (pageInfo (pageOf a) = some (b, p)) ∧ (rowAt b p (a % 0x1000) = some (row, i)) ∧ b ≠ .cmb ∧ (rwlMask row.fields = 0 ∨ s.dev.unlocked who (pageOf a) = true) ∧ Granted s who a v) ∧
    (∃ (t : Nat) (who : Initiator) (v : Word) (s : State),
    ∃ a, (isPageAddr a = true) ∧ (a % 4 = 0) ∧ (s.dev.restarting (pageOf a) = false ∨ a % 0x1000 = 8) ∧ (s.dev.mayWrite who a v = false)) ∧
    (∃ (t : Nat) (who : Initiator) (v : Word) (s : State),
    ∃ a, (isPageAddr a = true) ∧ (a % 4 = 0) ∧ (s.dev.restarting (pageOf a) = true) ∧ a % 0x1000 ≠ 8) ∧
    (∃ (t : Nat) (who : Initiator) (v : Word) (s : State),
    ∃ a, (isPageAddr a = false) ∧ (inWindow a = false) ∧ (coreMem who a = none)) ∧
    (∃ (pg : Fin 256) (b : Blk) (p o i : Nat) (row : RRow), (pageInfo pg = some (b, p) ∧ rowAt b p o = some (row, i)) ∧ ∃ f, f ∈ row.fields) :=
  ⟨⟨1000100, .sup, 5, mk id, 24, .carv, 0, by decide +kernel⟩,
   ⟨1000100, .sup, 5, mk id, 255 - 231, .carv, 0, by decide +kernel⟩,
   ⟨1000100, .sup, 5, mk id, R.CARV_RES 3, .carv, 0, _, _, rfl, rfl, by decide, rfl, rfl, by decide, .inl rfl, by decide +kernel⟩,
   ⟨1000100, .app0, 5, mk id, R.CARV_RES 3, by decide +kernel⟩,
   ⟨1000100, .sup, 5, mk (·.put (F.PSTAT_RESTARTING P.CARV) true), R.CARV_RES 3, by decide +kernel⟩,
   ⟨1000100, .host, 5, mk id, 0x40007000, by decide +kernel⟩,
   ⟨24, .carv, 0, R.CARV_RES 3 % 0x1000, _, _, ⟨by decide +kernel, rfl⟩, _, List.mem_cons_self⟩⟩

theorem witness_WindowStoresWriteTheirBytes :
    (∃ (t : Nat) (who : Initiator) (a size : Nat) (v : Word) (s : State),
    let d0 := s.dev; let b := a / 4 * 4; let may := fun (pg : Nat) => d0.pacc who pg = true ∧ d0.bootBars who pg = false; ((size = 1 ∨ size = 2 ∨ size = 4) ∧ (a % size = 0)) ∧ ∃ n : Fin 8, let e := d0.pioSettle (s.clock t) n; (winOwner b = some (P.PIO n)) ∧ may (P.PIO n) ∧ (e.pioState n = 0)) ∧
    (∃ (t : Nat) (who : Initiator) (a size : Nat) (v : Word) (s : State),
    let d0 := s.dev; let b := a / 4 * 4; let may := fun (pg : Nat) => d0.pacc who pg = true ∧ d0.bootBars who pg = false; let busy := if b < 0x41204000 then (d0.reg R.CMB_CYLEN).getLsbD (b % 0x1000 / 0x20) else d0.vtabBusy ((b - 0x41204000) / 0x2000); (size = 1 ∨ size = 2 ∨ size = 4) ∧ (a % size = 0) ∧ (winOwner b = some P.CMB) ∧ may P.CMB ∧ (busy = false)) ∧
    (∃ (t : Nat) (who : Initiator) (a size : Nat) (v : Word) (s : State),
    let d0 := s.dev; let b := a / 4 * 4; let may := fun (pg : Nat) => d0.pacc who pg = true ∧ d0.bootBars who pg = false; let busy := d0.runEn (b % 0x1000 / 0x100) (b % 0x100 / 0x10) || d0.runAct (b % 0x1000 / 0x100) (b % 0x100 / 0x10); (size = 1 ∨ size = 2 ∨ size = 4) ∧ (a % size = 0) ∧ (winOwner b = some P.SMPL) ∧ may P.SMPL ∧ (busy = false)) ∧
    (∃ (t : Nat) (who : Initiator) (a size : Nat) (v : Word) (s : State),
    let d0 := s.dev; let b := a / 4 * 4; let may := fun (pg : Nat) => d0.pacc who pg = true ∧ d0.bootBars who pg = false; (size = 1 ∨ size = 2 ∨ size = 4) ∧ (a % size = 0) ∧ (winOwner b = some P.PROF) ∧ may P.PROF) ∧
    (∃ (t : Nat) (who : Initiator) (a size : Nat) (v : Word) (s : State),
    let d0 := s.dev; let b := a / 4 * 4; let may := fun (pg : Nat) => d0.pacc who pg = true ∧ d0.bootBars who pg = false; ((size = 1 ∨ size = 2 ∨ size = 4) ∧ (a % size = 0)) ∧ ∃ k : Fin 2, (winOwner b = some (P.PRED k)) ∧ may (P.PRED k) ∧ (b % 8 = 4)) ∧
    (∃ (t : Nat) (who : Initiator) (a size : Nat) (v : Word) (s : State),
    let d0 := s.dev; let b := a / 4 * 4; let may := fun (pg : Nat) => d0.pacc who pg = true ∧ d0.bootBars who pg = false; ((size = 1 ∨ size = 2 ∨ size = 4) ∧ (a % size = 0)) ∧ ∃ k : Fin 2, (winOwner b = some (P.PRED k)) ∧ may (P.PRED k) ∧ (b % 8 = 0) ∧ (d0.flag (F.PRED_DUNE_LEARN k) = false)) ∧
    (∃ (t : Nat) (who : Initiator) (a size : Nat) (v : Word) (s : State),
    let d0 := s.dev; let b := a / 4 * 4; let may := fun (pg : Nat) => d0.pacc who pg = true ∧ d0.bootBars who pg = false; ((size = 1 ∨ size = 2 ∨ size = 4) ∧ (a % size = 0)) ∧ ∃ k : Fin 2, (winOwner b = some (P.ANG k)) ∧ may (P.ANG k) ∧ (d0.enabled (P.ANG k) = false)) ∧
    (∃ (t : Nat) (who : Initiator) (a size : Nat) (v : Word) (s : State),
    let b := a / 4 * 4; (size = 1 ∨ size = 2 ∨ size = 4) ∧ (a % size = 0) ∧ (inWindow a = true) ∧ a < 0x60000000 ∧ (winOwner b = none)) ∧
    (∃ (t : Nat) (who : Initiator) (a size : Nat) (v : Word) (s : State),
    (size = 1 ∨ size = 2 ∨ size = 4) ∧ (a % size = 0) ∧ 0x60000000 ≤ a ∧ a < 0x61000000) ∧
    (∃ (t : Nat) (who : Initiator) (a size : Nat) (v : Word) (s : State),
    let d0 := s.dev; let may := fun (pg : Nat) => d0.pacc who pg = true ∧ d0.bootBars who pg = false; (size = 1 ∨ size = 2 ∨ size = 4) ∧ (a % size = 0) ∧ 0x20000000 ≤ a ∧ a + size ≤ 0x20100000 ∧ may P.RING) ∧
    (∃ (t : Nat) (who : Initiator) (a size : Nat) (v : Word) (s : State),
    let d0 := s.dev; let b := a / 4 * 4; let may := fun (pg : Nat) => d0.pacc who pg = true ∧ d0.bootBars who pg = false; ((size = 1 ∨ size = 2 ∨ size = 4) ∧ (a % size = 0)) ∧ ∃ pg, (winOwner b = some pg) ∧ ¬ may pg) ∧
    (∃ (t : Nat) (who : Initiator) (a size : Nat) (v : Word) (s : State),
    let d0 := s.dev; let b := a / 4 * 4; let may := fun (pg : Nat) => d0.pacc who pg = true ∧ d0.bootBars who pg = false; ((size = 1 ∨ size = 2 ∨ size = 4) ∧ (a % size = 0)) ∧ ∃ k : Fin 2, (winOwner b = some (P.ANG k)) ∧ may (P.ANG k) ∧ (d0.enabled (P.ANG k) = true)) ∧
    (∃ (t : Nat) (who : Initiator) (a size : Nat) (v : Word) (s : State),
    let d0 := s.dev; let b := a / 4 * 4; let may := fun (pg : Nat) => d0.pacc who pg = true ∧ d0.bootBars who pg = false; ((size = 1 ∨ size = 2 ∨ size = 4) ∧ (a % size = 0)) ∧ ∃ n : Fin 8, let e := d0.pioSettle (s.clock t) n; (winOwner b = some (P.PIO n)) ∧ may (P.PIO n) ∧ e.pioState n ≠ 0) ∧
    (∃ (t : Nat) (who : Initiator) (a size : Nat) (v : Word) (s : State),
    let d0 := s.dev; let b := a / 4 * 4; let may := fun (pg : Nat) => d0.pacc who pg = true ∧ d0.bootBars who pg = false; let busy := if b < 0x41204000 then (d0.reg R.CMB_CYLEN).getLsbD (b % 0x1000 / 0x20) else d0.vtabBusy ((b - 0x41204000) / 0x2000); (size = 1 ∨ size = 2 ∨ size = 4) ∧ (a % size = 0) ∧ (winOwner b = some P.CMB) ∧ may P.CMB ∧ (busy = true)) :=
  ⟨⟨1000100, .sup, 0x413003FC, 4, 0xA5C37E19, mk id, by decide +kernel, 7, by decide +kernel⟩,
   ⟨1000100, .sup, 0x41213FFC, 4, 0xA5C37E19, mk id, by decide +kernel⟩,
   ⟨1000100, .sup, 0x412001FC, 4, 0xA5C37E19, mk id, by decide +kernel⟩,
   ⟨1000100, .sup, 0x41100FFC, 4, 0xA5C37E19, mk id, by decide +kernel⟩,
   ⟨1000100, .sup, 0x41008004, 4, 0xA5C37E19, mk id, by decide +kernel, 0, by decide +kernel⟩,
   ⟨1000100, .sup, 0x41009000, 4, 0xA5C37E19, mk id, by decide +kernel, 1, by decide +kernel⟩,
   ⟨1000100, .sup, 0x41004804, 2, 0xA5C37E19, mk id, by decide +kernel, 1, by decide +kernel⟩,
   ⟨1000100, .sup, 0x41300400, 2, 0xA5C37E19, mk id, by decide +kernel⟩,
   ⟨1000100, .sup, 0x60FFFFFC, 4, 0xA5C37E19, mk id, by decide +kernel⟩,
   ⟨1000100, .sup, 0x200FFFFC, 4, 0xA5C37E19, mk id, by decide +kernel⟩,
   ⟨1000100, .host, 0x41000004, 4, 0xA5C37E19, mk id, by decide +kernel, 16, by decide +kernel⟩,
   ⟨1000100, .sup, 0x41004804, 4, 0xA5C37E19, mk (fun d => d.on (P.ANG 1)), by decide +kernel, 1, by decide +kernel⟩,
   ⟨1000100, .sup, 0x413000FC, 4, 0xA5C37E19, mk (fun d => d.set (F.PIO_STAT_STATE 1) 1), by decide +kernel, 1, by decide +kernel⟩,
   ⟨1000100, .sup, 0x412012E4, 4, 0xA5C37E19, mk (fun d => d.setReg R.CMB_CYLEN 0x800000), by decide +kernel⟩⟩

theorem witness_WindowStoresWriteTheirBytes_2 :
    (∃ (t : Nat) (who : Initiator) (a size : Nat) (v : Word) (s : State),
    let d0 := s.dev; let b := a / 4 * 4; let may := fun (pg : Nat) => d0.pacc who pg = true ∧ d0.bootBars who pg = false; let busy := d0.runEn (b % 0x1000 / 0x100) (b % 0x100 / 0x10) || d0.runAct (b % 0x1000 / 0x100) (b % 0x100 / 0x10); (size = 1 ∨ size = 2 ∨ size = 4) ∧ (a % size = 0) ∧ (winOwner b = some P.SMPL) ∧ may P.SMPL ∧ (busy = true)) ∧
    (∃ (t : Nat) (who : Initiator) (a size : Nat) (v : Word) (s : State),
    let d0 := s.dev; let b := a / 4 * 4; let may := fun (pg : Nat) => d0.pacc who pg = true ∧ d0.bootBars who pg = false; ((size = 1 ∨ size = 2 ∨ size = 4) ∧ (a % size = 0)) ∧ ∃ k : Fin 2, (winOwner b = some (P.PRED k)) ∧ may (P.PRED k) ∧ (b % 8 = 0) ∧ (d0.flag (F.PRED_DUNE_LEARN k) = true)) :=
  ⟨⟨1000100, .sup, 0x41200000, 4, 0xA5C37E19, mk (fun d => d.setReg (R.SMPL_DOM_RUN 0) 1), by decide +kernel⟩,
   ⟨1000100, .sup, 0x41009000, 4, 0xA5C37E19, mk (fun d => d.put (F.PRED_DUNE_LEARN 1) true), by decide +kernel, 1, by decide +kernel⟩⟩

theorem witness_ABlockRestartResetsItsPage :
    (∃ (d : Dev) (pg : Fin 256) (b : Blk) (p a : Nat),
    (pageInfo pg = some (b, p)) ∧ (smSorted d.regs = true)) ∧
    (∃ (t : Nat) (who : Initiator) (pg : Fin 256) (b : Blk) (p : Nat) (s : State),
    (pageInfo pg = some (b, p)) ∧ (b = .trig ∨ b = .hostp ∨ b = .sec ∨ b = .mramc ∨ b = .beac ∨ b = .mon) ∧ Granted s who (R.PCTL pg)) ∧
    (∃ (t : Nat) (pg : Fin 256) (s : State),
    (s.dev.restarting pg = true) ∧ (∀ p, pageInfo pg ≠ some (.nl, p) ∧ pageInfo pg ≠ some (.core, p))) :=
  ⟨⟨Dev.reset, 0x18, .carv, 0, 0, by decide +kernel⟩,
   ⟨1000100, .sup, 4, .sec, 0, mk id, by decide +kernel⟩,
   ⟨1000100, 4, mk (fun d => d.put (F.PSTAT_RESTARTING 4) true), by decide +kernel, fun p => by rw [show pageInfo (4 : Fin 256) = some (.sec, 0) from by decide]; simp⟩⟩

theorem witness_HostTransactionsAreCheckedFirst : ∃ (t : Nat) (cmd addr : Word) (crc : BitVec 16) (data : List Word) (err : Fin 3) (met : List Grant) (k : Fin 257) (code : Nat) (s : State),
    (hostCheck false cmd addr [] crc = some code) ∧
    (hostCheck true cmd addr data crc = some code) :=
  ⟨1000100, cmdW 1 3 0x77, 0x08000000, okc (cmdW 1 3 0x77) 0x08000000 [] + 1, [], 0, [], 1, 1, mk id, by decide +kernel, by decide +kernel⟩

theorem witness_HostBurstsMoveTheirWords :
    (∃ (t : Nat) (cmd addr : Word) (crc : BitVec 16) (data : List Word) (k : Fin 257) (s : State),
    (let a := 4 * addr.toNat; let n := wordGet cmd 23 16 + 1; 0x20000000 ≤ a ∧ a < 0x20100000 ∧ (s.dev.pacc .host P.RING = true) ∧ (hostCheck false cmd addr [] crc = none) ∧ a % 0x1000 + 4 * n ≤ 0x1000 ∧ k.val < n) ∧
    (let a := 4 * addr.toNat; let n := wordGet cmd 23 16 + 1; (0x20000000 ≤ a ∧ a < 0x20100000 ∧ (s.dev.pacc .host P.RING = true) ∧ (hostCheck false cmd addr [] crc = none) ∧ a % 0x1000 + 4 * n ≤ 0x1000) ∧ ∃ g : Grant, (g.who = .sup) ∧ g.word < n ∧ 0x20000000 ≤ g.addr ∧ g.addr < 0x20100000 ∧ (g.addr % 4 = 0) ∧ (s.dev.pacc .sup P.RING = true))) ∧
    (∃ (t : Nat) (cmd addr : Word) (crc : BitVec 16) (data : List Word) (k : Fin 257) (s : State),
    let a := 4 * addr.toNat; 0x20000000 ≤ a ∧ a < 0x20100000 ∧ (s.dev.pacc .host P.RING = true) ∧ (hostCheck true cmd addr data crc = none) ∧ a % 0x1000 + 4 * data.length ≤ 0x1000) :=
  ⟨⟨1000100, cmdW 1 3 0x77, 0x08000000, okc (cmdW 1 3 0x77) 0x08000000 [], [], 1, mk id, by decide +kernel, by decide +kernel, { word := 1, who := Sys2Proof.Machine.Initiator.sup, addr := 536870916, v := 0x00000077#32 }, by decide +kernel⟩,
   ⟨1000100, cmdW 2 256 0x77, 0x08000000, okc (cmdW 2 256 0x77) 0x08000000 [], [], 1, mk (·.setReg (R.PACC P.RING) 15), by decide +kernel⟩⟩

theorem witness_WheelInputsFilterTheirTransitions :
    (∃ (t : Nat) (n : Fin 8) (pin : Bool) (peak dip : Nat) (frac : Fin 65536) (up : Bool) (par : Fin 3) (cur c w : Nat) (s : State),
    (let x := s.dev.whl n; let type := s.dev.eff (F.WHL_CFG_TYPE n); let lvl := if type = 0 then pin else xor pin (s.dev.effB (F.WHL_CFG_INVERT n)); (s.dev.captures n = true) ∧ (type = 0) ∧ (x.cand = none) ∧ (s.dev.takesEdge n lvl = true) ∧ (s.dev.arms n (peak * 65536 + frac) = true)) ∧
    (let type := s.dev.eff (F.WHL_CFG_TYPE n); (type = 0) ∧ (s.dev.captures n = true) ∧ (s.dev.flag (F.WHL_STAT_SENS_OPEN n) = false)) ∧
    (let type := s.dev.eff (F.WHL_CFG_TYPE n); (type = 0) ∧ (s.dev.captures n = true) ∧ (s.dev.flag (F.WHL_STAT_SENS_SHORT n) = false))) ∧
    (∃ (t : Nat) (n : Fin 8) (pin : Bool) (peak dip : Nat) (frac : Fin 65536) (up : Bool) (par : Fin 3) (cur c w : Nat) (s : State),
    (let x := s.dev.whl n; let now := s.clock t; let type := s.dev.eff (F.WHL_CFG_TYPE n); let lvl := if type = 0 then pin else xor pin (s.dev.effB (F.WHL_CFG_INVERT n)); (s.dev.captures n = true) ∧ type ≠ 0 ∧ (x.more = []) ∧ (lvl = x.kept) ∧ (x.cand = some c) ∧ c + s.dev.glitchTu n ≤ now) ∧
    (let x := s.dev.whl n; let now := s.clock t; let type := s.dev.eff (F.WHL_CFG_TYPE n); (s.dev.captures n = true) ∧ (type = 1) ∧ (x.cand = some c) ∧ c + s.dev.glitchTu n ≤ now ∧ (s.dev.takesEdge n (!x.kept) = false))) ∧
    (∃ (t : Nat) (n : Fin 8) (pin : Bool) (peak dip : Nat) (frac : Fin 65536) (up : Bool) (par : Fin 3) (cur c w : Nat) (s : State),
    s.dev.captures n = false) ∧
    (∃ (t : Nat) (n : Fin 8) (pin : Bool) (peak dip : Nat) (frac : Fin 65536) (up : Bool) (par : Fin 3) (cur c w : Nat) (s : State),
    let x := s.dev.whl n; let type := s.dev.eff (F.WHL_CFG_TYPE n); let lvl := if type = 0 then pin else xor pin (s.dev.effB (F.WHL_CFG_INVERT n)); (s.dev.captures n = true) ∧ type ≠ 0 ∧ (x.more = []) ∧ lvl ≠ x.kept) ∧
    (∃ (t : Nat) (n : Fin 8) (pin : Bool) (peak dip : Nat) (frac : Fin 65536) (up : Bool) (par : Fin 3) (cur c w : Nat) (s : State),
    let x := s.dev.whl n; let type := s.dev.eff (F.WHL_CFG_TYPE n); (s.dev.captures n = true) ∧ (type = 0) ∧ (x.cand = some c) ∧ (s.dev.pastBand n (dip * 65536) = false)) ∧
    (∃ (t : Nat) (n : Fin 8) (pin : Bool) (peak dip : Nat) (frac : Fin 65536) (up : Bool) (par : Fin 3) (cur c w : Nat) (s : State),
    let x := s.dev.whl n; let now := s.clock t; let type := s.dev.eff (F.WHL_CFG_TYPE n); let lvl := if type = 0 then pin else xor pin (s.dev.effB (F.WHL_CFG_INVERT n)); (s.dev.captures n = true) ∧ type ≠ 0 ∧ (x.more = []) ∧ (lvl = x.kept) ∧ (x.cand = some c) ∧ now < c + s.dev.glitchTu n) ∧
    (∃ (t : Nat) (n : Fin 8) (pin : Bool) (peak dip : Nat) (frac : Fin 65536) (up : Bool) (par : Fin 3) (cur c w : Nat) (s : State),
    let x := s.dev.whl n; let mx := max (s.dev.eff (F.WHL_DIR_PW_MAX n)) (s.dev.eff (F.WHL_DIR_PW_THR n) + 1) * 1280; (x.lead = some c) ∧ (x.width = some w) ∧ mx ≤ w) :=
  ⟨⟨1000100, 2, true, 900, 5000000, 0, true, 0, 0, 512, 0, W 2 0 (·.set (F.WHL_CFG_EDGE 2) 1), by decide +kernel, by decide +kernel, by decide +kernel⟩,
   ⟨1000100, 2, false, 900, 5000000, 0, true, 0, 0, 512, 0, (W 2 1 (·.setWhl 2 { cand := some 512, tLast := some 7 })), by decide +kernel, by decide +kernel⟩,
   ⟨1000100, 2, true, 900, 5000000, 0, true, 0, 0, 0, 0, mk id, by decide +kernel⟩,
   ⟨1000100, 2, true, 900, 5000000, 0, true, 0, 0, 0, 0, W 2 1 id, by decide +kernel⟩,
   ⟨1000100, 2, false, 900, 0, 0, true, 0, 0, 512, 0, (W 2 0 (·.setWhl 2 { cand := some 512, tLast := some 7 })), by decide +kernel⟩,
   ⟨1000100, 2, false, 900, 0, 0, true, 0, 0, 999990, 0, (W 2 1 (fun d => (d.set (F.WHL_FILT_GLITCH 2) 50).setWhl 2 { cand := some 999990, tLast := some 7 })), by decide +kernel⟩,
   ⟨1000100, 2, true, 900, 5000000, 0, true, 0, 0, 512, 4294967295, (W 2 2 (fun d => (d.put (F.WHL_STAT_LEVEL 2) true).setWhl 2 { lead := some 512, width := some 4294967295, given := true })), by decide +kernel⟩⟩

theorem witness_WheelEdgesMeetTheQualifier :
    (∃ (t : Nat) (n : Fin 8) (dip : Nat) (up : Bool) (par : Fin 3) (cur c : Nat) (s : State),
    (∃ (j : Fin 2), ∃ e, (s.dev.frozen (P.ANG j) = false) ∧ (s.dev.restarting (P.ANG j) = false) ∧ (s.dev.heldEdges j = [(n.val, e)])) ∧
    (let x := s.dev.whl n; let now := s.clock t; ∃ by_, (x.commitBy = some by_) ∧ by_ ≤ now ∧ (s.dev.flag (F.PCTL_SHDW_HOLD (P.WHL n)) = false))) ∧
    (∃ (t : Nat) (n : Fin 8) (dip : Nat) (up : Bool) (par : Fin 3) (cur c : Nat) (s : State),
    let x := s.dev.whl n; let now := s.clock t; let ts := c - s.dev.eff (F.WHL_DLY_DLY n); let role := s.dev.get (F.WHL_BIND_ROLE n); let k := s.dev.get (F.WHL_BIND_DOMAIN n); (s.dev.captures n = true) ∧ (s.dev.eff (F.WHL_CFG_TYPE n) = 1) ∧ (x.cand = some c) ∧ c + s.dev.glitchTu n ≤ now ∧ (s.dev.takesEdge n (!x.kept) = true) ∧ (role = 0 ∨ (s.dev.heldEdges k = [] ∧ s.dev.itsTurn now n ts = true)) ∧ (role = 0) ∧ (x.tLast = none) ∧ ts < 2 ^ 64) ∧
    (∃ (t : Nat) (n : Fin 8) (dip : Nat) (up : Bool) (par : Fin 3) (cur c : Nat) (s : State),
    let x := s.dev.whl n; let now := s.clock t; let ts := c - s.dev.eff (F.WHL_DLY_DLY n); let role := s.dev.get (F.WHL_BIND_ROLE n); let k := s.dev.get (F.WHL_BIND_DOMAIN n); ((s.dev.captures n = true) ∧ (s.dev.eff (F.WHL_CFG_TYPE n) = 1) ∧ (x.cand = some c) ∧ c + s.dev.glitchTu n ≤ now ∧ (s.dev.takesEdge n (!x.kept) = true) ∧ (role = 0 ∨ (s.dev.heldEdges k = [] ∧ s.dev.itsTurn now n ts = true))) ∧ ∃ l, (x.tLast = some l) ∧ ts - l < s.dev.eff (F.WHL_FILT_QUAL_MINT n) * 4096) ∧
    (∃ (t : Nat) (n : Fin 8) (dip : Nat) (up : Bool) (par : Fin 3) (cur c : Nat) (s : State),
    let x := s.dev.whl n; let now := s.clock t; let ts := c - s.dev.eff (F.WHL_DLY_DLY n); let role := s.dev.get (F.WHL_BIND_ROLE n); let k := s.dev.get (F.WHL_BIND_DOMAIN n); ((s.dev.captures n = true) ∧ (s.dev.eff (F.WHL_CFG_TYPE n) = 1) ∧ (x.cand = some c) ∧ c + s.dev.glitchTu n ≤ now ∧ (s.dev.takesEdge n (!x.kept) = true) ∧ (role = 0 ∨ (s.dev.heldEdges k = [] ∧ s.dev.itsTurn now n ts = true))) ∧ ∃ l p q, (x.tLast = some l) ∧ s.dev.eff (F.WHL_FILT_QUAL_MINT n) * 4096 ≤ ts - l ∧ role ≠ 0 ∧ (s.dev.predFor k (role - 1) = some (p, q)) ∧ (s.dev.effB (F.WHL_QUAL_QBYPASS n) = false) ∧ (ts - l) * 100 * q ≤ s.dev.eff (F.WHL_QUAL_W_MIN n) * p) :=
  ⟨⟨1000100, 2, 5000000, true, 0, 0, 511, (W 2 1 (fun d => ((d.set (F.WHL_CFG_EDGE 2) 2).set (F.WHL_BIND_ROLE 2) 2).setWhl 2 { q := [wedge0], cand := none, tLast := some 100, commitBy := some 511 })), ⟨0, { t := 1000000, ratio := 0, late := false, dir := false, hold := false, prev := none }, by decide +kernel⟩, 511, by decide +kernel⟩,
   ⟨1000100, 2, 5000000, true, 0, 0, 511, (W 2 1 (fun d => (d.set (F.WHL_CFG_EDGE 2) 2).setWhl 2 { cand := some 511 })), by decide +kernel⟩,
   ⟨1000100, 2, 5000000, true, 0, 0, 511, (W 2 1 (fun d => ((d.set (F.WHL_CFG_EDGE 2) 2).set (F.WHL_FILT_QUAL_MINT 2) 3).setWhl 2 { cand := some 511, tLast := some 100 })), by decide +kernel, 100, by decide +kernel⟩,
   ⟨1000100, 2, 5000000, true, 0, 0, 511, (W 2 1 (fun d => ((((d.set (F.WHL_CFG_EDGE 2) 2).set (F.WHL_BIND_ROLE 2) 2).set (F.WHL_FILT_QUAL_MINT 2) 0).set (F.WHL_QUAL_W_MIN 2) 100).setWhl 2 { cand := some 511, tLast := some 100, commitBy := some 511 } |>.setPred 0 { (d.pred 0) with valid := true, pNext := 1000000 } |>.set (F.ANG_STATE_STATE 0) 3 |>.set (F.ANG_STATE_SRC 0) 1 )), by decide +kernel, 100, 1000000, 1, by decide +kernel⟩⟩

theorem witness_DomainsAreEnabledAndCommanded :
    (∃ (t : Nat) (who : Initiator) (k : Fin 2) (s : State),
    (s.dev.mayWrite who (R.PCTL (P.ANG k)) 0 = true) ∧
    (Granted s who (R.ANG_CTL k)) ∧
    (Granted s who (R.PRED_CTL k) ∧ (s.dev.flag (F.PRED_DUNE_LEARN k) = false)) ∧
    (∃ (i : Fin 512) (v : Word), (s.dev.pacc who (P.PRED k) = true) ∧ (s.dev.bootBars who (P.PRED k) = false) ∧ (s.dev.flag (F.PRED_DUNE_LEARN k) = false))) ∧
    (∃ (t : Nat) (who : Initiator) (k : Fin 2) (s : State),
    ∃ (i : Fin 512) (v : Word), (s.dev.pacc who (P.PRED k) = true) ∧ (s.dev.bootBars who (P.PRED k) = false) ∧ (s.dev.flag (F.PRED_DUNE_LEARN k) = true)) ∧
    (∃ (d : Dev) (now : Nat) (k : Fin 2),
    d.enabled (P.ANG k) = false) :=
  ⟨⟨1000100, .sup, 0, sync 0 3, by decide +kernel, by decide +kernel, by decide +kernel, 0, 0x00000000#32, by decide +kernel⟩,
   ⟨1000100, .sup, 0, sync 0 3 (fun d => d.put (F.PRED_DUNE_LEARN 0) true), 0, 0x00000000#32, by decide +kernel⟩,
   ⟨tbl 0 Dev.reset, 1000100, 0, by decide +kernel⟩⟩

theorem witness_DomainLimitsActWhenTheyPass :
    (∃ (t : Nat) (k : Fin 2) (c : Fin 3) (cur i t0 p q : Nat) (s : State),
    (let d := s.dev; let a := d.ang k; let st := d.angState k; let now := s.clock t; let crankLost := d.running (P.ANG k) = true ∧ a.tSrc = some t0 ∧ d.predFor k (d.srcRole k) = some (p, q) ∧ d.srcRole k = 0 ∧ t0 + d.eff (F.ANG_LOSS_CRANK_LOSS k) * p ≤ now; (st = 2 ∨ st = 3 ∨ st = 4) ∧ crankLost ∧ (d.flag (F.ANG_STATE_RED_OK k) = false) ∧ (d.bestCam k = none)) ∧
    (let d := s.dev; let a := d.ang k; let st := d.angState k; let now := s.clock t; (d.running (P.ANG k) = true) ∧ 1 ≤ st ∧ st ≤ 5 ∧ a.tAny + d.eff (F.ANG_STALL_STALL_T k) * 1280000 ≤ now) ∧
    (let d := s.dev; let x := d.pred k; let now := s.clock t; (x.valid = true) ∧ (x.held = false) ∧ (d.flag (F.ANG_STATE_REVERSE k) = false) ∧ ((angDiff (d.angRange k) x.thHold x.thk : Nat) : Int) ≤ advanceOf x.omega x.acc x.sNext x.dNext (now - x.tk))) ∧
    (∃ (t : Nat) (k : Fin 2) (c : Fin 3) (cur i t0 p q : Nat) (s : State),
    (let d := s.dev; let a := d.ang k; let st := d.angState k; (st = 2) ∧ (a.phaseTold = false) ∧ a.phaseAt + d.eff (F.ANG_LOSS_PHASE_TO k) * 377487360 ≤ a.run) ∧
    (let d := s.dev; let a := d.ang k; let st := d.angState k; let camLate := d.roleEn k (c + 2) = true ∧ vGet a.camLost c = false ∧ vGet a.camAt c + d.eff (F.ANG_LOSS_CAM_LOSS_CYC k) * d.cycleLen k ≤ a.run; let camOut := fun (d : Dev) => ((d.setAng k { a with camLost := vSet a.camLost c true }).camOk k c false).rep (P.ANG k) 0x18 1; let others := (List.range 3).all (fun c => !(camOut d).roleEn k (c + 2) || vGet ((camOut d).ang k).camLost c); 2 ≤ st ∧ st ≤ 5 ∧ camLate ∧ (others = false ∨ st ≠ 3 ∨ d.fourStroke k = false))) ∧
    (∃ (t : Nat) (k : Fin 2) (c : Fin 3) (cur i t0 p q : Nat) (s : State),
    let d := s.dev; let a := d.ang k; let st := d.angState k; let now := s.clock t; let crankLost := d.running (P.ANG k) = true ∧ a.tSrc = some t0 ∧ d.predFor k (d.srcRole k) = some (p, q) ∧ d.srcRole k = 0 ∧ t0 + d.eff (F.ANG_LOSS_CRANK_LOSS k) * p ≤ now; (st = 3 ∨ st = 4) ∧ crankLost ∧ (vGet a.idx 1 = some i) ∧ (d.flag (F.ANG_STATE_RED_OK k) = true)) ∧
    (∃ (t : Nat) (k : Fin 2) (c : Fin 3) (cur i t0 p q : Nat) (s : State),
    let d := s.dev; let a := d.ang k; let st := d.angState k; (st = 1) ∧ (a.gs.told = false) ∧ 2 * d.nRev k ≤ a.gs.n) ∧
    (∃ (t : Nat) (k : Fin 2) (c : Fin 3) (cur i t0 p q : Nat) (s : State),
    let d := s.dev; let a := d.ang k; let st := d.angState k; let camLate := d.roleEn k (c + 2) = true ∧ vGet a.camLost c = false ∧ vGet a.camAt c + d.eff (F.ANG_LOSS_CAM_LOSS_CYC k) * d.cycleLen k ≤ a.run; let camOut := fun (d : Dev) => ((d.setAng k { a with camLost := vSet a.camLost c true }).camOk k c false).rep (P.ANG k) 0x18 1; let others := (List.range 3).all (fun c => !(camOut d).roleEn k (c + 2) || vGet ((camOut d).ang k).camLost c); (st = 3) ∧ camLate ∧ (others = true) ∧ (d.fourStroke k = true)) :=
  ⟨⟨3000000000000, 0, 0, 7, 0, 980000, 25600, 1, sync 0 3 id, by decide +kernel, by decide +kernel, by decide +kernel⟩,
   ⟨30000000, 0, 0, 7, 0, 980000, 25600, 1, (sync 0 2 (fun d => (d.set (F.ANG_LOSS_PHASE_TO 0) 1).updAng 0 (fun a => { a with run := 4000000000 }))), by decide +kernel, by decide +kernel⟩,
   ⟨30000000, 0, 0, 7, 0, 980000, 25600, 1, sync 0 3 (fun d => d.put (F.ANG_STATE_RED_OK 0) true), by decide +kernel⟩,
   ⟨30000000, 0, 0, 7, 0, 980000, 25600, 1, (sync 0 1 (fun d => d.updAng 0 (fun a => { a with gs := { a.gs with n := 1000 } }))), by decide +kernel⟩,
   ⟨30000000, 0, 0, 7, 0, 980000, 25600, 1, (sync 0 3 (fun d => d.updAng 0 (fun a => { a with run := 400000000000, camLost := vSet a.camLost 1 true })) 0), by decide +kernel⟩⟩

theorem witness_ArmRequestsTakeSlots :
    (∃ (t : Nat) (r : Fin 8) (s : State),
    (let d := s.dev; let now := s.clock t; let ready := fun (d : Dev) => d.ringEn r = true ∧ d.flag (F.CARV_ARM_CFG_EN r) = true ∧ d.running P.CARV = true ∧ d.ringFill r ≠ 0; let served := fun (d : Dev) => ready (d.trimUpdates now) ∧ (d.trimUpdates now).carv.stalled.contains r.val = false; ready d ∧ served d) ∧
    (let d := s.dev; (d.ringEn r = true) ∧ d.ringFill r ≠ 0)) ∧
    (∃ (t : Nat) (r : Fin 8) (s : State),
    let d := s.dev; ∃ (who : Initiator) (w3 : Word), Granted s who (R.CARV_DARM_W 3) ∧ (d.running P.CARV = false) ∧ (d.trimQ = [])) ∧
    (∃ (t : Nat) (r : Fin 8) (s : State),
    let d := s.dev; let now := s.clock t; let ready := fun (d : Dev) => d.ringEn r = true ∧ d.flag (F.CARV_ARM_CFG_EN r) = true ∧ d.running P.CARV = true ∧ d.ringFill r ≠ 0; let served := fun (d : Dev) => ready (d.trimUpdates now) ∧ (d.trimUpdates now).carv.stalled.contains r.val = false; let freed : Dev := { d with carv := { d.carv with stalled := d.carv.stalled.filter (· != r.val) } }; (d.carv.stalled.contains r.val = true) ∧ (d.mayTake r = true) ∧ served freed) :=
  ⟨⟨1000100, 2, sync 0 3 (fun d => (ring d 2 1 [20000000, w1 3 0 1, 512000, 0x01FF004D]).put (F.CARV_ARM_CFG_EN 2) true), by decide +kernel, by decide +kernel⟩,
   ⟨1000100, 2, sync 0 3 (fun d => d.put (F.PCTL_ENABLE P.CARV) false), Sys2Proof.Machine.Initiator.sup, 0x00000000#32, by decide +kernel⟩,
   ⟨1000100, 2, (sync 0 3 (fun d => { (ring d 2 1 [20000000, w1 3 0 9, 512000, 0x01FF004D]).put (F.CARV_ARM_CFG_EN 2) true with carv := { d.carv with stalled := [2, 3] } })), by decide +kernel⟩⟩

theorem witness_SlotsCommitCancelAndShow :
    (∃ (t : Nat) (who : Initiator) (w : Word) (slot : Fin 256) (s : State),
    ((s.dev.committing (s.dev.slot slot).c.dom = true) ∧ (((s.dev.lead (s.dev.slot slot).c.dom).map (·.1)).contains slot.val = true)) ∧
    (Granted s who R.CARV_CANCEL) ∧
    (Granted s who R.CARV_CTL)) ∧
    (∃ (t : Nat) (who : Initiator) (w : Word) (slot : Fin 256) (s : State),
    ∃ n ofs l, s.dev.trimQ = (n, ofs) :: l) ∧
    (∃ (t : Nat) (who : Initiator) (w : Word) (idx : Fin 4) (s : State),
    (Granted s who (R.CARV_RES idx)) ∧
    (Granted s who R.CARV_INSP_SEL)) :=
  ⟨⟨1000100, .sup, 0, 2, armed0, by decide +kernel, by decide +kernel, by decide +kernel⟩,
   ⟨1000100, .sup, 0, 0, (armed0 0 (fun d => { d.updSlot 0 (fun x => { x with startC := true, st := 7 }) with trimQ := [(3, 77), (4, 5)] })), 3, 77, [(4, 5)], by decide +kernel⟩,
   ⟨1000100, .sup, 0, 2, armed0, by decide +kernel, by decide +kernel⟩⟩

theorem witness_ChannelsReleaseTheirEdges : ∃ (t : Nat) (chan : Fin 104) (cur : Nat) (s : State),
    (let c := s.dev.chan chan; let now := s.clock t; ∃ e rel, (c.pend = some e) ∧ (c.releaseTime e s.dev.supply.under now = some rel) ∧ (s.dev.sparkWait chan e rel = none)) ∧
    (∃ (who : Initiator) (n : Fin 32) (sel : Fin 8), Granted s who (R.TAPC_CFG n)) ∧
    (∃ (who : Initiator) (mask : Word), Granted s who R.TRIG_SW) :=
  ⟨1400000, 3, 3, armed0, ⟨{ slot := 0, gen := 0, start := true, act := 1, dom := 0, target := 1000851, place := 1000851, prio := 0, aseq := 0, decided := 1000000, tag := 11, ready := 0 }, 1000851, by decide +kernel⟩, ⟨Sys2Proof.Machine.Initiator.sup, 0, 0, by decide +kernel⟩, Sys2Proof.Machine.Initiator.sup, 0x00000000#32, by decide +kernel⟩

theorem witness_IgnitionChannelsWatchTheirCharge :
    (∃ (t : Nat) (n : Fin 24) (lvl : Bool) (s : State),
    (let x := s.dev.ign n; let now := s.clock t; (x.high = true) ∧ (x.ended = false) ∧ x.since + s.dev.ignMax n ≤ now) ∧
    (let x := s.dev.ign n; let now := s.clock t; (x.high = true) ∧ x.since + s.dev.eff (F.IGN_FB_RISE_MAX n) * 12800 ≤ now ∧ (s.dev.effB (F.IGN_FB_EN n) = true) ∧ (x.fbAt = none) ∧ (x.nochg = false)) ∧
    (∃ who : Initiator, Granted s who (R.IGN_CTL n))) ∧
    (∃ (t : Nat) (n : Fin 24) (lvl : Bool) (s : State),
    (let x := s.dev.ign n; x.high = false) ∧
    (let x := s.dev.ign n; let now := s.clock t; ∃ fell, (x.fell = some fell) ∧ (s.dev.effB (F.IGN_FB_EN n) = true) ∧ (s.dev.ignFb n = true) ∧ fell + s.dev.eff (F.IGN_FB2_FALL_MAX n) * 12800 ≤ now)) ∧
    (∃ (t : Nat) (n : Fin 24) (lvl : Bool) (s : State),
    let now := s.clock t; ∃ v, (s.dev.soft.ivs = [v]) ∧ (v.risen = true) ∧ (v.fallen = false) ∧ v.ts ≤ now) ∧
    (∃ (t : Nat) (n : Fin 24) (lvl : Bool) (s : State),
    let x := s.dev.ign n; let now := s.clock t; (x.high = true) ∧ (x.fbAt = none) ∧ (xor lvl (s.dev.effB (F.IGN_FB_POL n)) = true) ∧ (s.dev.effB (F.IGN_FB_EN n) = true) ∧ now - x.since < s.dev.eff (F.IGN_FB_RISE_MIN n) * 12800 ∧ (s.dev.effB (F.IGN_FB_INH_SHORT n) = false)) :=
  ⟨⟨9991000100, 2, true, (mk (fun d => (fun d => d.setIgn 2 { high := true, since := 999000 }) ((d.on (P.IGN 2)).put (F.IGN_FB_EN 2) true))), by decide +kernel, by decide +kernel, Sys2Proof.Machine.Initiator.sup, by decide +kernel⟩,
   ⟨99900000100, 2, true, (mk (fun d => (fun d => (d.setIgn 2 { high := false, since := 999000, fell := some 1000000, fb := true })) ((d.on (P.IGN 2)).put (F.IGN_FB_EN 2) true))), by decide +kernel, 1000000, by decide +kernel⟩,
   ⟨1000100, 2, false, (mk (fun d => (fun d => { d with soft := { ivs := [{ rise := 1, ts := 500, fall := 600, chans := [2], risen := true }] } }) ((d.on (P.IGN 2)).put (F.IGN_FB_EN 2) true))), { rise := 1, ts := 500, fall := 600, chans := [2], risen := true, fallen := false }, by decide +kernel⟩,
   ⟨1000100, 2, true, (mk (fun d => (fun d => ((d.set (F.IGN_FB_RISE_MIN 2) 20).put (F.IGN_FB_INH_SHORT 2) false).setIgn 2 { high := true, since := 999000 }) ((d.on (P.IGN 2)).put (F.IGN_FB_EN 2) true))), by decide +kernel⟩⟩

theorem witness_WaitingStartsGoOnOrAreDropped :
    (∃ (t : Nat) (b : Fin 12) (n : Fin 48) (m cur : Nat) (w : DrvWait) (s : State),
    ((firstWait (s.dev.bankWaits b) = some (m, w)) ∧ (s.dev.mayAdmit m w = true)) ∧
    (let x := s.dev.drv n; let now := s.clock t; x.waits.find? (fun w => w.why == 2 && !w.pre && decide (w.since + s.dev.eff (F.BANK_CFG_MAX_DELAY (bankOf n)) * 12800 ≤ now)) = some w)) ∧
    (∃ (t : Nat) (b : Fin 12) (n : Fin 48) (m cur : Nat) (w : DrvWait) (s : State),
    (let x := s.dev.drv n; (x.waits.find? (fun w => w.why == 3) = some w) ∧ (s.dev.flag (F.BST_STAT_READY_ST (bstOf n)) = true)) ∧
    (let x := s.dev.drv n; let now := s.clock t; (x.waits.find? (fun w => w.why == 3) = some w) ∧ w.since + hdr (s.dev.profCopy (s.dev.eff (F.DRV_CFG_PROF n))) 0 31 16 * 12800 ≤ now)) ∧
    (∃ (t : Nat) (b : Fin 12) (n : Fin 48) (m cur : Nat) (w : DrvWait) (s : State),
    let x := s.dev.drv n; let now := s.clock t; let tolerated := x.waits.find? (fun w => w.late == 0 && (match w.tol with | some t => decide (t ≤ now) | none => false)) = some w; let policy := if s.dev.occLive w.occ then s.dev.latePolicy (s.dev.slot w.occ.slot).c else w.occ.policy; tolerated ∧ (policy = 0)) ∧
    (∃ (t : Nat) (b : Fin 12) (n : Fin 48) (m cur : Nat) (w : DrvWait) (s : State),
    let x := s.dev.drv n; let now := s.clock t; let tolerated := x.waits.find? (fun w => w.late == 0 && (match w.tol with | some t => decide (t ≤ now) | none => false)) = some w; let policy := if s.dev.occLive w.occ then s.dev.latePolicy (s.dev.slot w.occ.slot).c else w.occ.policy; tolerated ∧ (policy = 2)) ∧
    (∃ (t : Nat) (b : Fin 12) (n : Fin 48) (m cur : Nat) (w : DrvWait) (s : State),
    let x := s.dev.drv n; let now := s.clock t; let tolerated := x.waits.find? (fun w => w.late == 0 && (match w.tol with | some t => decide (t ≤ now) | none => false)) = some w; let policy := if s.dev.occLive w.occ then s.dev.latePolicy (s.dev.slot w.occ.slot).c else w.occ.policy; tolerated ∧ policy ≠ 0 ∧ policy ≠ 2) :=
  ⟨⟨999999999999, 1, 5, 5, 3, w0, (mk (fun d => (fun d => d.setDrv 5 { waits := [w0] }) ((((d.on (P.DRV 5)).on (P.BANK 1)).on (P.BST 0)).set F.SYS_MODE_MODE 7))), by decide +kernel, by decide +kernel⟩,
   ⟨999999999999, 1, 5, 5, 3, ({ w0 with why := 3 } : DrvWait), (mk (fun d => (fun d => (d.put (F.BST_STAT_READY_ST (bstOf 5)) true).setDrv 5 { waits := [{ w0 with why := 3 }] }) ((((d.on (P.DRV 5)).on (P.BANK 1)).on (P.BST 0)).set F.SYS_MODE_MODE 7))), by decide +kernel, by decide +kernel⟩,
   ⟨1000100, 1, 5, 5, 3, ({ w0 with tol := some 7 } : DrvWait), (mk (fun d => (fun d => d.setDrv 5 { waits := [{ w0 with tol := some 7 }] }) ((((d.on (P.DRV 5)).on (P.BANK 1)).on (P.BST 0)).set F.SYS_MODE_MODE 7))), by decide +kernel⟩,
   ⟨1000100, 1, 5, 5, 3, ({ w0 with tol := some 7, occ := { policy := 2 } } : DrvWait), (mk (fun d => (fun d => d.setDrv 5 { waits := [{ w0 with tol := some 7, occ := { policy := 2 } }] }) ((((d.on (P.DRV 5)).on (P.BANK 1)).on (P.BST 0)).set F.SYS_MODE_MODE 7))), by decide +kernel⟩,
   ⟨1000100, 1, 5, 5, 3, ({ w0 with tol := some 7, occ := { policy := 1 } } : DrvWait), (mk (fun d => (fun d => d.setDrv 5 { waits := [{ w0 with tol := some 7, occ := { policy := 1 } }] }) ((((d.on (P.DRV 5)).on (P.BANK 1)).on (P.BST 0)).set F.SYS_MODE_MODE 7))), by decide +kernel⟩⟩

theorem witness_ProfilesRunThroughTheirPhases :
    (∃ (t : Nat) (n : Fin 48) (cur peak : Nat) (raws : List Nat) (hi : Bool) (s : State),
    (let x := s.dev.drv n; let now := s.clock t; let k := x.phase; (x.st = 2) ∧ (x.chg = false) ∧ (x.cut = false) ∧ x.offAt + phFdT x.prof k ≤ now ∧ (phFast x.prof k = true) ∧ phSupply x.prof k ≠ 0) ∧
    (let x := s.dev.drv n; let now := s.clock t; (x.st = 2) ∧ (s.dev.exitHolds now n cur = true)) ∧
    (let x := s.dev.drv n; let now := s.clock t; let k := x.phase; (x.st = 2) ∧ x.phaseAt + phTmax x.prof k ≤ now ∧ (phExit x.prof k = 1) ∧ (phAbort x.prof k = false)) ∧
    (let x := s.dev.drv n; let k := x.phase; (x.st = 2) ∧ (phArmdet x.prof k = false))) ∧
    (∃ (t : Nat) (n : Fin 48) (cur peak : Nat) (raws : List Nat) (hi : Bool) (s : State),
    (let x := s.dev.drv n; let now := s.clock t; let k := x.phase; let thr := if hi then phHi x.prof k else phLo x.prof k; let r := max (s.dev.rsh n) 1; let at_ := if hi then (dacCode thr r * 250 + r - 1) / r else dacCode thr r * 250 / r; (x.st = 2) ∧ (hi = true → s.dev.eff (F.DRV_DIAG_RISE_MIN n) * 1280 + x.start ≤ now) ∧ (s.dev.exitHolds now n at_ = false) ∧ phSupply x.prof k ≠ 0 ∧ (hi = true)) ∧
    (let x := s.dev.drv n; let now := s.clock t; (x.st = 2) ∧ (hasArmdet x.prof (List.range (nph x.prof)) = true) ∧ x.start + hdr x.prof 2 31 16 * 1280 ≤ now)) ∧
    (∃ (t : Nat) (n : Fin 48) (cur peak : Nat) (raws : List Nat) (hi : Bool) (s : State),
    (let x := s.dev.drv n; x.st ≠ 2 ∧ x.st ≠ 6) ∧
    (let x := s.dev.drv n; let now := s.clock t; (x.st = 3) ∧ x.decayEnd ≤ now ∧ (x.flags &&& 0xFF46#16 = 0))) ∧
    (∃ (t : Nat) (n : Fin 48) (cur peak : Nat) (raws : List Nat) (hi : Bool) (s : State),
    let x := s.dev.drv n; let now := s.clock t; let k := x.phase; let thr := if hi then phHi x.prof k else phLo x.prof k; let r := max (s.dev.rsh n) 1; let at_ := if hi then (dacCode thr r * 250 + r - 1) / r else dacCode thr r * 250 / r; (x.st = 2) ∧ (hi = true → s.dev.eff (F.DRV_DIAG_RISE_MIN n) * 1280 + x.start ≤ now) ∧ (s.dev.exitHolds now n at_ = false) ∧ phSupply x.prof k ≠ 0 ∧ (hi = false) ∧ (phFast x.prof k = false)) ∧
    (∃ (t : Nat) (n : Fin 48) (cur peak : Nat) (raws : List Nat) (hi : Bool) (s : State),
    let x := s.dev.drv n; let now := s.clock t; (x.st = 4) ∧ x.offEnd ≤ now ∧ (x.waits = [])) :=
  ⟨⟨1100000, 5, 0, 300, [200], true, mk (fun d => (((((d.on (P.DRV 5)).on (P.BANK (bankOf 5))).on (P.BST (bstOf 5))).set F.SYS_MODE_MODE 7).set (F.DRV_SENSE_RSH 5) 20).setDrv 5 (x0 (prof 2 1 1 0 0))), by decide +kernel, by decide +kernel, by decide +kernel, by decide +kernel⟩,
   ⟨999100000, 5, 0, 300, [200], true, mk (fun d => (((((d.on (P.DRV 5)).on (P.BANK (bankOf 5))).on (P.BST (bstOf 5))).set F.SYS_MODE_MODE 7).set (F.DRV_SENSE_RSH 5) 20).setDrv 5 (x0 (prof 2 1 3 1 0))), by decide +kernel, by decide +kernel⟩,
   ⟨1100000, 5, 300, 300, [200], true, (mk (fun d => (((((d.on (P.DRV 5)).on (P.BANK (bankOf 5))).on (P.BST (bstOf 5))).set F.SYS_MODE_MODE 7).set (F.DRV_SENSE_RSH 5) 20).setDrv 5 ({ x0 (prof 0 0 1 0 0) with st := 3 } : Drv))), by decide +kernel, by decide +kernel⟩,
   ⟨1000100, 5, 200, 300, [200], false, mk (fun d => (((((d.on (P.DRV 5)).on (P.BANK (bankOf 5))).on (P.BST (bstOf 5))).set F.SYS_MODE_MODE 7).set (F.DRV_SENSE_RSH 5) 20).setDrv 5 (x0 (prof 1 0 3 0 0))), by decide +kernel⟩,
   ⟨1100000, 5, 300, 300, [200], true, (mk (fun d => (((((d.on (P.DRV 5)).on (P.BANK (bankOf 5))).on (P.BST (bstOf 5))).set F.SYS_MODE_MODE 7).set (F.DRV_SENSE_RSH 5) 20).setDrv 5 ({ x0 (prof 0 0 1 0 0) with st := 4 } : Drv))), by decide +kernel⟩⟩

theorem witness_DriveProtectionsEndTheirOutputs :
    (∃ (t : Nat) (who : Initiator) (n : Fin 48) (b : Fin 12) (v cur : Nat) (s : State),
    (let x := s.dev.drv n; let now := s.clock t; ∃ on, (x.onAt = some on) ∧ (x.active = true) ∧ on + s.dev.eff (F.DRV_TIM_ON_MAX n) * 128000 ≤ now) ∧
    (let x := s.dev.drv n; x.gateOn = true) ∧
    (let now := s.clock t; (s.dev.highSideOn b = false) ∧ 128000 ≤ s.dev.hsAge now b ∧ s.dev.eff (F.BANK_DIAG_SW_HI b) < v) ∧
    (Granted s who (R.DRV_CTL n)) ∧
    (Granted s who (R.BANK_CTL b))) ∧
    (∃ (t : Nat) (who : Initiator) (n : Fin 48) (b : Fin 12) (v cur : Nat) (s : State),
    (let x := s.dev.drv n; let now := s.clock t; (x.conducts = false) ∧ (s.dev.highSideOn (bankOf n) = true) ∧ 64000 ≤ s.dev.hsAge now (bankOf n) ∧ s.dev.eff (F.DRV_DIAG2_OFF_I n) * s.dev.rsh n * 2 < v * 125) ∧
    ((s.dev.highSideOn b = true) ∧ s.dev.eff (F.BANK_DIAG_SW_LO b) ≤ v)) ∧
    (∃ (t : Nat) (who : Initiator) (n : Fin 48) (b : Fin 12) (v cur : Nat) (s : State),
    let x := s.dev.drv n; let now := s.clock t; let len := max 1 (s.dev.dutyWin n / 16); now < x.bktAt + len ∧ x.bktAt ≤ now ∧ (x.duty = false) ∧ (x.active = false) ∧ s.dev.eff (F.DRV_DUTY_DUTY_MAX n) * s.dev.dutyWin n ≤ 100 * x.dutySum now ∧ (x.bktFrom = none)) ∧
    (∃ (t : Nat) (who : Initiator) (n : Fin 48) (b : Fin 12) (v cur : Nat) (s : State),
    let now := s.clock t; (s.dev.highSideOn b = true) ∧ 25600 ≤ s.dev.hsAge now b ∧ v < s.dev.eff (F.BANK_DIAG_SW_LO b)) :=
  ⟨⟨999000000, .sup, 5, 1, 300, 200, (mk (fun d => (fun d => d.setDrv 5 { x0 (prof 1 0 1 0 0) with onAt := some 900000, chg := true }) (((((d.on (P.DRV 5)).on (P.BANK (bankOf 5))).on (P.BST (bstOf 5))).set F.SYS_MODE_MODE 7).set (F.DRV_SENSE_RSH 5) 20))), ⟨900000, by decide +kernel⟩, by decide +kernel, by decide +kernel, by decide +kernel, by decide +kernel⟩,
   ⟨999000000, .sup, 5, 1, 3000, 200, (mk (fun d => (fun d => (d.put (F.BANK_STAT_HV 1) true).setDrv 5 { x0 (prof 1 0 1 0 0) with st := 0 }) (((((d.on (P.DRV 5)).on (P.BANK (bankOf 5))).on (P.BST (bstOf 5))).set F.SYS_MODE_MODE 7).set (F.DRV_SENSE_RSH 5) 20))), by decide +kernel, by decide +kernel⟩,
   ⟨999000000, .sup, 5, 1, 3, 200, (mk (fun d => (fun d => (d.set (F.DRV_DUTY_DUTY_WIN 5) 1).setDrv 5 { st := 0, bktAt := 998900000, bkts := [900000000] }) (((((d.on (P.DRV 5)).on (P.BANK (bankOf 5))).on (P.BST (bstOf 5))).set F.SYS_MODE_MODE 7).set (F.DRV_SENSE_RSH 5) 20))), by decide +kernel⟩,
   ⟨999000000, .sup, 5, 1, 3, 200, (mk (fun d => (fun d => ((d.set (F.BANK_DIAG_SW_LO 1) 10).put (F.BANK_STAT_HB 1) true).setDrv 5 { x0 (prof 1 0 1 0 0) with chg := true }) (((((d.on (P.DRV 5)).on (P.BANK (bankOf 5))).on (P.BST (bstOf 5))).set F.SYS_MODE_MODE 7).set (F.DRV_SENSE_RSH 5) 20))), by decide +kernel⟩⟩

theorem witness_BoostConvertersAndProfileLoads :
    (∃ (t : Nat) (who : Initiator) (k : Fin 2) (p : Fin 16) (vhv vb : Fin 4096) (s : State),
    (s.dev.running (P.BST k) = true) ∧
    (let x := s.dev.bst k; let now := s.clock t; (s.dev.flag (F.BST_STAT_SWITCHING k) = true) ∧ (x.gate = true) ∧ x.cycAt + s.dev.eff (F.BST_SW_TON k) * 128 ≤ now) ∧
    (let x := s.dev.bst k; let now := s.clock t; (s.dev.flag (F.BST_STAT_SWITCHING k) = true) ∧ x.cycAt + (s.dev.eff (F.BST_SW_TON k) + s.dev.eff (F.BST_SW_TOFF k)) * 128 ≤ now ∧ (x.stop = true)) ∧
    (let x := s.dev.bst k; let now := s.clock t; ∃ since, (x.notReady = some since) ∧ (x.toDone = false) ∧ since + s.dev.eff (F.BST_LIM_CHG_TO k) * 12800000 ≤ now) ∧
    (Granted s who R.PROF_LOAD ∧ (s.dev.flag F.PROF_LSTAT_PEND = false))) ∧
    (∃ (t : Nat) (who : Initiator) (k : Fin 2) (p : Fin 16) (vhv vb : Fin 4096) (s : State),
    let q := profCheck (s.dev.words (0x41100000 + p * 0x100) 36); (s.dev.prof.load = some p.val) ∧ q.1 ≠ 0) ∧
    (∃ (t : Nat) (who : Initiator) (k : Fin 2) (p : Fin 16) (vhv vb : Fin 4096) (s : State),
    let x := s.dev.bst k; let now := s.clock t; (s.dev.flag (F.BST_STAT_SWITCHING k) = true) ∧ x.cycAt + (s.dev.eff (F.BST_SW_TON k) + s.dev.eff (F.BST_SW_TOFF k)) * 128 ≤ now ∧ (x.stop = false)) ∧
    (∃ (t : Nat) (who : Initiator) (k : Fin 2) (p : Fin 16) (vhv vb : Fin 4096) (s : State),
    let q := profCheck (s.dev.words (0x41100000 + p * 0x100) 36); (s.dev.prof.load = some p.val) ∧ (q.1 = 0)) :=
  ⟨⟨99999999000100, .sup, 1, 3, 200, 500, (mk (fun d => (fun d => (d.put (F.BST_STAT_SWITCHING 1) true).setBst 1 { gate := true, cycAt := 20, stop := true, notReady := some 40 }) ((((d.on (P.BST 1)).on P.PROF)).set F.SYS_MODE_MODE 7))), by decide +kernel, by decide +kernel, by decide +kernel, ⟨40, by decide +kernel⟩, by decide +kernel⟩,
   ⟨1000100, .sup, 1, 3, 200, 500, (mk (fun d => (fun d => ({ d with prof := { load := some 3 } } : Dev).put F.PROF_LSTAT_PEND true) ((((d.on (P.BST 1)).on P.PROF)).set F.SYS_MODE_MODE 7))), by decide +kernel⟩,
   ⟨1000100, .sup, 1, 3, 200, 500, (mk (fun d => (fun d => (d.put (F.BST_STAT_SWITCHING 1) true).setBst 1 { gate := true, cycAt := 20 }) ((((d.on (P.BST 1)).on P.PROF)).set F.SYS_MODE_MODE 7))), by decide +kernel⟩,
   ⟨1000100, .sup, 1, 3, 200, 500, (mk (fun d => (fun d => (({ d with prof := { load := some 3 } } : Dev).put F.PROF_LSTAT_PEND true).setWords (0x41100000 + 0x300) (prof 1 0 1 0 0)) ((((d.on (P.BST 1)).on P.PROF)).set F.SYS_MODE_MODE 7))), by decide +kernel⟩⟩

theorem witness_ConvertersServeTheirRequestsAndCylindersAreSet :
    (∃ (t : Nat) (who : Initiator) (k : Fin 8) (inp : Fin 64) (uv : Int) (q : AdcReq) (t0 : Nat) (s : State),
    (let a := s.dev.adc k; let now := s.clock t; let quick := s.dev.flag F.SYS_VMON_UNDERSPEC = false ∨ now ≤ t0 + 800; (a.conv = some (q, t0)) ∧ quick ∧ (q.cls = 4)) ∧
    (let a := s.dev.adc k; Granted s who (R.ADC_SW k) ∧ (s.dev.running (P.ADC k) = true) ∧ (a.q = []))) ∧
    (∃ (t : Nat) (who : Initiator) (k : Fin 8) (inp : Fin 64) (uv : Int) (q : AdcReq) (t0 : Nat) (s : State),
    let a := s.dev.adc k; let now := s.clock t; (a.busy = false) ∧ (s.dev.running (P.ADC k) = true) ∧ (a.q.filter (fun q => decide (q.target ≤ a.busyEnd)) = []) ∧ (earliest a.q = some q) ∧ q.target ≤ now) ∧
    (∃ (t : Nat) (who : Initiator) (k : Fin 8) (inp : Fin 64) (uv : Int) (q : AdcReq) (t0 : Nat) (s : State),
    let a := s.dev.adc k; (a.busy = false) ∧ (s.dev.running (P.ADC k) = true) ∧ (∀ r ∈ a.q, r.target ≤ a.busyEnd → a.busyEnd - r.target ≤ s.dev.tBusy k) ∧ (bestReq (a.q.filter (fun q => decide (q.target ≤ a.busyEnd))) = some q)) ∧
    (∃ (t : Nat) (who : Initiator) (k : Fin 8) (inp : Fin 64) (uv : Int) (q : AdcReq) (t0 : Nat) (s : State),
    let a := s.dev.adc k; let now := s.clock t; (a.busy = true) ∧ (a.conv = none) ∧ a.busyEnd ≤ now ∧ a.q ≠ []) ∧
    (∃ (t : Nat) (who : Initiator) (k : Fin 8) (inp : Fin 64) (uv : Int) (q : AdcReq) (t0 : Nat) (s : State),
    let a := s.dev.adc k; let now := s.clock t; let quick := s.dev.flag F.SYS_VMON_UNDERSPEC = false ∨ now ≤ t0 + 800; (a.conv = some (q, t0)) ∧ quick ∧ (q.cls = 0)) ∧
    (∃ (t : Nat) (who : Initiator) (w : Word) (s : State),
    (Granted s who R.CMB_CYLEN) ∧
    (Granted s who R.CMB_INSP_SEL) ∧
    (Granted s who R.TRIM_ZERO_LO) ∧
    (Granted s who R.TRIM_ZERO_HI)) :=
  ⟨⟨1000100, .sup, 2, 5, 2500000, ({ r0 with cls := 4, inp := 32 } : AdcReq), 0, (mk (fun d => (d.on (P.ADC 2)).setAdc 2 ({ q := [], conv := some ({ r0 with cls := 4, inp := 32 }, 0), busy := true } : Adc))), by decide +kernel, by decide +kernel⟩,
   ⟨1000100, .sup, 2, 5, 2500000, r0, 0, (mk (fun d => (d.on (P.ADC 2)).setAdc 2 ({ q := [r0] } : Adc))), by decide +kernel⟩,
   ⟨1000100, .sup, 2, 5, 2500000, r0, 0, (mk (fun d => (d.on (P.ADC 2)).setAdc 2 ({ q := [r0], busyEnd := 900000 } : Adc))), by decide +kernel⟩,
   ⟨1000100, .sup, 2, 5, 2500000, ({ r0 with cls := 4 } : AdcReq), 0, (mk (fun d => (d.on (P.ADC 2)).setAdc 2 ({ q := [{ r0 with cls := 4 }], busyEnd := 900000, busy := true } : Adc))), by decide +kernel⟩,
   ⟨1000100, .sup, 2, 5, 2500000, ({ r0 with cls := 0, src := 19 } : AdcReq), 990000, (mk (fun d => (d.on (P.ADC 2)).setAdc 2 ({ q := [r0], conv := some ({ r0 with cls := 0, src := 19 }, 990000), busy := true } : Adc))), by decide +kernel⟩,
   ⟨1000100, .sup, 0, mk id, by decide +kernel, by decide +kernel, by decide +kernel, by decide +kernel⟩⟩

theorem witness_RunsAndKnockWindowsFollowTheirAngles :
    (∃ (t : Nat) (who : Initiator) (k : Fin 2) (r : Fin 16) (w : Word) (n : Fin 32) (c : Fin 8) (p : Int) (ts : Nat) (s : State),
    (Granted s who (R.SMPL_DOM_RUN k)) ∧
    (let now := s.clock t; let dom := s.dev.get (F.KNK_WIN_A_DOM n); let ch := s.dev.get (F.KNK_WIN_B_CH n); let open_ := s.dev.winPos n = some p ∧ s.dev.flag (F.KNK_WIN_A_EN n) = true ∧ s.dev.committing dom = true ∧ s.dev.running P.KNK = true ∧ (s.dev.reg R.KNK_CHEN).getLsbD ch = true ∧ ts ≤ now ∧ (vGet s.dev.knk.openAt n = some ts ∨ (vGet s.dev.knk.openAt n = none ∧ ¬ p < s.dev.posOf dom (s.dev.pred dom).thk ∧ s.dev.projectPos dom p = some (ts, false))); open_ ∧ ((s.dev.knkCh ch).win = none)) ∧
    (let pctl := R.PCTL P.KNK; Granted s who pctl ∧ (s.dev.enabled P.KNK = true))) ∧
    (∃ (t : Nat) (who : Initiator) (k : Fin 2) (r : Fin 16) (w : Word) (n : Fin 32) (c : Fin 8) (p : Int) (ts : Nat) (s : State),
    (let now := s.clock t; let dom := s.dev.get (F.KNK_WIN_A_DOM n); let ch := s.dev.get (F.KNK_WIN_B_CH n); let open_ := s.dev.winPos n = some p ∧ s.dev.flag (F.KNK_WIN_A_EN n) = true ∧ s.dev.committing dom = true ∧ s.dev.running P.KNK = true ∧ (s.dev.reg R.KNK_CHEN).getLsbD ch = true ∧ ts ≤ now ∧ (vGet s.dev.knk.openAt n = some ts ∨ (vGet s.dev.knk.openAt n = none ∧ ¬ p < s.dev.posOf dom (s.dev.pred dom).thk ∧ s.dev.projectPos dom p = some (ts, false))); open_ ∧ ((s.dev.knkCh ch).win.isSome = true)) ∧
    (let now := s.clock t; let fed := s.dev.knkFeed now c; let x := fed.knkCh c; ∃ win, (x.win = some win) ∧ (fed.running P.KNK = true) ∧ ts ≤ now ∧ (x.closeAt = some ts ∨ (x.closeAt = none ∧ ¬ x.closePos < fed.posOf x.dom (fed.pred x.dom).thk ∧ fed.projectPos x.dom x.closePos = some (ts, false))))) ∧
    (∃ (t : Nat) (who : Initiator) (k : Fin 2) (r : Fin 16) (w : Word) (n : Fin 32) (c : Fin 8) (p : Int) (ts : Nat) (s : State),
    let now := s.clock t; ((s.dev.run k r).pos0 = some p) ∧ (s.dev.committing k = true) ∧ (s.dev.runEn k r = true) ∧ (s.dev.running P.SMPL = true) ∧ (s.dev.projectPos k (s.dev.samplePos k r p) = some (ts, false)) ∧ (ts : Int) - now - 512 ≤ ((s.dev.eff (F.SMPL_DOM_CFG_LEAD k) * 16 : Nat) : Int)) :=
  ⟨⟨1030100, .sup, 0, 3, 0x8, 4, 2, 20000000, pp.1, kw (·.setWinPos 4 (some 20000000)), by decide +kernel, by decide +kernel, by decide +kernel⟩,
   ⟨1030100, .sup, 0, 3, 0x8, 4, 2, 20000000, pp.1, (kw (fun d => (d.setWinPos 4 (some 20000000)).setKnkCh 2 { win := some 4, closePos := 20000000 })), by decide +kernel, 4, by decide +kernel⟩,
   ⟨1030100, .sup, 0, 3, 0x8, 4, 2, 20000000, ((((kw (fun d => (d.setRun 0 3 { (d.run 0 3) with pos0 := some 20000000 }).setReg (R.SMPL_DOM_RUN 0) 8)).dev.projectPos 0 ((kw (fun d => (d.setRun 0 3 { (d.run 0 3) with pos0 := some 20000000 }).setReg (R.SMPL_DOM_RUN 0) 8)).dev.samplePos 0 3 20000000)).getD (0,false)).1), (kw (fun d => (d.setRun 0 3 { (d.run 0 3) with pos0 := some 20000000 }).setReg (R.SMPL_DOM_RUN 0) 8)), by decide +kernel⟩⟩

theorem witness_TimersAreControlledAndCount :
    (∃ (t : Nat) (who : Initiator) (k : Fin 32) (g : Fin 8) (w : Word) (s : State),
    (let run := s.dev.tmrRunning k; let x := s.dev.tmr k; let idle := run = false ∧ s.dev.tmrArmed k = false ∧ x.startAt = none ∧ x.next = none; Granted s who (R.TMR_CTL k) ∧ idle ∧ (s.dev.enabled (tmrPage k) = true)) ∧
    (let run := s.dev.tmrRunning k; let x := s.dev.tmr k; let runs := run = true ∧ x.stop = false ∧ x.startAt = none ∧ s.dev.tmrArmed k = false; let idle := run = false ∧ s.dev.tmrArmed k = false ∧ x.startAt = none ∧ x.next = none; let asStands := (runs ∧ s.dev.flag (F.TMR_CTL_RUN k) = true) ∨ (idle ∧ s.dev.flag (F.TMR_CTL_RUN k) = false); Granted s who (R.TMR_CTL k) ∧ asStands) ∧
    (let x := s.dev.tmr k; Granted s who (R.TMR_RELOAD k) ∧ (x.due = none)) ∧
    (let x := s.dev.tmr k; Granted s who (R.TMR_COMPARE k) ∧ (x.due = none) ∧ (s.dev.effB (F.TMR_CFG_CMP_IMM k) = false)) ∧
    (Granted s who (R.TMR_GRP_CTL g))) ∧
    (∃ (t : Nat) (who : Initiator) (k : Fin 32) (g : Fin 8) (w : Word) (s : State),
    let run := s.dev.tmrRunning k; let x := s.dev.tmr k; let runs := run = true ∧ x.stop = false ∧ x.startAt = none ∧ s.dev.tmrArmed k = false; Granted s who (R.TMR_CTL k) ∧ runs ∧ (s.dev.flag (F.TMR_CTL_RUN k) = true)) ∧
    (∃ (t : Nat) (who : Initiator) (k : Fin 32) (g : Fin 8) (w : Word) (s : State),
    let run := s.dev.tmrRunning k; let x := s.dev.tmr k; Granted s who (R.TMR_COMPARE k) ∧ (x.due = none) ∧ (run = true) ∧ (x.dec = none) ∧ (s.dev.effB (F.TMR_CFG_CMP_IMM k) = true)) ∧
    (∃ (t : Nat) (k : Fin 32) (n : Nat) (r c : Word) (s : State),
    let x := s.dev.tmr k; let now := s.clock t; let sees := x.dec.getD (s.dev.reg (R.TMR_RELOAD k), s.dev.reg (R.TMR_COMPARE k), x.fw); let due := x.next = some n ∧ s.dev.edgeFrom n ≤ now ∧ x.startAt = none ∧ s.dev.running (tmrPage k) = true ∧ s.dev.tmrArmed k = false ∧ s.dev.tmrRunning k = true ∧ (x.stop = false ∨ x.dec.isSome = true); due ∧ (s.dev.tmrCounts k = false) ∧ (sees = (r, c, false)) ∧ s.dev.tmrCount k ≠ 0) ∧
    (∃ (t : Nat) (k : Fin 32) (n : Nat) (r c : Word) (s : State),
    let x := s.dev.tmr k; let now := s.clock t; (x.next = some n) ∧ s.dev.edgeFrom (n - 512) ≤ now ∧ (x.startAt = none) ∧ (s.dev.frozen (tmrPage k) = false) ∧ (s.dev.tmrRunning k = true) ∧ (x.stop = true) ∧ (x.dec = none)) ∧
    (∃ (t : Nat) (k : Fin 32) (n : Nat) (r c : Word) (s : State),
    let x := s.dev.tmr k; let now := s.clock t; let sees := x.dec.getD (s.dev.reg (R.TMR_RELOAD k), s.dev.reg (R.TMR_COMPARE k), x.fw); let due := x.next = some n ∧ s.dev.edgeFrom n ≤ now ∧ x.startAt = none ∧ s.dev.running (tmrPage k) = true ∧ s.dev.tmrArmed k = false ∧ s.dev.tmrRunning k = true ∧ (x.stop = false ∨ x.dec.isSome = true); ∃ fw, due ∧ (sees = (r, c, fw)) ∧ (s.dev.tmrCount k = 0 ∨ fw = true) ∧ (x.imm = none)) ∧
    (∃ (t : Nat) (k : Fin 32) (n : Nat) (r c : Word) (s : State),
    let x := s.dev.tmr k; let now := s.clock t; (x.startAt = some n) ∧ s.dev.edgeFrom n ≤ now ∧ (s.dev.running (tmrPage k) = true) ∧ (x.ofs = 0) ∧ (x.dec = none)) ∧
    (∃ (t : Nat) (k : Fin 32) (n : Nat) (r c : Word) (s : State),
    let x := s.dev.tmr k; let now := s.clock t; (x.startAt = some n) ∧ s.dev.edgeFrom n ≤ now ∧ (s.dev.running (tmrPage k) = true) ∧ x.ofs ≠ 0) ∧
    (∃ (t : Nat) (k : Fin 32) (n : Nat) (r c : Word) (s : State),
    ∃ o d1, (s.dev.running (tmrPage k) = true) ∧ (s.dev.trigAccept (8 + k) = some (o, d1)) ∧ (d1.eff (F.TMR_CFG_TRIG_ACT k) = 1)) ∧
    (∃ (t : Nat) (k : Fin 32) (n : Nat) (r c : Word) (s : State),
    let x := s.dev.tmr k; ∃ o d1, (s.dev.running (tmrPage k) = true) ∧ (s.dev.trigAccept (8 + k) = some (o, d1)) ∧ (d1.eff (F.TMR_CFG_TRIG_ACT k) = 2) ∧ (x.startAt = none)) :=
  ⟨⟨1000100, .sup, 5, 3, 77, mk (fun d => ((d.on (tmrPage 5)).setReg (R.TMR_RELOAD 5) 55).setReg (R.TMR_COMPARE 5) 33), by decide +kernel, by decide +kernel, by decide +kernel, by decide +kernel, by decide +kernel⟩,
   ⟨1000100, .sup, 5, 3, 77, (mk (fun d => (run 5 44 { next := some 999936 }) (((d.on (tmrPage 5)).setReg (R.TMR_RELOAD 5) 55).setReg (R.TMR_COMPARE 5) 33))), by decide +kernel⟩,
   ⟨1000100, .sup, 5, 3, 77, mk (fun d => (fun d => (((d.put (F.TMR_CFG_CMP_IMM 5) true).put (F.TMR_STAT_RUNNING 5) true).setReg (R.TMR_COUNT 5) 77)) (((d.on (tmrPage 5)).setReg (R.TMR_RELOAD 5) 55).setReg (R.TMR_COMPARE 5) 33)), by decide +kernel⟩,
   ⟨1000100, 5, 999936, 55, 33, (mk (fun d => (run 5 44 { next := some 999936 }) (((d.on (tmrPage 5)).setReg (R.TMR_RELOAD 5) 55).setReg (R.TMR_COMPARE 5) 33))), by decide +kernel⟩,
   ⟨1000100, 5, 999936, 55, 33, (mk (fun d => (run 5 0 { next := some 999936, stop := true }) (((d.on (tmrPage 5)).setReg (R.TMR_RELOAD 5) 55).setReg (R.TMR_COMPARE 5) 33))), by decide +kernel⟩,
   ⟨1000100, 5, 999936, 55, 33, (mk (fun d => (run 5 0 { next := some 999936, stop := false, fw := true }) (((d.on (tmrPage 5)).setReg (R.TMR_RELOAD 5) 55).setReg (R.TMR_COMPARE 5) 33))), true, by decide +kernel⟩,
   ⟨1000100, 5, 999936, 55, 33, (mk (fun d => (fun d => (d.put (F.TMR_CTL_RUN 5) true).setTmr 5 { startAt := some 999936 }) (((d.on (tmrPage 5)).setReg (R.TMR_RELOAD 5) 55).setReg (R.TMR_COMPARE 5) 33))), by decide +kernel⟩,
   ⟨1000100, 5, 999936, 55, 33, (mk (fun d => (fun d => (d.put (F.TMR_CTL_RUN 5) true).setTmr 5 { startAt := some 999936, ofs := 9 }) (((d.on (tmrPage 5)).setReg (R.TMR_RELOAD 5) 55).setReg (R.TMR_COMPARE 5) 33))), by decide +kernel⟩,
   ⟨1000100, 5, 999936, 55, 33, mk (fun _ => trigDev 1), _, (trigDev 1).setTrigPend 13 none, by decide +kernel, rfl, by decide +kernel⟩,
   ⟨1000100, 5, 999936, 55, 33, mk (fun _ => trigDev 2), _, (trigDev 2).setTrigPend 13 none, by decide +kernel, rfl, by decide +kernel⟩⟩

theorem witness_PinEngineInstructionsCompute :
    (∃ (t : Nat) (n : Fin 8) (ext : Word) (x : BitVec 9) (s : State),
    let due := fun i => PinDue s t n (.issue i); ∃ (a : BitVec 5), due (.goto .always a)) ∧
    (∃ (t : Nat) (n : Fin 8) (ext : Word) (x : BitVec 9) (s : State),
    let due := fun i => PinDue s t n (.issue i); due .reva) ∧
    (∃ (t : Nat) (n : Fin 8) (ext : Word) (x : BitVec 9) (s : State),
    let due := fun i => PinDue s t n (.issue i); due .nota) ∧
    (∃ (t : Nat) (n : Fin 8) (ext : Word) (x : BitVec 9) (s : State),
    let due := fun i => PinDue s t n (.issue i); ∃ k, due (.ticks k)) ∧
    (∃ (t : Nat) (n : Fin 8) (ext : Word) (x : BitVec 9) (s : State),
    let due := fun i => PinDue s t n (.issue i); ∃ (a : BitVec 5), due (.goto .loop a)) ∧
    (∃ (t : Nat) (n : Fin 8) (ext : Word) (x : BitVec 9) (s : State),
    let due := fun i => PinDue s t n (.issue i); ∃ (a : BitVec 5), due (.goto .altb a)) ∧
    (∃ (t : Nat) (n : Fin 8) (ext : Word) (x : BitVec 9) (s : State),
    let due := fun i => PinDue s t n (.issue i); ∃ (a : BitVec 5), due (.goto .inhi a)) ∧
    (∃ (t : Nat) (n : Fin 8) (ext : Word) (x : BitVec 9) (s : State),
    let due := fun i => PinDue s t n (.issue i); ∃ (a : BitVec 5), due (.goto .inlo a)) ∧
    (∃ (t : Nat) (n : Fin 8) (ext : Word) (x : BitVec 9) (s : State),
    let due := fun i => PinDue s t n (.issue i); ∃ (src : MoveSrc) (imm : BitVec 7), due (.move .a src imm) ∧ src ≠ .inputs) ∧
    (∃ (t : Nat) (n : Fin 8) (ext : Word) (x : BitVec 9) (s : State),
    let due := fun i => PinDue s t n (.issue i); ∃ (a : BitVec 5), due (.goto .azero a)) ∧
    (∃ (t : Nat) (n : Fin 8) (ext : Word) (x : BitVec 9) (s : State),
    let due := fun i => PinDue s t n (.issue i); due (.calc .add x)) ∧
    (∃ (t : Nat) (n : Fin 8) (ext : Word) (x : BitVec 9) (s : State),
    let due := fun i => PinDue s t n (.issue i); due (.calc .sub x)) ∧
    (∃ (t : Nat) (n : Fin 8) (ext : Word) (x : BitVec 9) (s : State),
    let due := fun i => PinDue s t n (.issue i); due (.calc .shr x)) ∧
    (∃ (t : Nat) (n : Fin 8) (ext : Word) (x : BitVec 9) (s : State),
    let due := fun i => PinDue s t n (.issue i); due (.calc .shl x)) ∧
    (∃ (t : Nat) (n : Fin 8) (ext : Word) (x : BitVec 9) (s : State),
    let due := fun i => PinDue s t n (.issue i); ∃ (imm : BitVec 7), due (.move .lc .imm imm)) ∧
    (∃ (t : Nat) (n : Fin 8) (ext : Word) (x : BitVec 9) (s : State),
    let due := fun i => PinDue s t n (.issue i); due (.calc .band x)) ∧
    (∃ (t : Nat) (n : Fin 8) (ext : Word) (x : BitVec 9) (s : State),
    let due := fun i => PinDue s t n (.issue i); due (.calc .bxor x)) ∧
    (∃ (t : Nat) (n : Fin 8) (ext : Word) (x : BitVec 9) (s : State),
    let due := fun i => PinDue s t n (.issue i); ∃ pulse, due (.signal true pulse)) ∧
    (∃ (t : Nat) (n : Fin 8) (ext : Word) (x : BitVec 9) (s : State),
    let due := fun i => PinDue s t n (.issue i); due (.calc .addImmA x)) ∧
    (∃ (t : Nat) (n : Fin 8) (ext : Word) (x : BitVec 9) (s : State),
    let due := fun i => PinDue s t n (.issue i); due (.calc .addImmB x)) ∧
    (∃ (t : Nat) (n : Fin 8) (ext : Word) (x : BitVec 9) (s : State),
    let due := fun i => PinDue s t n (.issue i); ∃ cap, due (.await .high false cap)) :=
  ⟨⟨1000100, 3, 0, 0x105, eng 3 0x02C0, 0x00#5, by decide +kernel⟩,
   ⟨1000100, 3, 0, 0x105, eng 3 (pioEncode (.reva)), by decide +kernel⟩,
   ⟨1000100, 3, 0, 0x105, eng 3 (pioEncode (.nota)), by decide +kernel⟩,
   ⟨1000100, 3, 0, 0x105, eng 3 (pioEncode (.ticks 0)), 0x00#8, by decide +kernel⟩,
   ⟨1000100, 3, 0, 0x105, eng 3 (pioEncode (.goto .loop 5)), 0x05#5, by decide +kernel⟩,
   ⟨1000100, 3, 0, 0x105, eng 3 (pioEncode (.goto .altb 5)), 0x05#5, by decide +kernel⟩,
   ⟨1000100, 3, 0, 0x105, eng 3 (pioEncode (.goto .inhi 5)), 0x05#5, by decide +kernel⟩,
   ⟨1000100, 3, 0, 0x105, eng 3 (pioEncode (.goto .inlo 5)), 0x05#5, by decide +kernel⟩,
   ⟨1000100, 3, 0, 0x105, eng 3 (pioEncode (.move .a .a 5)), Sys2Proof.Machine.MoveSrc.a, 0x05#7, by decide +kernel⟩,
   ⟨1000100, 3, 0, 0x105, eng 3 (pioEncode (.goto .azero 5)), 0x05#5, by decide +kernel⟩,
   ⟨1000100, 3, 0, 0x105, eng 3 (pioEncode (.calc .add 0x105)), by decide +kernel⟩,
   ⟨1000100, 3, 0, 0x105, eng 3 (pioEncode (.calc .sub 0x105)), by decide +kernel⟩,
   ⟨1000100, 3, 0, 0x105, eng 3 (pioEncode (.calc .shr 0x105)), by decide +kernel⟩,
   ⟨1000100, 3, 0, 0x105, eng 3 (pioEncode (.calc .shl 0x105)), by decide +kernel⟩,
   ⟨1000100, 3, 0, 0x105, eng 3 (pioEncode (.move .lc .imm 5)), 0x05#7, by decide +kernel⟩,
   ⟨1000100, 3, 0, 0x105, eng 3 (pioEncode (.calc .band 0x105)), by decide +kernel⟩,
   ⟨1000100, 3, 0, 0x105, eng 3 (pioEncode (.calc .bxor 0x105)), by decide +kernel⟩,
   ⟨1000100, 3, 0, 0x105, eng 3 (pioEncode (.signal true true)), true, by decide +kernel⟩,
   ⟨1000100, 3, 0, 0x105, eng 3 (pioEncode (.calc .addImmA 0x105)), by decide +kernel⟩,
   ⟨1000100, 3, 0, 0x105, eng 3 (pioEncode (.calc .addImmB 0x105)), by decide +kernel⟩,
   ⟨1000100, 3, 0, 0x105, eng 3 (pioEncode (.await .high false true)), true, by decide +kernel⟩⟩

theorem witness_PinEngineInstructionsMoveData :
    (∃ (t : Nat) (n : Fin 8) (ext : Word) (s : State),
    let due := fun i => PinDue s t n (.issue i); ∃ w, due (.illegal w)) ∧
    (∃ (t : Nat) (n : Fin 8) (ext : Word) (s : State),
    let due := fun i => PinDue s t n (.issue i); due .stop) ∧
    (∃ (t : Nat) (n : Fin 8) (ext : Word) (s : State),
    let e := s.pinAt t n; let due := fun i => PinDue s t n (.issue i); ∃ (k : BitVec 5), due (.take .a k) ∧ (e.effB (F.PIO_CFG_ADELIV n) = false) ∧ (e.effB (F.PIO_CFG_SORDER n) = false)) ∧
    (∃ (t : Nat) (n : Fin 8) (ext : Word) (s : State),
    let e := s.pinAt t n; let due := fun i => PinDue s t n (.issue i); ∃ (k : BitVec 5), due (.emit true k) ∧ (e.get (F.PIO_SHST_SLEFT n) ≠ 0 ∨ e.effB (F.PIO_CFG_AFILL n) = false)) ∧
    (∃ (t : Nat) (n : Fin 8) (ext : Word) (s : State),
    let due := fun i => PinDue s t n (.issue i); ∃ nowait, due (.xfer .txa nowait)) ∧
    (∃ (t : Nat) (n : Fin 8) (ext : Word) (s : State),
    let due := fun i => PinDue s t n (.issue i); ∃ nowait, due (.xfer .arx nowait)) ∧
    (∃ (t : Nat) (n : Fin 8) (ext : Word) (s : State),
    let due := fun i => PinDue s t n (.issue i); ∃ nowait, due (.xfer .fill nowait)) ∧
    (∃ (t : Nat) (n : Fin 8) (ext : Word) (s : State),
    let due := fun i => PinDue s t n (.issue i); ∃ nowait, due (.xfer .deliver nowait)) ∧
    (∃ (t : Nat) (n : Fin 8) (ext : Word) (s : State),
    let due := fun i => PinDue s t n (.issue i); ∃ (m v : BitVec 4), due (.drive false false m v)) ∧
    (∃ (t : Nat) (n : Fin 8) (ext : Word) (s : State),
    let e := s.pinAt t n; ∃ k, PinDue s t n .more ∧ (e.pioInstr n = .ticks k) ∧ e.get (F.PIO_SHST_WAITC n) ≠ 0) ∧
    (∃ (t : Nat) (n : Fin 8) (ext : Word) (s : State),
    let e := s.pinAt t n; let rx := e.flag (F.PIO_STAT_RXF n); PinDue s t n .delivery ∧ (rx = false)) :=
  ⟨⟨1000100, 3, 0, eng 3 0xFFFF, 5, by decide +kernel⟩,
   ⟨1000100, 3, 0, eng 3 (pioEncode (.stop)), by decide +kernel⟩,
   ⟨1000100, 3, 0, eng 3 (pioEncode (.take .a 5)), 0x05#5, by decide +kernel⟩,
   ⟨1000100, 3, 0, eng 3 (pioEncode (.emit true 5)), 0x05#5, by decide +kernel⟩,
   ⟨1000100, 3, 0, eng 3 (pioEncode (.xfer .txa true)), true, by decide +kernel⟩,
   ⟨1000100, 3, 0, eng 3 (pioEncode (.xfer .arx true)), true, by decide +kernel⟩,
   ⟨1000100, 3, 0, eng 3 (pioEncode (.xfer .fill true)), true, by decide +kernel⟩,
   ⟨1000100, 3, 0, eng 3 (pioEncode (.xfer .deliver true)), true, by decide +kernel⟩,
   ⟨1000100, 3, 0, eng 3 (pioEncode (.drive false false 5 2)), 0x5#4, 0x2#4, by decide +kernel⟩,
   ⟨1000100, 3, 0, eng 3 (pioEncode (.ticks 5)) {} (fun d => d.set (F.PIO_SHST_WAITC 3) 1), 0x05#8, by decide +kernel⟩,
   ⟨1000100, 3, 0, eng 3 (pioEncode (.stop)) {} (fun d => d.put (F.PIO_STAT_DPEND 3) true), by decide +kernel⟩⟩

theorem witness_PinEngineRegistersAct :
    (∃ (t : Nat) (who : Initiator) (n : Fin 8) (w : Word) (mask : BitVec 8) (s : State),
    (Granted s who (R.PIO_TX n)) ∧
    (Granted s who (R.PIO_CTL n) ∧ (s.dev.enabled (P.PIO n) = true)) ∧
    (∃ i : Fin 37, i.val < 32 ∧ (s.dev.pacc who (P.PIO n) = true) ∧ (s.dev.bootBars who (P.PIO n) = false)) ∧
    (Granted s who (R.PIO_A n)) ∧
    (Granted s who R.PIOG_START ∧ (∃ j : Fin 8, mask.getLsbD j = true ∧ (s.dev.enabled (P.PIO j) = false ∨ s.dev.restarting (P.PIO j) = true))) ∧
    (Granted s who R.PIOG_HALT) ∧
    (Granted s who R.PIOG_DSYNC)) ∧
    (∃ (t : Nat) (who : Initiator) (n : Fin 8) (w : Word) (mask : BitVec 8) (s : State),
    (Granted s who R.PIOG_START ∧ (∀ j : Fin 8, mask.getLsbD j = true → s.dev.enabled (P.PIO j) = true ∧ s.dev.restarting (P.PIO j) = false)) ∧
    (let now := s.clock t; let settled' := fun (j : Fin 8) => s.dev.pioSettle now j; Granted s who R.PIOG_RESUME ∧ (∀ j : Fin 8, mask.getLsbD j = true → s.dev.enabled (P.PIO j) = true ∧ (settled' j).pioState j = 0 ∧ ((settled' j).eng j).go = none ∧ (settled' j).reg (R.PIO_PROGGEN j) = (settled' j).reg (R.PIO_HGEN j)))) :=
  ⟨⟨1000100, .sup, 3, 0x77, 9, eng 3 0xFFFF, by decide +kernel, by decide +kernel, ⟨0, by decide +kernel⟩, by decide +kernel, by decide +kernel, by decide +kernel, by decide +kernel⟩,
   ⟨1000100, .sup, 3, 0x77, 9, mk (fun d => (List.range 8).foldl (fun d n => ((d.on (P.PIO n)).setReg (R.PIO_HGEN n) 0)) d), by decide +kernel, by decide +kernel⟩⟩

theorem witness_CoresEnterInterruptsAndHaltForDebug :
    (∃ (t : Nat) (h : Fin 3) (pc : Word) (user mie : Bool) (s : State),
    (let at' := s.dev.setHart h ((s.dev.hart h).boundary pc user mie); at'.presentable h = none) ∧
    (user = true)) ∧
    (∃ (t : Nat) (h : Fin 3) (pc : Word) (user mie : Bool) (s : State),
    (let at' := s.dev.setHart h ((s.dev.hart h).boundary pc user mie); ∃ n, at'.presentable h = some n) ∧
    ((user = false) ∧ ((s.dev.hart h).levels = []))) ∧
    (∃ (t : Nat) (h : Fin 3) (pc : Word) (user mie : Bool) (s : State),
    ∃ n p l, (user = false) ∧ ((s.dev.hart h).levels = (n, p) :: l) ∧ s.dev.target n < 7) ∧
    (∃ (t : Nat) (h : Fin 3) (pc : Word) (user mie : Bool) (s : State),
    let x := s.dev.hart h; s.dev.dbgOpen h = false ∨ x.running = false) ∧
    (∃ (t : Nat) (h : Fin 3) (pc : Word) (user mie : Bool) (s : State),
    let x := s.dev.hart h; (s.dev.dbgOpen h = true) ∧ (x.running = true) ∧ (x.halted = false)) ∧
    (∃ (t : Nat) (h : Fin 3) (pc : Word) (user mie : Bool) (s : State),
    let x := s.dev.hart h; (s.dev.dbgOpen h = true) ∧ (x.running = true) ∧ (x.halted = true)) :=
  ⟨⟨1000100, 1, 0x80001234, true, true, core 2 id, by decide +kernel, by decide +kernel⟩,
   ⟨1000100, 1, 0x80001234, false, true, core 1 (intr 1 0x1E5), ⟨485, by decide +kernel⟩, by decide +kernel⟩,
   ⟨1000100, 1, 0x80001234, false, true, (core 1 (intr 1 0x1E5) { levels := [(0x1E3, 4)] }), 483, 4, [], by decide +kernel⟩,
   ⟨1000100, 1, 0x80001234, true, true, core 2 id, by decide +kernel⟩,
   ⟨1000100, 1, 0x80001234, true, true, core 1 (intr 1 0x1E5), by decide +kernel⟩,
   ⟨1000100, 1, 0x80001234, true, true, (core 1 id { halted := true, csr := [(0x7B0, 0x40000000), (0x7B1, 0x1234)] }), by decide +kernel⟩⟩

theorem witness_MemoriesAreScrubbedAndRingsMove :
    (∃ (t : Nat) (who : Initiator) (h : Fin 3) (addr : Word) (err : Fin 3) (s : State),
    (∃ m : Fin 4, err = 0 ∨ (m.val < 3 ∧ s.dev.flag (F.CORE_SCRUB_EN m) = false) ∨ (m = 3 ∧ s.dev.flag F.RING_SCRUB_EN = false)) ∧
    (s.dev.flag (F.CORE_SCRUB_EN h) = true) ∧
    (s.dev.flag F.RING_SCRUB_EN = true) ∧
    (Granted s who (R.CORE_SCRUB h)) ∧
    (Granted s who R.RING_SCRUB)) ∧
    (∃ (t : Nat) (who : Initiator) (r : Fin 32) (v : Word) (k : Fin 8) (s : State),
    (let dv := ringDevice r; let idx := if dv then R.RING_TAIL r else R.RING_HEAD r; Granted s who idx) ∧
    (Granted s who (R.RING_CFG r) ∧ (s.dev.ringEn r = false)) ∧
    (let rd := (s.dev.setTrigPend (48 + k) none).regRead (s.clock t) .sup ((s.dev.reg (R.RING_RQ_ADDR k)).toNat / 4 * 4); let e : Dev := { rd.1 with latches := s.dev.latches }; let res := 8 + e.get (F.RING_RQ_SEL_RES k); ∃ o, (s.dev.trigPend (48 + k) = some o) ∧ (s.dev.flag (F.RING_RQ_SEL_EN k) = true) ∧ (e.ringEn res = false ∨ e.ringN res ≤ e.ringFill res))) ∧
    (∃ (t : Nat) (who : Initiator) (r : Fin 32) (v : Word) (k : Fin 8) (s : State),
    s.dev.trigPend (48 + k) = none) ∧
    (∃ (t : Nat) (who : Initiator) (r : Fin 32) (v : Word) (k : Fin 8) (s : State),
    let rd := (s.dev.setTrigPend (48 + k) none).regRead (s.clock t) .sup ((s.dev.reg (R.RING_RQ_ADDR k)).toNat / 4 * 4); let e : Dev := { rd.1 with latches := s.dev.latches }; let res := 8 + e.get (F.RING_RQ_SEL_RES k); ∃ o, (s.dev.trigPend (48 + k) = some o) ∧ (s.dev.flag (F.RING_RQ_SEL_EN k) = true) ∧ (e.ringEn res = true ∧ e.ringFill res < e.ringN res)) ∧
    (∃ (t : Nat) (who : Initiator) (r : Fin 32) (v : Word) (k : Fin 8) (s : State),
    ∃ o, (s.dev.trigPend (48 + k) = some o) ∧ (s.dev.flag (F.RING_RQ_SEL_EN k) = false)) :=
  ⟨⟨1000100, .sup, 1, 0x20000104, 0, core 1 id, ⟨0, by decide +kernel⟩, by decide +kernel, by decide +kernel, by decide +kernel, by decide +kernel⟩,
   ⟨1000100, .sup, 9, 5, 2, mk (fun d => rq 2 d), by decide +kernel, by decide +kernel, 990000, by decide +kernel⟩,
   ⟨1000100, .sup, 3, 5, 2, mk (fun d => ring d 3 4 []), by decide +kernel⟩,
   ⟨1000100, .sup, 9, 5, 2, mk (fun d => rq 2 (ring d 11 4 [])), 990000, by decide +kernel⟩,
   ⟨1000100, .sup, 9, 5, 2, mk (fun d => (rq 2 (ring d 11 4 [])).put (F.RING_RQ_SEL_EN 2) false), 990000, by decide +kernel⟩⟩

theorem witness_InterruptSourcesAreSetClearedAndConfigured : ∃ (t : Nat) (who : Initiator) (s : State),
    (∃ w : Word, Granted s who R.INTC_SWI) ∧
    (∃ (j w : Fin 4) (v : Word), Granted s who (R.INTC_PEND j w) v) ∧
    (∃ (n : Fin 512) (v : Word), Granted s who (R.INTC_SRC_VEC n) v) ∧
    (∃ (n : Fin 512) (v : Word), Granted s who (R.INTC_SRC_CFG n) v) ∧
    (∃ (n : Fin 512) (v : Word), ∃ p : Fin 4, Granted s who (R.INTC_COMPLETE p)) :=
  ⟨1000100, .sup, mk (fun d => (ring (ring (intr 1 0x1E5 d) 9 4 []) 3 5 []).set (F.RING_CFG_WM 9) 3), ⟨0x00000000#32, by decide +kernel⟩, ⟨0, 0, 0x00000000#32, by decide +kernel⟩, ⟨0, 0x00000000#32, by decide +kernel⟩, ⟨0, 0x00000000#32, by decide +kernel⟩, 0, 0x00000000#32, 0, by decide +kernel⟩

theorem witness_LinksClimbAndFall :
    (∃ (t : Nat) (who : Initiator) (n : Fin 4) (s : State),
    (let st := s.dev.nlState n; st ≠ 1) ∧
    (let st := s.dev.nlState n; ∃ r : BitVec 7, st = 2) ∧
    (let x := s.dev.nl n; let st := s.dev.nlState n; ∃ r, (st = 2) ∧ (x.peerRate = some r)) ∧
    (let x := s.dev.nl n; ∃ run : Bool, run = false ∨ x.bad < 3) ∧
    (let st := s.dev.nlState n; Granted s who (R.NL_CTL n) ∧ (st = 2 ∨ st = 3)) ∧
    (let st := s.dev.nlState n; st ≠ 3)) ∧
    (∃ (t : Nat) (who : Initiator) (n : Fin 4) (s : State),
    (let st := s.dev.nlState n; st = 1) ∧
    (let st := s.dev.nlState n; ∃ r : BitVec 7, st ≠ 2) ∧
    (let st := s.dev.nlState n; Granted s who (R.NL_CTL n) ∧ (st < 2 ∨ 4 < st))) ∧
    (∃ (t : Nat) (who : Initiator) (n : Fin 4) (s : State),
    (let x := s.dev.nl n; let st := s.dev.nlState n; 3 ≤ x.bad ∧ (st = 4)) ∧
    (let st := s.dev.nlState n; Granted s who (R.NL_CTL n) ∧ (st = 4))) ∧
    (∃ (t : Nat) (who : Initiator) (n : Fin 4) (s : State),
    let st := s.dev.nlState n; st = 3) ∧
    (∃ (t : Nat) (who : Initiator) (n : Fin 4) (s : State),
    let x := s.dev.nl n; let st := s.dev.nlState n; (st = 5) ∧ x.backEnd ≤ s.clock t) ∧
    (∃ (t : Nat) (n port : Fin 4) (fr : LinkFrame) (uid : List Word) (txSeq : BitVec 8) (s : State),
    let e := s.dev.heard (s.clock t) n fr; s.dev.receiving n ∧ FrameGood s.dev n fr ∧ (isLink 1 fr = true) ∧ (e.nlState n = 3)) :=
  ⟨⟨1000100, .sup, 1, (lnk 1 2 { peerRate := some 30, bad := 2, backEnd := 44 }), by decide +kernel, ⟨0x00#7, by decide +kernel⟩, ⟨30, by decide +kernel⟩, ⟨false, by decide +kernel⟩, by decide +kernel, by decide +kernel⟩,
   ⟨1000100, .sup, 1, (lnk 1 1 { peerRate := some 30, bad := 2, backEnd := 44 }), by decide +kernel, ⟨0x00#7, by decide +kernel⟩, by decide +kernel⟩,
   ⟨1000100, .sup, 1, (lnk 1 4 { peerRate := some 30, bad := 3, backEnd := 9999999, replay := [{ body := [1,2], seq := 4 }], q := [{ body := [5] }], credits := 3 }), by decide +kernel, by decide +kernel⟩,
   ⟨1000100, .sup, 1, (lnk 1 3 { peerRate := some 30, bad := 2, backEnd := 44 }), by decide +kernel⟩,
   ⟨1000100, .sup, 1, (lnk 1 5 { peerRate := some 30, bad := 2, backEnd := 44 }), by decide +kernel⟩,
   ⟨1000100, 1, 3, body true [0x01000000, 2] 5, [1,2,3,4], 3, (lnk 1 3 { rxExp := 5, switched := true }), by decide +kernel⟩⟩

theorem witness_FramesAreCheckedInOrder :
    (∃ (t : Nat) (n : Fin 4) (fr : LinkFrame) (err : Fin 3) (q : Fin 4) (c : Instr) (s : State),
    c ∈ ([(.hello t n fr), (.topo t n fr), (.assign t n fr), (.chg t n fr), (.regRd t n fr err), (.regWr t n fr), (.regRsp t n fr), (.intr t n fr), (.intrAck t n fr), (.msg t n fr q), (.msgAck t n fr), (.noticeHold t n fr), (.noticeRelease t n fr), (.noticePath t n fr), (.tagCarrier t n fr)] : List Instr) ∧ ¬ s.dev.receiving n) ∧
    (∃ (t : Nat) (n : Fin 4) (fr : LinkFrame) (err : Fin 3) (q : Fin 4) (c : Instr) (s : State),
    let e := s.dev.nlHear n; let x := e.nl n; let whole := fr.framing = true ∧ fr.crc = crc16 fr.words; let next := fr.seq % 256 = x.rxExp; c ∈ ([(.hello t n fr), (.topo t n fr), (.assign t n fr), (.chg t n fr), (.regRd t n fr err), (.regWr t n fr), (.regRsp t n fr), (.intr t n fr), (.intrAck t n fr), (.msg t n fr q), (.msgAck t n fr), (.noticeHold t n fr), (.noticeRelease t n fr), (.noticePath t n fr), (.tagCarrier t n fr)] : List Instr) ∧ s.dev.receiving n ∧ whole ∧ ¬ next) ∧
    (∃ (t : Nat) (n : Fin 4) (fr : LinkFrame) (err : Fin 3) (q : Fin 4) (c : Instr) (s : State),
    c ∈ ([(.hello t n fr), (.topo t n fr), (.assign t n fr), (.chg t n fr), (.regRd t n fr err), (.regWr t n fr), (.regRsp t n fr), (.intr t n fr), (.intrAck t n fr), (.msg t n fr q), (.msgAck t n fr), (.noticeHold t n fr), (.noticeRelease t n fr), (.noticePath t n fr), (.tagCarrier t n fr)] : List Instr) ∧ s.dev.receiving n ∧ FrameGood s.dev n fr) ∧
    (∃ (t : Nat) (n : Fin 4) (fr : LinkFrame) (err : Fin 3) (q : Fin 4) (c : Instr) (s : State),
    let e := s.dev.nlHear n; let x := e.nl n; let whole := fr.framing = true ∧ fr.crc = crc16 fr.words; let next := fr.seq % 256 = x.rxExp; let len := frameLen fr; c ∈ ([(.hello t n fr), (.topo t n fr), (.assign t n fr), (.chg t n fr), (.regRd t n fr err), (.regWr t n fr), (.regRsp t n fr), (.intr t n fr), (.intrAck t n fr), (.msg t n fr q), (.msgAck t n fr), (.noticeHold t n fr), (.noticeRelease t n fr), (.noticePath t n fr), (.tagCarrier t n fr)] : List Instr) ∧ s.dev.receiving n ∧ whole ∧ next ∧ (64 < len ∨ fr.words.length ≠ len + frameTags fr + 2)) ∧
    (∃ (t : Nat) (n : Fin 4) (fr : LinkFrame) (err : Fin 3) (q : Fin 4) (c : Instr) (s : State),
    let e := s.dev.nlHear n; let x := e.nl n; let whole := fr.framing = true ∧ fr.crc = crc16 fr.words; let next := fr.seq % 256 = x.rxExp; let len := frameLen fr; c ∈ ([(.hello t n fr), (.topo t n fr), (.assign t n fr), (.chg t n fr), (.regRd t n fr err), (.regWr t n fr), (.regRsp t n fr), (.intr t n fr), (.intrAck t n fr), (.msg t n fr q), (.msgAck t n fr), (.noticeHold t n fr), (.noticeRelease t n fr), (.noticePath t n fr), (.tagCarrier t n fr)] : List Instr) ∧ s.dev.receiving n ∧ whole ∧ next ∧ len ≤ 64 ∧ (fr.words.length = len + frameTags fr + 2) ∧ (e.nlUp n = true) ∧ (fr.tagOk = false)) ∧
    (∃ (t : Nat) (n : Fin 4) (fr : LinkFrame) (err : Fin 3) (q : Fin 4) (c : Instr) (s : State),
    let whole := fr.framing = true ∧ fr.crc = crc16 fr.words; c ∈ ([(.hello t n fr), (.topo t n fr), (.assign t n fr), (.chg t n fr), (.regRd t n fr err), (.regWr t n fr), (.regRsp t n fr), (.intr t n fr), (.intrAck t n fr), (.msg t n fr q), (.msgAck t n fr), (.noticeHold t n fr), (.noticeRelease t n fr), (.noticePath t n fr), (.tagCarrier t n fr)] : List Instr) ∧ s.dev.receiving n ∧ ¬ whole) :=
  ⟨⟨1000100, 1, body true [] 5, 0, 2, .chg 1000100 1 (body true [] 5), (lnk 1 1 { rxExp := 5, switched := true }), by decide +kernel⟩,
   ⟨1000100, 1, body true [] 5, 0, 2, .chg 1000100 1 (body true [] 5), (lnk 1 2 { rxExp := 5, switched := true }), by decide +kernel⟩,
   ⟨1000100, 1, body true [] 5, 0, 2, .chg 1000100 1 (body true [] 5), (lnk 1 3 { rxExp := 5, switched := true }), by decide +kernel⟩,
   ⟨1000100, 1, body true (List.replicate 65 3) 5, 0, 2, .chg 1000100 1 (body true (List.replicate 65 3) 5), (lnk 1 3 { rxExp := 5, switched := true }), by decide +kernel⟩,
   ⟨1000100, 1, ({ (body true [0x01000000, 2] 5) with tagOk := false } : LinkFrame), 0, 2, (.intr 1000100 1 ({ (body true [0x01000000, 2] 5) with tagOk := false } : LinkFrame)), (lnk 1 4 { rxExp := 5, switched := true }), by decide +kernel⟩,
   ⟨1000100, 1, ({ (body true [0x01000000, 2] 5) with framing := false } : LinkFrame), 0, 2, (.intr 1000100 1 ({ (body true [0x01000000, 2] 5) with framing := false } : LinkFrame)), (lnk 1 2 { rxExp := 5, switched := true }), by decide +kernel⟩⟩

theorem witness_LinksRetryTheirFramesAndMeasureLatency :
    (∃ (t : Nat) (n : Fin 4) (q : BitVec 8) (k : Fin 17) (s : State),
    (let e := s.dev.nlHear n; let x := e.nl n; (s.dev.nlState n = 4) ∧ (x.q = []) ∧ (∀ f ∈ x.replay, f.again = false ∧ f.wait = false)) ∧
    (let e := s.dev.nlHear n; let x := e.nl n; (s.dev.nlState n = 4) ∧ (x.replay = []) ∧ (x.q = []))) ∧
    (∃ (t : Nat) (n : Fin 4) (q : BitVec 8) (k : Fin 17) (s : State),
    (s.dev.nlState n = 4) ∧ ∃ f r, ((s.dev.nl n).replay = f :: r) ∧ (f.wait = false) ∧ f.sent + s.dev.eff (F.NL_CFG_ACK_TO n) * 12800 ≤ s.clock t ∧ s.dev.eff (F.NL_CFG_RETRY_MAX n) ≤ f.retries) ∧
    (∃ (t : Nat) (n : Fin 4) (resid t4 : Nat) (s : State),
    (let x := s.dev.nl n; let now := s.clock t; (s.dev.nlState n = 4) ∧ x.echoNext ≤ now) ∧
    (let x := s.dev.nl n; let now := s.clock t; (s.dev.nlState n = 4) ∧ ∃ t1, (x.echoOut = some t1) ∧ t1 + 12800000 ≤ now)) ∧
    (∃ (t : Nat) (n : Fin 4) (resid t4 : Nat) (s : State),
    let x := s.dev.nl n; let now := s.clock t; (s.dev.nlState n = 4) ∧ now < x.echoNext) :=
  ⟨⟨1000100, 1, 250, 16, (lnk 1 4 ({ replay := [], q := [], credits := 15 } : Nl)), by decide +kernel, by decide +kernel⟩,
   ⟨900000000, 1, 4, 3, (lnk 1 4 ({ replay := [{ fr0 with retries := 99 }, { fr0 with seq := 5 }], q := [], credits := 1 } : Nl)), by decide +kernel, { link := true, body := [0x00000001#32, 0x00000002#32], seq := 4, retries := 99, sent := 900000, again := false, wait := false, syms := [] }, [{ link := true, body := [0x00000001#32, 0x00000002#32], seq := 5, retries := 0, sent := 900000, again := false, wait := false, syms := [] }], by decide +kernel⟩,
   ⟨99000000, 1, 7, 1000090, (lnk 1 4 ({ echoOut := some 999000, smp := [6], echoNext := 2000000, echoN := 9 } : Nl)), by decide +kernel, by decide +kernel, 999000, by decide +kernel⟩,
   ⟨1000100, 1, 7, 1000090, (lnk 1 4 ({ echoOut := some 999000, smp := [], echoNext := 2000000 } : Nl)), by decide +kernel⟩⟩

theorem witness_DiscoveryElectsTheRootAndAssignsAddresses :
    (∃ (t : Nat) (who : Initiator) (n : Fin 4) (fr : LinkFrame) (s : State),
    (s.dev.enabled P.FAB = false) ∧
    (let now := s.clock t; let e := s.dev.heard now n fr; let up := fun k => s.dev.receiving n ∧ FrameGood s.dev n fr ∧ isLink k fr = true ∧ e.nlState n = 4; (e.fabOn = false) ∧ up 3)) ∧
    (∃ (t : Nat) (who : Initiator) (n : Fin 4) (fr : LinkFrame) (s : State),
    let now := s.clock t; let e := s.dev.heard now n fr; let up := fun k => s.dev.receiving n ∧ FrameGood s.dev n fr ∧ isLink k fr = true ∧ e.nlState n = 4; (e.fabOn = true) ∧ up 3 ∧ (e.isRoot = false) ∧ (e.fab.parent = none)) ∧
    (∃ (t : Nat) (who : Initiator) (n : Fin 4) (fr : LinkFrame) (s : State),
    let now := s.clock t; let e := s.dev.heard now n fr; let up := fun k => s.dev.receiving n ∧ FrameGood s.dev n fr ∧ isLink k fr = true ∧ e.nlState n = 4; (e.fabOn = true) ∧ up 2) ∧
    (∃ (t : Nat) (who : Initiator) (n : Fin 4) (fr : LinkFrame) (s : State),
    let now := s.clock t; let e := s.dev.heard now n fr; let up := fun k => s.dev.receiving n ∧ FrameGood s.dev n fr ∧ isLink k fr = true ∧ e.nlState n = 4; (e.fabOn = false) ∧ up 5) ∧
    (∃ (t : Nat) (who : Initiator) (n : Fin 4) (fr : LinkFrame) (s : State),
    let now := s.clock t; let e := s.dev.heard now n fr; let up := fun k => s.dev.receiving n ∧ FrameGood s.dev n fr ∧ isLink k fr = true ∧ e.nlState n = 4; (e.fabOn = false) ∧ up 2) ∧
    (∃ (t : Nat) (who : Initiator) (n : Fin 4) (fr : LinkFrame) (s : State),
    let now := s.clock t; let e := s.dev.heard now n fr; let up := fun k => s.dev.receiving n ∧ FrameGood s.dev n fr ∧ isLink k fr = true ∧ e.nlState n = 4; (e.fabOn = false) ∧ up 4) ∧
    (∃ (t : Nat) (who : Initiator) (n : Fin 4) (fr : LinkFrame) (s : State),
    let now := s.clock t; let e := s.dev.heard now n fr; let up := fun k => s.dev.receiving n ∧ FrameGood s.dev n fr ∧ isLink k fr = true ∧ e.nlState n = 4; (e.fabOn = true) ∧ up 3 ∧ (e.isRoot = true)) ∧
    (∃ (t : Nat) (who : Initiator) (n : Fin 4) (fr : LinkFrame) (s : State),
    let now := s.clock t; let e := s.dev.heard now n fr; let up := fun k => s.dev.receiving n ∧ FrameGood s.dev n fr ∧ isLink k fr = true ∧ e.nlState n = 4; (e.fabOn = true) ∧ up 5 ∧ (e.isRoot = true)) ∧
    (∃ (t : Nat) (who : Initiator) (n : Fin 4) (fr : LinkFrame) (s : State),
    let now := s.clock t; let e := s.dev.heard now n fr; let up := fun k => s.dev.receiving n ∧ FrameGood s.dev n fr ∧ isLink k fr = true ∧ e.nlState n = 4; ((e.fabOn = true) ∧ up 3) ∧ ∃ p, (e.isRoot = false) ∧ (e.fab.parent = some p)) ∧
    (∃ (t : Nat) (who : Initiator) (n : Fin 4) (fr : LinkFrame) (s : State),
    let now := s.clock t; let e := s.dev.heard now n fr; let up := fun k => s.dev.receiving n ∧ FrameGood s.dev n fr ∧ isLink k fr = true ∧ e.nlState n = 4; ((e.fabOn = true) ∧ up 5) ∧ ∃ p, (e.isRoot = false) ∧ (e.fab.parent = some p)) ∧
    (∃ (t : Nat) (who : Initiator) (n : Fin 4) (fr : LinkFrame) (s : State),
    Granted s who R.FAB_CTL ∧ (s.dev.enabled P.FAB = true) ∧ (s.dev.isRoot = true)) ∧
    (∃ (t : Nat) (who : Initiator) (n : Fin 4) (fr : LinkFrame) (s : State),
    let now := s.clock t; let due := s.dev.fab.topoAt + s.dev.get F.FAB_CFG_SETTLE * 12800000 ≤ now; ¬ due ∨ s.dev.isRoot = false ∨ s.dev.fab.collecting = false) ∧
    (∃ (t : Nat) (who : Initiator) (n : Fin 4) (fr : LinkFrame) (s : State),
    let now := s.clock t; let l := s.dev.fab.topo.map (fun p => topoOf p.2); let due := s.dev.fab.topoAt + s.dev.get F.FAB_CFG_SETTLE * 12800000 ≤ now; due ∧ (s.dev.enabled P.FAB = true) ∧ (s.dev.isRoot = true) ∧ (s.dev.fab.collecting = true) ∧ (∀ x ∈ l, ∀ p ∈ x.peers, p = 0 ∨ ∃ y ∈ l, y.uid = p)) :=
  ⟨⟨1000100, .sup, 1, body true ([w32 (0x03000000 + 7 * 256)] ++ [1,2,3,4] ++ [4]) 5, (fl 4 none none (fun d => (fun d => d.put (F.PCTL_ENABLE P.FAB) false) { d with fab := { d.fab with via := [(wordsUid [1,2,3,4], 2)] } })), by decide +kernel, by decide +kernel⟩,
   ⟨1000100, .sup, 1, body true ([w32 (0x03000000 + 7 * 256)] ++ [1,2,3,4] ++ [4]) 5, (fl 4 none none (fun d => { d with fab := { d.fab with via := [(wordsUid [1,2,3,4], 2)] } })), by decide +kernel⟩,
   ⟨1000100, .sup, 1, body true ([w32 (0x02000000 + 0x10000 + 7 * 256 + 3)] ++ [1,2,3,4] ++ [0,0,0,4]) 5, (fl 4 none none (fun d => { d with fab := { d.fab with via := [(wordsUid [1,2,3,4], 2)] } })), by decide +kernel⟩,
   ⟨1000100, .sup, 1, body true ([w32 (0x05000000 + 7 * 256)] ++ [1,2,3,4] ++ [4]) 5, (fl 4 none none (fun d => (fun d => d.put (F.PCTL_ENABLE P.FAB) false) { d with fab := { d.fab with via := [(wordsUid [1,2,3,4], 2)] } })), by decide +kernel⟩,
   ⟨1000100, .sup, 1, body true ([w32 (0x02000000 + 0x10000 + 7 * 256 + 3)] ++ [1,2,3,4] ++ [0,0,0,4]) 5, (fl 4 none none (fun d => (fun d => d.put (F.PCTL_ENABLE P.FAB) false) { d with fab := { d.fab with via := [(wordsUid [1,2,3,4], 2)] } })), by decide +kernel⟩,
   ⟨1000100, .sup, 1, body true ([w32 (0x04000000 + 7 * 256)] ++ [1,2,3,4] ++ [0x0503] ++ (List.range 16).map (fun i => w32 (i * 0x01020301))) 5, (fl 4 none none (fun d => (fun d => d.put (F.PCTL_ENABLE P.FAB) false) { d with fab := { d.fab with via := [(wordsUid [1,2,3,4], 2)] } })), by decide +kernel⟩,
   ⟨1000100, .sup, 1, linkF 3, rootS, by decide +kernel, by decide +kernel, heard_root _ rfl⟩,
   ⟨1000100, .sup, 1, linkF 5, rootS, by decide +kernel, by decide +kernel, heard_root _ rfl⟩,
   ⟨1000100, .sup, 1, linkF 3, farS, by decide +kernel, 1, by decide +kernel⟩,
   ⟨1000100, .sup, 1, linkF 5, farS, by decide +kernel, 1, by decide +kernel⟩,
   ⟨1000100, .sup, 1, linkF 5, rootS, by decide +kernel, by decide +kernel, root_is⟩,
   ⟨1000100, .sup, 1, linkF 5, rootS, .inl (by decide +kernel)⟩,
   ⟨999999999999, .sup, 1, linkF 5, rootS, by decide +kernel, by decide +kernel, root_is, rfl, by decide +kernel⟩⟩

theorem witness_DiscoveryElectsTheRootAndAssignsAddresses_2 :
    (∃ (t : Nat) (who : Initiator) (n : Fin 4) (fr : LinkFrame) (s : State),
    let now := s.clock t; let e := s.dev.heard now n fr; let b := frameBody fr; let u := wordsUid (b.drop 1); let up := fun k => s.dev.receiving n ∧ FrameGood s.dev n fr ∧ isLink k fr = true ∧ e.nlState n = 4; (e.fabOn = true) ∧ up 4 ∧ (u = ownUid)) ∧
    (∃ (t : Nat) (who : Initiator) (n : Fin 4) (fr : LinkFrame) (s : State),
    let now := s.clock t; let e := s.dev.heard now n fr; let b := frameBody fr; let u := wordsUid (b.drop 1); let up := fun k => s.dev.receiving n ∧ FrameGood s.dev n fr ∧ isLink k fr = true ∧ e.nlState n = 4; ((e.fabOn = true) ∧ up 4) ∧ ∃ v p, u ≠ ownUid ∧ (e.fab.via.find? (fun x => x.1 == u) = some (v, p))) ∧
    (∃ (t : Nat) (who : Initiator) (n : Fin 4) (fr : LinkFrame) (s : State),
    let now := s.clock t; let e := s.dev.heard now n fr; let b := frameBody fr; let u := wordsUid (b.drop 1); let up := fun k => s.dev.receiving n ∧ FrameGood s.dev n fr ∧ isLink k fr = true ∧ e.nlState n = 4; (e.fabOn = true) ∧ up 4 ∧ u ≠ ownUid ∧ (e.fab.via.find? (fun x => x.1 == u) = none)) :=
  ⟨⟨1000100, .sup, 1, assignF (w32 (ownUid / 2 ^ 96)) (w32 (ownUid / 2 ^ 64)) (w32 (ownUid / 2 ^ 32)) (w32 ownUid), farS,
    (assign_up _ _ _ _).1, (assign_up _ _ _ _).2, (assign_uid _ _ _ _).trans own_uid_words⟩,
   by
    rcases other_uid (fun w => (farS.dev.heard (farS.clock 1000100) (1 : Fin 4) (assignF 1 2 3 w)).fab.via.find? (fun x => x.1 == wordsUid [1, 2, 3, w]) =
        some (wordsUid [1, 2, 3, w], 2) ∧ wordsUid [1, 2, 3, w] ≠ ownUid) (by
      rintro w (rfl | rfl) h <;> exact ⟨by decide +kernel, h⟩) with ⟨a, b⟩ | ⟨a, b⟩
    · refine ⟨1000100, .sup, 1, assignF 1 2 3 4, farS, assign_up _ _ _ _, wordsUid [1, 2, 3, 4], 2, ?_, ?_⟩
      · rw [assign_uid]; exact b
      · rw [assign_uid]; exact a
    · refine ⟨1000100, .sup, 1, assignF 1 2 3 5, farS, assign_up _ _ _ _, wordsUid [1, 2, 3, 5], 2, ?_, ?_⟩
      · rw [assign_uid]; exact b
      · rw [assign_uid]; exact a,
   by
    rcases other_uid' with h | h
    · exact ⟨1000100, .sup, 1, assignF 1 2 3 6, farS, (assign_up _ _ _ _).1, (assign_up _ _ _ _).2, h, by decide +kernel⟩
    · exact ⟨1000100, .sup, 1, assignF 1 2 3 7, farS, (assign_up _ _ _ _).1, (assign_up _ _ _ _).2, h, by decide +kernel⟩⟩

theorem witness_TransportFramesAreRoutedAndDelivered :
    (∃ (t : Nat) (n : Fin 4) (fr : LinkFrame) (err : Fin 3) (q : Fin 4) (s : State),
    let now := s.clock t; let e := s.dev.heard now n fr; let h := hdrOf (frameBody fr); let come := s.dev.receiving n ∧ FrameGood s.dev n fr ∧ frameTransport fr = true ∧ e.nlState n = 4; ∃ c k, (c, k) ∈ ([((.regRd t n fr err), 0), ((.regWr t n fr), 1), ((.regRsp t n fr), 2), ((.intr t n fr), 3), ((.intrAck t n fr), 4), ((.msg t n fr q), 5), ((.msgAck t n fr), 6)] : List (Instr × Nat)) ∧ come ∧ (h.cls = k) ∧ (e.frozen P.FAB = false) ∧ (e.fabOn = true) ∧ (h.dst = 0 ∨ (63 < h.dst ∧ h.dst ≠ 0xFF))) ∧
    (∃ (t : Nat) (n : Fin 4) (fr : LinkFrame) (err : Fin 3) (q : Fin 4) (s : State),
    let now := s.clock t; let e := s.dev.heard now n fr; let h := hdrOf (frameBody fr); let come := s.dev.receiving n ∧ FrameGood s.dev n fr ∧ frameTransport fr = true ∧ e.nlState n = 4; let mine := come ∧ e.fabOn = true ∧ e.frozen P.FAB = false ∧ 1 ≤ h.dst ∧ h.dst ≤ 63 ∧ h.dst = e.ownAddr; let fresh := RxWin.isNew (smGet e.fab.rxWin h.src) h.seq; mine ∧ (fresh = true) ∧ (h.cls = 0)) ∧
    (∃ (t : Nat) (n : Fin 4) (fr : LinkFrame) (err : Fin 3) (q : Fin 4) (s : State),
    let now := s.clock t; let e := s.dev.heard now n fr; let h := hdrOf (frameBody fr); let come := s.dev.receiving n ∧ FrameGood s.dev n fr ∧ frameTransport fr = true ∧ e.nlState n = 4; let mine := come ∧ e.fabOn = true ∧ e.frozen P.FAB = false ∧ 1 ≤ h.dst ∧ h.dst ≤ 63 ∧ h.dst = e.ownAddr; let fresh := RxWin.isNew (smGet e.fab.rxWin h.src) h.seq; mine ∧ (fresh = true) ∧ (h.cls = 1)) ∧
    (∃ (t : Nat) (n : Fin 4) (fr : LinkFrame) (err : Fin 3) (q : Fin 4) (s : State),
    let now := s.clock t; let e := s.dev.heard now n fr; let h := hdrOf (frameBody fr); let come := s.dev.receiving n ∧ FrameGood s.dev n fr ∧ frameTransport fr = true ∧ e.nlState n = 4; let mine := come ∧ e.fabOn = true ∧ e.frozen P.FAB = false ∧ 1 ≤ h.dst ∧ h.dst ≤ 63 ∧ h.dst = e.ownAddr; mine ∧ (e.findMsg h.src h.seq = none) ∧ (h.cls = 2)) ∧
    (∃ (t : Nat) (n : Fin 4) (fr : LinkFrame) (err : Fin 3) (q : Fin 4) (s : State),
    let now := s.clock t; let e := s.dev.heard now n fr; let h := hdrOf (frameBody fr); let come := s.dev.receiving n ∧ FrameGood s.dev n fr ∧ frameTransport fr = true ∧ e.nlState n = 4; let mine := come ∧ e.fabOn = true ∧ e.frozen P.FAB = false ∧ 1 ≤ h.dst ∧ h.dst ≤ 63 ∧ h.dst = e.ownAddr; let fresh := RxWin.isNew (smGet e.fab.rxWin h.src) h.seq; mine ∧ (fresh = true) ∧ (h.cls = 3)) ∧
    (∃ (t : Nat) (n : Fin 4) (fr : LinkFrame) (err : Fin 3) (q : Fin 4) (s : State),
    let now := s.clock t; let e := s.dev.heard now n fr; let h := hdrOf (frameBody fr); let come := s.dev.receiving n ∧ FrameGood s.dev n fr ∧ frameTransport fr = true ∧ e.nlState n = 4; let mine := come ∧ e.fabOn = true ∧ e.frozen P.FAB = false ∧ 1 ≤ h.dst ∧ h.dst ≤ 63 ∧ h.dst = e.ownAddr; mine ∧ (e.findMsg h.src h.seq = none) ∧ (h.cls = 4)) ∧
    (∃ (t : Nat) (n : Fin 4) (fr : LinkFrame) (err : Fin 3) (q : Fin 4) (s : State),
    let now := s.clock t; let e := s.dev.heard now n fr; let h := hdrOf (frameBody fr); let come := s.dev.receiving n ∧ FrameGood s.dev n fr ∧ frameTransport fr = true ∧ e.nlState n = 4; let mine := come ∧ e.fabOn = true ∧ e.frozen P.FAB = false ∧ 1 ≤ h.dst ∧ h.dst ≤ 63 ∧ h.dst = e.ownAddr; let fresh := RxWin.isNew (smGet e.fab.rxWin h.src) h.seq; mine ∧ (fresh = true) ∧ (h.cls = 5)) :=
  ⟨⟨1000100, 1, body false (hd 0 4 0 1 3 0 ++ [0x40000000, 1, 7]) 5, 0, 2, (lnk 1 4 { rxExp := 5 } (fun d => let d := (ring (d.set F.FAB_STAT_ADDR 9) 20 0 [] 0x20001000).set (F.FAB_RTE_ENTRY 12) 1; id { d with fab := { d.fab with root := some 77, parent := some 2, msgs := (none : Option FabMsg).toList } })), (.regRd 1000100 1 (body false (hd 0 4 0 1 3 0 ++ [0x40000000, 1, 7]) 5) 0), 0, by decide +kernel⟩,
   ⟨1000100, 1, body false (hd 9 4 0 1 3 0 ++ [0x40000000, 1, 7]) 5, 0, 2, (lnk 1 4 { rxExp := 5 } (fun d => let d := (ring (d.set F.FAB_STAT_ADDR 9) 20 0 [] 0x20001000).set (F.FAB_RTE_ENTRY 12) 1; id { d with fab := { d.fab with root := some 77, parent := some 2, msgs := (none : Option FabMsg).toList } })), by decide +kernel⟩,
   ⟨1000100, 1, body false (hd 9 4 1 5 3 0 ++ [0x40000000, 1, 7]) 5, 0, 2, (lnk 1 4 { rxExp := 5 } (fun d => let d := (ring (d.set F.FAB_STAT_ADDR 9) 20 0 [] 0x20001000).set (F.FAB_RTE_ENTRY 12) 1; id { d with fab := { d.fab with root := some 77, parent := some 2, msgs := (none : Option FabMsg).toList } })), by decide +kernel⟩,
   ⟨1000100, 1, body false (hd 9 4 2 5 3 0 ++ [0x40000000, 1, 7]) 5, 0, 2, (lnk 1 4 { rxExp := 5 } (fun d => let d := (ring (d.set F.FAB_STAT_ADDR 9) 20 0 [] 0x20001000).set (F.FAB_RTE_ENTRY 12) 1; id { d with fab := { d.fab with root := some 77, parent := some 2, msgs := (none : Option FabMsg).toList } })), by decide +kernel⟩,
   ⟨1000100, 1, body false (hd 9 4 3 1 3 0 ++ [0x40000000, 1, 7]) 5, 0, 2, (lnk 1 4 { rxExp := 5 } (fun d => let d := (ring (d.set F.FAB_STAT_ADDR 9) 20 0 [] 0x20001000).set (F.FAB_RTE_ENTRY 12) 1; id { d with fab := { d.fab with root := some 77, parent := some 2, msgs := (none : Option FabMsg).toList } })), by decide +kernel⟩,
   ⟨1000100, 1, body false (hd 9 4 4 1 3 0 ++ [0x40000000, 1, 7]) 5, 0, 2, (lnk 1 4 { rxExp := 5 } (fun d => let d := (ring (d.set F.FAB_STAT_ADDR 9) 20 0 [] 0x20001000).set (F.FAB_RTE_ENTRY 12) 1; id { d with fab := { d.fab with root := some 77, parent := some 2, msgs := (none : Option FabMsg).toList } })), by decide +kernel⟩,
   ⟨1000100, 1, body false (hd 9 4 5 5 3 0 ++ [0x40000000, 1, 7]) 5, 0, 2, (lnk 1 4 { rxExp := 5 } (fun d => let d := (ring (d.set F.FAB_STAT_ADDR 9) 20 0 [] 0x20001000).set (F.FAB_RTE_ENTRY 12) 1; id { d with fab := { d.fab with root := some 77, parent := some 2, msgs := (none : Option FabMsg).toList } })), by decide +kernel⟩⟩

theorem witness_TransportFramesAreRoutedAndDelivered_2 :
    (∃ (t : Nat) (n : Fin 4) (fr : LinkFrame) (err : Fin 3) (q : Fin 4) (s : State),
    let now := s.clock t; let e := s.dev.heard now n fr; let h := hdrOf (frameBody fr); let come := s.dev.receiving n ∧ FrameGood s.dev n fr ∧ frameTransport fr = true ∧ e.nlState n = 4; let mine := come ∧ e.fabOn = true ∧ e.frozen P.FAB = false ∧ 1 ≤ h.dst ∧ h.dst ≤ 63 ∧ h.dst = e.ownAddr; mine ∧ (e.findMsg h.src h.seq = none) ∧ (h.cls = 6)) ∧
    (∃ (t : Nat) (n : Fin 4) (fr : LinkFrame) (err : Fin 3) (q : Fin 4) (s : State),
    let now := s.clock t; let e := s.dev.heard now n fr; let h := hdrOf (frameBody fr); let come := s.dev.receiving n ∧ FrameGood s.dev n fr ∧ frameTransport fr = true ∧ e.nlState n = 4; let mine := come ∧ e.fabOn = true ∧ e.frozen P.FAB = false ∧ 1 ≤ h.dst ∧ h.dst ≤ 63 ∧ h.dst = e.ownAddr; let fresh := RxWin.isNew (smGet e.fab.rxWin h.src) h.seq; mine ∧ (fresh = true) ∧ (h.cls = 7) ∧ (h.arg / 4096 = 0)) ∧
    (∃ (t : Nat) (n : Fin 4) (fr : LinkFrame) (err : Fin 3) (q : Fin 4) (s : State),
    let now := s.clock t; let e := s.dev.heard now n fr; let h := hdrOf (frameBody fr); let come := s.dev.receiving n ∧ FrameGood s.dev n fr ∧ frameTransport fr = true ∧ e.nlState n = 4; ∃ c k, (c, k) ∈ ([((.regRd t n fr err), 0), ((.regWr t n fr), 1), ((.regRsp t n fr), 2), ((.intr t n fr), 3), ((.intrAck t n fr), 4), ((.msg t n fr q), 5), ((.msgAck t n fr), 6)] : List (Instr × Nat)) ∧ come ∧ (h.cls = k) ∧ (e.frozen P.FAB = false) ∧ (e.fabOn = true) ∧ 1 ≤ h.dst ∧ h.dst ≤ 63 ∧ h.dst ≠ e.ownAddr ∧ 1 < h.ttl) ∧
    (∃ (t : Nat) (n : Fin 4) (fr : LinkFrame) (err : Fin 3) (q : Fin 4) (s : State),
    let now := s.clock t; let e := s.dev.heard now n fr; let h := hdrOf (frameBody fr); let come := s.dev.receiving n ∧ FrameGood s.dev n fr ∧ frameTransport fr = true ∧ e.nlState n = 4; ∃ c k, (c, k) ∈ ([((.regRd t n fr err), 0), ((.regWr t n fr), 1), ((.regRsp t n fr), 2), ((.intr t n fr), 3), ((.intrAck t n fr), 4), ((.msg t n fr q), 5), ((.msgAck t n fr), 6)] : List (Instr × Nat)) ∧ come ∧ (h.cls = k) ∧ (e.frozen P.FAB = false) ∧ (e.fabOn = true) ∧ 1 ≤ h.dst ∧ h.dst ≤ 63 ∧ h.dst ≠ e.ownAddr ∧ h.ttl ≤ 1) ∧
    (∃ (t : Nat) (n : Fin 4) (fr : LinkFrame) (err : Fin 3) (q : Fin 4) (s : State),
    let now := s.clock t; let e := s.dev.heard now n fr; let h := hdrOf (frameBody fr); let come := s.dev.receiving n ∧ FrameGood s.dev n fr ∧ frameTransport fr = true ∧ e.nlState n = 4; ∃ c k, (c, k) ∈ ([((.regRd t n fr err), 0), ((.regWr t n fr), 1), ((.regRsp t n fr), 2), ((.intr t n fr), 3), ((.intrAck t n fr), 4), ((.msg t n fr q), 5), ((.msgAck t n fr), 6)] : List (Instr × Nat)) ∧ come ∧ (h.cls = k) ∧ (e.frozen P.FAB = false) ∧ (e.fabOn = true) ∧ (h.dst = 0xFF) ∧ h.cls ≠ 5) ∧
    (∃ (t : Nat) (n : Fin 4) (fr : LinkFrame) (err : Fin 3) (q : Fin 4) (s : State),
    let now := s.clock t; let e := s.dev.heard now n fr; let h := hdrOf (frameBody fr); let come := s.dev.receiving n ∧ FrameGood s.dev n fr ∧ frameTransport fr = true ∧ e.nlState n = 4; come ∧ (e.fabOn = true) ∧ (e.frozen P.FAB = false) ∧ (h.cls = 5) ∧ (h.dst = 0xFF)) :=
  ⟨⟨1000100, 1, body false (hd 9 4 6 5 3 0 ++ [0x40000000, 1, 7]) 5, 0, 2, (lnk 1 4 { rxExp := 5 } (fun d => let d := (ring (d.set F.FAB_STAT_ADDR 9) 20 0 [] 0x20001000).set (F.FAB_RTE_ENTRY 12) 1; id { d with fab := { d.fab with root := some 77, parent := some 2, msgs := (none : Option FabMsg).toList } })), by decide +kernel⟩,
   ⟨1000100, 1, body false (hd 9 4 7 1 3 0 ++ [0x40000000, 1, 7]) 5, 0, 2, (lnk 1 4 { rxExp := 5 } (fun d => let d := (ring (d.set F.FAB_STAT_ADDR 9) 20 0 [] 0x20001000).set (F.FAB_RTE_ENTRY 12) 1; id { d with fab := { d.fab with root := some 77, parent := some 2, msgs := (none : Option FabMsg).toList } })), by decide +kernel⟩,
   ⟨1000100, 1, body false (hd 12 4 0 5 3 0 ++ [0x40000000, 1, 7]) 5, 0, 2, (lnk 1 4 { rxExp := 5 } (fun d => let d := (ring (d.set F.FAB_STAT_ADDR 9) 20 0 [] 0x20001000).set (F.FAB_RTE_ENTRY 12) 1; id { d with fab := { d.fab with root := some 77, parent := some 2, msgs := (none : Option FabMsg).toList } })), (.regRd 1000100 1 (body false (hd 12 4 0 5 3 0 ++ [0x40000000, 1, 7]) 5) 0), 0, by decide +kernel⟩,
   ⟨1000100, 1, body false (hd 12 4 1 1 3 0 ++ [0x40000000, 1, 7]) 5, 0, 2, (lnk 1 4 { rxExp := 5 } (fun d => let d := (ring (d.set F.FAB_STAT_ADDR 9) 20 0 [] 0x20001000).set (F.FAB_RTE_ENTRY 12) 1; id { d with fab := { d.fab with root := some 77, parent := some 2, msgs := (none : Option FabMsg).toList } })), (.regWr 1000100 1 (body false (hd 12 4 1 1 3 0 ++ [0x40000000, 1, 7]) 5)), 1, by decide +kernel⟩,
   ⟨1000100, 1, body false (hd 255 4 0 5 3 0 ++ [0x40000000, 1, 7]) 5, 0, 2, (lnk 1 4 { rxExp := 5 } (fun d => let d := (ring (d.set F.FAB_STAT_ADDR 9) 20 0 [] 0x20001000).set (F.FAB_RTE_ENTRY 12) 1; id { d with fab := { d.fab with root := some 77, parent := some 2, msgs := (none : Option FabMsg).toList } })), (.regRd 1000100 1 (body false (hd 255 4 0 5 3 0 ++ [0x40000000, 1, 7]) 5) 0), 0, by decide +kernel⟩,
   ⟨1000100, 1, body false (hd 255 4 5 5 3 0 ++ [0x40000000, 1, 7]) 5, 0, 2, (lnk 1 4 { rxExp := 5 } (fun d => let d := (ring (d.set F.FAB_STAT_ADDR 9) 20 0 [] 0x20001000).set (F.FAB_RTE_ENTRY 12) 1; id { d with fab := { d.fab with root := some 77, parent := some 2, msgs := (none : Option FabMsg).toList } })), by decide +kernel⟩⟩

theorem witness_TransportFramesAreRoutedAndDelivered_3 :
    (∃ (t : Nat) (n : Fin 4) (fr : LinkFrame) (err : Fin 3) (q : Fin 4) (s : State),
    let now := s.clock t; let e := s.dev.heard now n fr; let h := hdrOf (frameBody fr); let come := s.dev.receiving n ∧ FrameGood s.dev n fr ∧ frameTransport fr = true ∧ e.nlState n = 4; let mine := come ∧ e.fabOn = true ∧ e.frozen P.FAB = false ∧ 1 ≤ h.dst ∧ h.dst ≤ 63 ∧ h.dst = e.ownAddr; let fresh := RxWin.isNew (smGet e.fab.rxWin h.src) h.seq; mine ∧ (fresh = true) ∧ (h.cls = 7) ∧ (h.arg / 4096 = 1)) ∧
    (∃ (t : Nat) (n : Fin 4) (fr : LinkFrame) (err : Fin 3) (q : Fin 4) (s : State),
    let now := s.clock t; let e := s.dev.heard now n fr; let h := hdrOf (frameBody fr); let come := s.dev.receiving n ∧ FrameGood s.dev n fr ∧ frameTransport fr = true ∧ e.nlState n = 4; let mine := come ∧ e.fabOn = true ∧ e.frozen P.FAB = false ∧ 1 ≤ h.dst ∧ h.dst ≤ 63 ∧ h.dst = e.ownAddr; let fresh := RxWin.isNew (smGet e.fab.rxWin h.src) h.seq; mine ∧ (fresh = true) ∧ (h.cls = 7) ∧ (h.arg / 4096 = 2)) ∧
    (∃ (t : Nat) (n : Fin 4) (fr : LinkFrame) (err : Fin 3) (q : Fin 4) (s : State),
    let now := s.clock t; let e := s.dev.heard now n fr; let h := hdrOf (frameBody fr); let come := s.dev.receiving n ∧ FrameGood s.dev n fr ∧ frameTransport fr = true ∧ e.nlState n = 4; ∃ c k, (c, k) ∈ ([((.regRd t n fr err), 0), ((.regWr t n fr), 1), ((.regRsp t n fr), 2), ((.intr t n fr), 3), ((.intrAck t n fr), 4), ((.msg t n fr q), 5), ((.msgAck t n fr), 6)] : List (Instr × Nat)) ∧ come ∧ (h.cls = k) ∧ (e.frozen P.FAB = true)) ∧
    (∃ (t : Nat) (n : Fin 4) (fr : LinkFrame) (err : Fin 3) (q : Fin 4) (s : State),
    let now := s.clock t; let e := s.dev.heard now n fr; let h := hdrOf (frameBody fr); let come := s.dev.receiving n ∧ FrameGood s.dev n fr ∧ frameTransport fr = true ∧ e.nlState n = 4; ∃ c k, (c, k) ∈ ([((.regRd t n fr err), 0), ((.regWr t n fr), 1), ((.regRsp t n fr), 2), ((.intr t n fr), 3), ((.intrAck t n fr), 4), ((.msg t n fr q), 5), ((.msgAck t n fr), 6)] : List (Instr × Nat)) ∧ come ∧ (h.cls = k) ∧ (e.frozen P.FAB = false) ∧ (e.fabOn = false)) ∧
    (∃ (t : Nat) (n : Fin 4) (fr : LinkFrame) (err : Fin 3) (q : Fin 4) (s : State),
    let now := s.clock t; let e := s.dev.heard now n fr; let h := hdrOf (frameBody fr); let come := s.dev.receiving n ∧ FrameGood s.dev n fr ∧ frameTransport fr = true ∧ e.nlState n = 4; let mine := come ∧ e.fabOn = true ∧ e.frozen P.FAB = false ∧ 1 ≤ h.dst ∧ h.dst ≤ 63 ∧ h.dst = e.ownAddr; ∃ m, mine ∧ (e.findMsg h.src h.seq = some m) ∧ (h.cls = 2) ∧ m.cls ≤ 1) ∧
    (∃ (t : Nat) (n : Fin 4) (fr : LinkFrame) (err : Fin 3) (q : Fin 4) (s : State),
    let now := s.clock t; let e := s.dev.heard now n fr; let h := hdrOf (frameBody fr); let come := s.dev.receiving n ∧ FrameGood s.dev n fr ∧ frameTransport fr = true ∧ e.nlState n = 4; let mine := come ∧ e.fabOn = true ∧ e.frozen P.FAB = false ∧ 1 ≤ h.dst ∧ h.dst ≤ 63 ∧ h.dst = e.ownAddr; let fresh := RxWin.isNew (smGet e.fab.rxWin h.src) h.seq; (mine ∧ (fresh = false)) ∧ ∃ c k, (c, k) ∈ ([((.regRd t n fr err), 0), ((.regWr t n fr), 1), ((.intr t n fr), 3), ((.msg t n fr q), 5)] : List (Instr × Nat)) ∧ (h.cls = k)) :=
  ⟨⟨1000100, 1, body false (hd 9 4 7 1 3 0x1003 ++ [0x40000000, 1, 7]) 5, 0, 2, (lnk 1 4 { rxExp := 5 } (fun d => let d := (ring (d.set F.FAB_STAT_ADDR 9) 20 0 [] 0x20001000).set (F.FAB_RTE_ENTRY 12) 1; id { d with fab := { d.fab with root := some 77, parent := some 2, msgs := (none : Option FabMsg).toList } })), by decide +kernel⟩,
   ⟨1000100, 1, body false (hd 9 4 7 5 3 0x2003 ++ [0x40000000, 1, 7]) 5, 0, 2, (lnk 1 4 { rxExp := 5 } (fun d => let d := (ring (d.set F.FAB_STAT_ADDR 9) 20 0 [] 0x20001000).set (F.FAB_RTE_ENTRY 12) 1; id { d with fab := { d.fab with root := some 77, parent := some 2, msgs := (none : Option FabMsg).toList } })), by decide +kernel⟩,
   ⟨1000100, 1, body false (hd 0 4 0 5 3 0 ++ [0x40000000, 1, 7]) 5, 0, 2, (lnk 1 4 { rxExp := 5 } (fun d => let d := (ring (d.set F.FAB_STAT_ADDR 9) 20 0 [] 0x20001000).set (F.FAB_RTE_ENTRY 12) 1; (fun d => d.put (F.PCTL_FREEZE P.FAB) true) { d with fab := { d.fab with root := some 77, parent := some 2, msgs := (none : Option FabMsg).toList } })), (.regRd 1000100 1 (body false (hd 0 4 0 5 3 0 ++ [0x40000000, 1, 7]) 5) 0), 0, by decide +kernel⟩,
   ⟨1000100, 1, body false (hd 0 4 0 5 3 0 ++ [0x40000000, 1, 7]) 5, 0, 2, (lnk 1 4 { rxExp := 5 } (fun d => let d := (ring (d.set F.FAB_STAT_ADDR 9) 20 0 [] 0x20001000).set (F.FAB_RTE_ENTRY 12) 1; (fun d => d.put (F.PCTL_ENABLE P.FAB) false) { d with fab := { d.fab with root := some 77, parent := some 2, msgs := (none : Option FabMsg).toList } })), (.regRd 1000100 1 (body false (hd 0 4 0 5 3 0 ++ [0x40000000, 1, 7]) 5) 0), 0, by decide +kernel⟩,
   ⟨1000100, 1, body false (hd 9 4 2 5 3 0 ++ [0x40000000, 1, 7]) 5, 0, 2, (lnk 1 4 { rxExp := 5 } (fun d => let d := (ring (d.set F.FAB_STAT_ADDR 9) 20 0 [] 0x20001000).set (F.FAB_RTE_ENTRY 12) 1; id { d with fab := { d.fab with root := some 77, parent := some 2, msgs := ((some { ring := 0, dst := 4, cls := 0, seq := 3, cnt := 1 }) : Option FabMsg).toList } })), { ring := 0, src := 0, dst := 4, cls := 0, seq := 3, at0 := 0, deadline := 0, hold := none, paused := 0, nent := 1, cnt := 1 }, by decide +kernel⟩,
   ⟨1000100, 1, body false (hd 9 4 0 1 3 0 ++ [0x40000000, 1, 7]) 5, 0, 2, (lnk 1 4 { rxExp := 5 } (fun d => let d := (ring (d.set F.FAB_STAT_ADDR 9) 20 0 [] 0x20001000).set (F.FAB_RTE_ENTRY 12) 1; (fun d => { d with fab := { d.fab with rxWin := [(4, { hi := 3, marks := [0] })] } }) { d with fab := { d.fab with root := some 77, parent := some 2, msgs := ((some ({ ring := 1, dst := 4, cls := 0 - 1, seq := 3 } : FabMsg)) : Option FabMsg).toList } })), by decide +kernel, (.regRd 1000100 1 (body false (hd 9 4 0 1 3 0 ++ [0x40000000, 1, 7]) 5) 0), 0, by decide +kernel⟩⟩

theorem witness_TransportFramesAreRoutedAndDelivered_4 :
    (∃ (t : Nat) (n : Fin 4) (fr : LinkFrame) (err : Fin 3) (q : Fin 4) (s : State),
    let now := s.clock t; let e := s.dev.heard now n fr; let h := hdrOf (frameBody fr); let come := s.dev.receiving n ∧ FrameGood s.dev n fr ∧ frameTransport fr = true ∧ e.nlState n = 4; let mine := come ∧ e.fabOn = true ∧ e.frozen P.FAB = false ∧ 1 ≤ h.dst ∧ h.dst ≤ 63 ∧ h.dst = e.ownAddr; ∃ m, mine ∧ (e.findMsg h.src h.seq = some m) ∧ (h.cls = 4) ∧ (m.cls = 3)) ∧
    (∃ (t : Nat) (n : Fin 4) (fr : LinkFrame) (err : Fin 3) (q : Fin 4) (s : State),
    let now := s.clock t; let e := s.dev.heard now n fr; let h := hdrOf (frameBody fr); let come := s.dev.receiving n ∧ FrameGood s.dev n fr ∧ frameTransport fr = true ∧ e.nlState n = 4; let mine := come ∧ e.fabOn = true ∧ e.frozen P.FAB = false ∧ 1 ≤ h.dst ∧ h.dst ≤ 63 ∧ h.dst = e.ownAddr; ∃ m, mine ∧ (e.findMsg h.src h.seq = some m) ∧ (h.cls = 6) ∧ (m.cls = 5)) :=
  ⟨⟨1000100, 1, body false (hd 9 4 4 5 3 0 ++ [0x40000000, 1, 7]) 5, 0, 2, (lnk 1 4 { rxExp := 5 } (fun d => let d := (ring (d.set F.FAB_STAT_ADDR 9) 20 0 [] 0x20001000).set (F.FAB_RTE_ENTRY 12) 1; (fun d => { d with fab := { d.fab with rxWin := [(4, { hi := 3, marks := [0] })] } }) { d with fab := { d.fab with root := some 77, parent := some 2, msgs := ((some ({ ring := 1, dst := 4, cls := 4 - 1, seq := 3 } : FabMsg)) : Option FabMsg).toList } })), { ring := 1, src := 0, dst := 4, cls := 3, seq := 3, at0 := 0, deadline := 0, hold := none, paused := 0, nent := 1, cnt := 0 }, by decide +kernel⟩,
   ⟨1000100, 1, body false (hd 9 4 6 1 3 0 ++ [0x40000000, 1, 7]) 5, 0, 2, (lnk 1 4 { rxExp := 5 } (fun d => let d := (ring (d.set F.FAB_STAT_ADDR 9) 20 0 [] 0x20001000).set (F.FAB_RTE_ENTRY 12) 1; (fun d => { d with fab := { d.fab with rxWin := [(4, { hi := 3, marks := [0] })] } }) { d with fab := { d.fab with root := some 77, parent := some 2, msgs := ((some ({ ring := 1, dst := 4, cls := 6 - 1, seq := 3 } : FabMsg)) : Option FabMsg).toList } })), { ring := 1, src := 0, dst := 4, cls := 5, seq := 3, at0 := 0, deadline := 0, hold := none, paused := 0, nent := 1, cnt := 0 }, by decide +kernel⟩⟩

theorem witness_MessagesAreSentTimedAndCompleted :
    (∃ (t : Nat) (r : Fin 4) (k : Fin 5) (src : Fin 512) (s : State),
    (let ring := 16 + r.val; s.dev.ringEn ring = false ∨ s.dev.ringFill ring = 0) ∧
    (s.dev.enabled P.FAB = false) ∧
    (let now := s.clock t; ∃ m, (s.dev.msgs.find? (fun m => m.ring == k.val && (decide (k.val < 4) || m.src == src.val)) = some m) ∧ (m.hold ≠ none ∨ now < m.deadline))) ∧
    (∃ (t : Nat) (r : Fin 4) (k : Fin 5) (src : Fin 512) (s : State),
    (let ring := 16 + r.val; let tail := s.dev.get (F.RING_TAIL_TAIL ring); let w0 := s.dev.entryWord ring tail 0; let w1 := s.dev.entryWord ring tail 1; let nent := wordGet w0 19 18 + 1; let dst := wordGet w0 31 24; let cls := wordGet w0 23 20; let len := wordGet w1 6 0; let room := 14 + 16 * (nent - 1); let payload := (List.range (min len 62)).map (fun i => s.dev.entryWord ring tail (2 + i)); let ready := s.dev.enabled P.FAB = true ∧ s.dev.restarting P.FAB = false ∧ s.dev.frozen P.FAB = false ∧ s.dev.ringEn ring = true ∧ (∀ m ∈ s.dev.msgs, m.ring ≠ r.val) ∧ nent ≤ s.dev.ringFill ring; let fits := len ≤ 62 ∧ len ≤ room ∧ (cls = 0 → 2 + wordGet (wordAtD payload 1) 3 0 ≤ room); ready ∧ (cls = 5 ∨ (dst ≠ 0xFF ∧ cls ≤ 1)) ∧ fits ∧ (s.dev.ownAddr = 0)) ∧
    (let now := s.clock t; ∃ m, (s.dev.msgs.find? (fun m => m.ring == k.val && (decide (k.val < 4) || m.src == src.val)) = some m) ∧ (m.hold = none) ∧ m.deadline ≤ now)) ∧
    (∃ (t : Nat) (r : Fin 4) (k : Fin 5) (src : Fin 512) (s : State),
    let now := s.clock t; ∃ m, (s.dev.msgs.find? (fun m => m.ring == k.val && (decide (k.val < 4) || m.src == src.val)) = some m) ∧ ∃ u, (m.hold = some u) ∧ u + s.dev.pauseLeft m ≤ now) ∧
    (∃ (t : Nat) (r : Fin 4) (k : Fin 5) (src : Fin 512) (s : State),
    let ring := 16 + r.val; let tail := s.dev.get (F.RING_TAIL_TAIL ring); let w0 := s.dev.entryWord ring tail 0; let w1 := s.dev.entryWord ring tail 1; let nent := wordGet w0 19 18 + 1; let dst := wordGet w0 31 24; let cls := wordGet w0 23 20; let len := wordGet w1 6 0; let room := 14 + 16 * (nent - 1); let payload := (List.range (min len 62)).map (fun i => s.dev.entryWord ring tail (2 + i)); let ready := s.dev.enabled P.FAB = true ∧ s.dev.restarting P.FAB = false ∧ s.dev.frozen P.FAB = false ∧ s.dev.ringEn ring = true ∧ (∀ m ∈ s.dev.msgs, m.ring ≠ r.val) ∧ nent ≤ s.dev.ringFill ring; let fits := len ≤ 62 ∧ len ≤ room ∧ (cls = 0 → 2 + wordGet (wordAtD payload 1) 3 0 ≤ room); ready ∧ (cls = 0 ∨ cls = 1 ∨ cls = 5) ∧ fits ∧ s.dev.ownAddr ≠ 0 ∧ dst ≠ 0xFF) ∧
    (∃ (t : Nat) (r : Fin 4) (k : Fin 5) (src : Fin 512) (s : State),
    let ring := 16 + r.val; let tail := s.dev.get (F.RING_TAIL_TAIL ring); let w0 := s.dev.entryWord ring tail 0; let nent := wordGet w0 19 18 + 1; let dst := wordGet w0 31 24; let cls := wordGet w0 23 20; let ready := s.dev.enabled P.FAB = true ∧ s.dev.restarting P.FAB = false ∧ s.dev.frozen P.FAB = false ∧ s.dev.ringEn ring = true ∧ (∀ m ∈ s.dev.msgs, m.ring ≠ r.val) ∧ nent ≤ s.dev.ringFill ring; ready ∧ ((cls ≠ 0 ∧ cls ≠ 1 ∧ cls ≠ 5) ∨ (dst = 0xFF ∧ cls ≠ 5))) ∧
    (∃ (t : Nat) (r : Fin 4) (k : Fin 5) (src : Fin 512) (s : State),
    let ring := 16 + r.val; let tail := s.dev.get (F.RING_TAIL_TAIL ring); let w0 := s.dev.entryWord ring tail 0; let w1 := s.dev.entryWord ring tail 1; let nent := wordGet w0 19 18 + 1; let dst := wordGet w0 31 24; let cls := wordGet w0 23 20; let len := wordGet w1 6 0; let room := 14 + 16 * (nent - 1); let payload := (List.range (min len 62)).map (fun i => s.dev.entryWord ring tail (2 + i)); let ready := s.dev.enabled P.FAB = true ∧ s.dev.restarting P.FAB = false ∧ s.dev.frozen P.FAB = false ∧ s.dev.ringEn ring = true ∧ (∀ m ∈ s.dev.msgs, m.ring ≠ r.val) ∧ nent ≤ s.dev.ringFill ring; let fits := len ≤ 62 ∧ len ≤ room ∧ (cls = 0 → 2 + wordGet (wordAtD payload 1) 3 0 ≤ room); ready ∧ (cls = 5 ∨ (dst ≠ 0xFF ∧ cls ≤ 1)) ∧ ¬ fits) :=
  ⟨⟨1000100, 2, 4, 3, (lnk 1 4 {} (fun d => { (ring d 18 0 []).put (F.PCTL_ENABLE P.FAB) false with fab := { d.fab with msgs := [{ ring := 4, src := 3, dst := 4, deadline := 4444444 }] } })), by decide +kernel, by decide +kernel, { ring := 4, src := 3, dst := 4, cls := 0, seq := 0, at0 := 0, deadline := 4444444, hold := none, paused := 0, nent := 1, cnt := 0 }, by decide +kernel⟩,
   ⟨1000100, 2, 4, 3, (lnk 1 4 {} (fun d => { ring d 18 1 [] with fab := { d.fab with msgs := [{ ring := 4, src := 3, dst := 4, deadline := 44 }] } })), by decide +kernel, { ring := 4, src := 3, dst := 4, cls := 0, seq := 0, at0 := 0, deadline := 44, hold := none, paused := 0, nent := 1, cnt := 0 }, by decide +kernel⟩,
   ⟨999999999999, 2, 2, 3, (lnk 1 4 {} (fun d => { ring d 18 1 [w32 0x09500000, 2] with fab := { d.fab with msgs := [{ ring := 3, dst := 4, deadline := 44, hold := some 7 }, { ring := 2, dst := 4, deadline := 44, hold := some 7 }] } })), { ring := 2, src := 0, dst := 4, cls := 0, seq := 0, at0 := 0, deadline := 44, hold := some 7, paused := 0, nent := 1, cnt := 0 }, by decide +kernel, 7, by decide +kernel⟩,
   ⟨1000100, 2, 2, 3, (lnk 1 4 { rxExp := 5 } (fun d => let d := (ring (d.set F.FAB_STAT_ADDR 9) 18 1 [w32 (9 * 0x1000000 + 0 * 0x100000 + 0x77), w32 2, 0x40000000, 3, 5, 6, 7] 0x20001000).set (F.FAB_RTE_ENTRY 12) 1; { d with fab := { d.fab with root := some 77, parent := none } })), by decide +kernel⟩,
   ⟨1000100, 2, 2, 3, (lnk 1 4 { rxExp := 5 } (fun d => let d := (ring (d.set F.FAB_STAT_ADDR 0) 18 1 [w32 (9 * 0x1000000 + 3 * 0x100000 + 0x77), w32 2, 0x40000000, 3, 5, 6, 7] 0x20001000).set (F.FAB_RTE_ENTRY 12) 1; { d with fab := { d.fab with root := some 77, parent := none } })), by decide +kernel⟩,
   ⟨1000100, 2, 2, 3, (lnk 1 4 { rxExp := 5 } (fun d => let d := (ring (d.set F.FAB_STAT_ADDR 0) 18 1 [w32 (9 * 0x1000000 + 0 * 0x100000 + 0x77), w32 15, 0x40000000, 3, 5, 6, 7] 0x20001000).set (F.FAB_RTE_ENTRY 12) 1; { d with fab := { d.fab with root := some 77, parent := none } })), by decide +kernel⟩⟩

theorem witness_MessagesAreSentTimedAndCompleted_2 : ∃ (t : Nat) (r : Fin 4) (k : Fin 5) (src : Fin 512) (s : State),
    let ring := 16 + r.val; let tail := s.dev.get (F.RING_TAIL_TAIL ring); let w0 := s.dev.entryWord ring tail 0; let w1 := s.dev.entryWord ring tail 1; let nent := wordGet w0 19 18 + 1; let dst := wordGet w0 31 24; let cls := wordGet w0 23 20; let len := wordGet w1 6 0; let room := 14 + 16 * (nent - 1); let payload := (List.range (min len 62)).map (fun i => s.dev.entryWord ring tail (2 + i)); let ready := s.dev.enabled P.FAB = true ∧ s.dev.restarting P.FAB = false ∧ s.dev.frozen P.FAB = false ∧ s.dev.ringEn ring = true ∧ (∀ m ∈ s.dev.msgs, m.ring ≠ r.val) ∧ nent ≤ s.dev.ringFill ring; let fits := len ≤ 62 ∧ len ≤ room ∧ (cls = 0 → 2 + wordGet (wordAtD payload 1) 3 0 ≤ room); ready ∧ (cls = 5) ∧ fits ∧ s.dev.ownAddr ≠ 0 ∧ (dst = 0xFF) :=
  ⟨1000100, 2, 2, 3, (lnk 1 4 { rxExp := 5 } (fun d => let d := (ring (d.set F.FAB_STAT_ADDR 9) 18 1 [w32 (255 * 0x1000000 + 5 * 0x100000 + 0x77), w32 2, 0x40000000, 3, 5, 6, 7] 0x20001000).set (F.FAB_RTE_ENTRY 12) 1; { d with fab := { d.fab with root := some 77, parent := none } })), by decide +kernel⟩

theorem witness_BeaconsAreReceivedAndVerified :
    (∃ (t trx : Nat) (n : Fin 4) (b0 b1 b2 : BitVec 16) (dls : List Nat) (up : Bool) (par : Fin 3) (cur : Nat) (s : State),
    (let e := s.dev.nlHear n; e.nlUp n = false) ∧
    ((s.dev.nl n).tags = [] ∨ s.dev.nlUp n = false)) ∧
    (∃ (t trx : Nat) (n : Fin 4) (b0 b1 b2 : BitVec 16) (dls : List Nat) (up : Bool) (par : Fin 3) (cur : Nat) (s : State),
    (let e := s.dev.nlHear n; let f := (b0.extractLsb' 14 2).toNat; let open' := e.carries n = true ∧ e.enabled P.BEAC = true ∧ e.frozen P.BEAC = false ∧ e.restarting P.BEAC = false ∧ e.flag (F.BEAC_TX_EN f) = false; (e.nlUp n = true) ∧ ¬ open') ∧
    (∃ b l, ((s.dev.nl n).tags = b :: l) ∧ (s.dev.nlUp n = true) ∧ b.tag ≠ 0 ∧ b.at0 + s.dev.get F.BEAC_VER_BTAG_T * 1280 ≤ s.clock t)) ∧
    (∃ (t trx : Nat) (n : Fin 4) (b0 b1 b2 : BitVec 16) (dls : List Nat) (up : Bool) (par : Fin 3) (cur : Nat) (s : State),
    let e := s.dev.nlHear n; let f := (b0.extractLsb' 14 2).toNat; let hops := (b0.extractLsb' 11 3).toNat; let open' := e.carries n = true ∧ e.enabled P.BEAC = true ∧ e.frozen P.BEAC = false ∧ e.restarting P.BEAC = false ∧ e.flag (F.BEAC_TX_EN f) = false; (e.nlUp n = true) ∧ open' ∧ (hops = 0 ∨ hops = 7)) ∧
    (∃ (t trx : Nat) (n : Fin 4) (b0 b1 b2 : BitVec 16) (dls : List Nat) (up : Bool) (par : Fin 3) (cur : Nat) (s : State),
    let e := s.dev.nlHear n; let f := (b0.extractLsb' 14 2).toNat; let hops := (b0.extractLsb' 11 3).toNat; let seq := (b0.extractLsb' 0 8).toNat; let open' := e.carries n = true ∧ e.enabled P.BEAC = true ∧ e.frozen P.BEAC = false ∧ e.restarting P.BEAC = false ∧ e.flag (F.BEAC_TX_EN f) = false; (e.nlUp n = true) ∧ open' ∧ 1 ≤ hops ∧ hops ≤ 6 ∧ (e.beaconSeen f seq = false) ∧ (e.flag (F.BEAC_FWD_EN f) = false) ∧ (∀ k : Fin 2, e.get (F.BEAC_RX_FDOM k) ≠ f)) ∧
    (∃ (t trx : Nat) (n : Fin 4) (b0 b1 b2 : BitVec 16) (dls : List Nat) (up : Bool) (par : Fin 3) (cur : Nat) (s : State),
    let e := s.dev.nlHear n; let f := (b0.extractLsb' 14 2).toNat; let hops := (b0.extractLsb' 11 3).toNat; let seq := (b0.extractLsb' 0 8).toNat; let open' := e.carries n = true ∧ e.enabled P.BEAC = true ∧ e.frozen P.BEAC = false ∧ e.restarting P.BEAC = false ∧ e.flag (F.BEAC_TX_EN f) = false; (e.nlUp n = true) ∧ open' ∧ 1 ≤ hops ∧ hops ≤ 6 ∧ (e.beaconSeen f seq = true)) :=
  ⟨⟨1000100, 1000050, 1, (0x8805 : BitVec 16), 0x12, 0x3456, [4, 5], true, 0, 7, (lnk 1 3 { smp := [1,1,1,1,1,1,1,1] } (fun d => d.on P.BEAC)), by decide +kernel, by decide +kernel⟩,
   ⟨99999999, 1000050, 1, 0, 0x12, 0x3456, [4, 5], true, 0, 7, (lnk 1 4 { tags := [{ at0 := 500, tag := 7 }], rxTags := [{ at0 := 1 }, { at0 := 999999 }, { at0 := 1, orphan := true }, { at0 := 1, dead := true }] } id), by decide +kernel, { at0 := 500, b0 := 0x0000#16, b1 := 0x0000#16, b2 := 0x0000#16, tag := 7 }, [], by decide +kernel⟩,
   ⟨1000100, 1000050, 1, (0x8005 : BitVec 16), 0x12, 0x3456, [4, 5], true, 0, 7, (lnk 1 4 { smp := [1,1,1,1,1,1,1,1] } (fun d => d.on P.BEAC)), by decide +kernel⟩,
   ⟨1000100, 1000050, 1, (0x9005 : BitVec 16), 0x12, 0x3456, [4, 5], true, 0, 7, (lnk 1 4 { smp := [1,1,1,1,1,1,1,1] } (fun d => d.on P.BEAC)), by decide +kernel⟩,
   ⟨1000100, 1000050, 1, (0x8805 : BitVec 16), 0x12, 0x3456, [4, 5], true, 0, 7, (lnk 1 4 { smp := [1,1,1,1,1,1,1,1] } (fun d => (fun d => { d with beac := { d.beac with seen := vSet d.beac.seen 2 [5] } }) (d.on P.BEAC))), by decide +kernel⟩⟩

theorem witness_FaultsEnterTheirLevelsAndActions :
    (∃ (t : Nat) (src : Fin 512) (s : State),
    s.dev.fcol.awaiting.all (fun m => m.src != src.val) = true) ∧
    (∃ (t : Nat) (src : Fin 512) (s : State),
    let x := s.dev.fsrc src; ∃ m l, (takeFirst (fun m => m.src == src.val) s.dev.fcol.awaiting = some (m, l)) ∧ (x.unack = false)) ∧
    (∃ (t : Nat) (src : Fin 512) (s : State),
    let x := s.dev.fsrc src; ∃ m l, (takeFirst (fun m => m.src == src.val) s.dev.fcol.awaiting = some (m, l)) ∧ (x.unack = true) ∧ x.level < 3 ∧ (m.cls = x.cls) ∧ (s.dev.escalates m.cls = false)) ∧
    (∃ (t u : Nat) (src : Fin 512) (s : State),
    let x := s.dev.fsrc src; x.deadline = none ∨ x.unack = false ∨ x.level ≠ 2) ∧
    (∃ (t u : Nat) (src : Fin 512) (s : State),
    let x := s.dev.fsrc src; (x.deadline = some u) ∧ s.clock t < (u + 511) / 512 * 512) ∧
    (∃ (t u : Nat) (src : Fin 512) (s : State),
    let x := s.dev.fsrc src; let a := s.dev.get (F.FCOL_SCFG_ACTION src); (x.deadline = some u) ∧ (x.unack = true) ∧ (x.level = 2) ∧ (u + 511) / 512 * 512 ≤ s.clock t ∧ (a = 0 ∨ 3 < a ∨ (a = 1 ∧ srcPage src = none))) ∧
    (∃ (t u : Nat) (src : Fin 512) (s : State),
    let x := s.dev.fsrc src; let a := s.dev.get (F.FCOL_SCFG_ACTION src); ((x.deadline = some u) ∧ (x.unack = true) ∧ (x.level = 2) ∧ (u + 511) / 512 * 512 ≤ s.clock t) ∧ ∃ pg, (a = 1) ∧ (srcPage src = some pg)) :=
  ⟨⟨1000100, (2 : Fin 512), (mk (fun d => (fun d => { d.set (F.FCOL_SCFG_ACTION (2 : Fin 512)) 2 with fcol := { d.fcol with minwEnd := some 70000000 } }) ({ ((d.set F.SYS_MODE_MODE 7).put (F.PLOCK_UNLOCKED P.FCOL) true).set (F.PLOCK_OWNER P.FCOL) Initiator.sup.code with fcol := { d.fcol with awaiting := [] } } |>.setFsrc (2 : Fin 512) ({ unack := true, level := 2, cls := 0, count := 6, deadline := some 5000000 } : FSrc)))), by decide +kernel⟩,
   ⟨1000100, (2 : Fin 512), (mk (fun d => (·.set (F.FCOL_SCFG_ACTION (2 : Fin 512)) 0) ({ ((d.set F.SYS_MODE_MODE 7).put (F.PLOCK_UNLOCKED P.FCOL) true).set (F.PLOCK_OWNER P.FCOL) Initiator.sup.code with fcol := { d.fcol with awaiting := [{ src := 3, kind := 1, cls := 1, detail := 0, arg := 0 }, { src := (2 : Fin 512), kind := 0x5, cls := 0, detail := 0x77, arg := 99 }, { src := (2 : Fin 512), kind := 0x6, cls := 0, detail := 0x78, arg := 99 }] } } |>.setFsrc (2 : Fin 512) ({} : FSrc)))), { src := 2, kind := 5, cls := 0, detail := 119, arg := 99, forced := false }, [{ src := 3, kind := 1, cls := 1, detail := 0, arg := 0, forced := false }, { src := 2, kind := 6, cls := 0, detail := 120, arg := 99, forced := false }], by decide +kernel⟩,
   ⟨1000100, (2 : Fin 512), (mk (fun d => (fun d => { (d.set (F.FCOL_SCFG_ACTION (2 : Fin 512)) 3).set F.SYS_MODE_MODE 4 with fcol := { d.fcol with minwEnd := some 7 } }) ({ ((d.set F.SYS_MODE_MODE 7).put (F.PLOCK_UNLOCKED P.FCOL) true).set (F.PLOCK_OWNER P.FCOL) Initiator.sup.code with fcol := { d.fcol with awaiting := [{ src := (2 : Fin 512), kind := 0x5, cls := 0, detail := 0x77, arg := 99 }] } } |>.setFsrc (2 : Fin 512) ({ unack := true, level := 2, cls := 0, count := 6, deadline := some 500 } : FSrc)))), { src := 2, kind := 5, cls := 0, detail := 119, arg := 99, forced := false }, [], by decide +kernel⟩,
   ⟨1000100, (({} : FSrc).deadline.getD 0), (2 : Fin 512), (mk (fun d => (·.set (F.FCOL_SCFG_ACTION (2 : Fin 512)) 0) ({ ((d.set F.SYS_MODE_MODE 7).put (F.PLOCK_UNLOCKED P.FCOL) true).set (F.PLOCK_OWNER P.FCOL) Initiator.sup.code with fcol := { d.fcol with awaiting := [{ src := 3, kind := 1, cls := 1, detail := 0, arg := 0 }, { src := (2 : Fin 512), kind := 0x5, cls := 0, detail := 0x77, arg := 99 }, { src := (2 : Fin 512), kind := 0x6, cls := 0, detail := 0x78, arg := 99 }] } } |>.setFsrc (2 : Fin 512) ({} : FSrc)))), by decide +kernel⟩,
   ⟨1000100, (({ unack := true, level := 2, cls := 0, count := 6, deadline := some 5000000 } : FSrc).deadline.getD 0), (2 : Fin 512), (mk (fun d => (fun d => { d.set (F.FCOL_SCFG_ACTION (2 : Fin 512)) 0 with fcol := { d.fcol with minwEnd := some 70000000 } }) ({ ((d.set F.SYS_MODE_MODE 7).put (F.PLOCK_UNLOCKED P.FCOL) true).set (F.PLOCK_OWNER P.FCOL) Initiator.sup.code with fcol := { d.fcol with awaiting := [] } } |>.setFsrc (2 : Fin 512) ({ unack := true, level := 2, cls := 0, count := 6, deadline := some 5000000 } : FSrc)))), by decide +kernel⟩,
   ⟨1000100, (({ unack := true, level := 2, cls := 0, count := 6, deadline := some 500, act := 2, doms := 3 } : FSrc).deadline.getD 0), (2 : Fin 512), (mk (fun d => (fun d => { (d.set (F.FCOL_SCFG_ACTION (2 : Fin 512)) 0).set F.FCOL_DHOLD_HOLD 3 with fcol := { d.fcol with minwEnd := some 70000000 } }) ({ ((d.set F.SYS_MODE_MODE 7).put (F.PLOCK_UNLOCKED P.FCOL) true).set (F.PLOCK_OWNER P.FCOL) Initiator.sup.code with fcol := { d.fcol with awaiting := [] } } |>.setFsrc (2 : Fin 512) ({ unack := true, level := 2, cls := 0, count := 6, deadline := some 500, act := 2, doms := 3 } : FSrc)))), by decide +kernel⟩,
   ⟨1000100, (({ unack := true, level := 2, cls := 0, count := 6, deadline := some 500, act := 2, doms := 3 } : FSrc).deadline.getD 0), (2 : Fin 512), (mk (fun d => (fun d => { (d.set (F.FCOL_SCFG_ACTION (2 : Fin 512)) 1).set F.FCOL_DHOLD_HOLD 3 with fcol := { d.fcol with minwEnd := some 70000000 } }) ({ ((d.set F.SYS_MODE_MODE 7).put (F.PLOCK_UNLOCKED P.FCOL) true).set (F.PLOCK_OWNER P.FCOL) Initiator.sup.code with fcol := { d.fcol with awaiting := [] } } |>.setFsrc (2 : Fin 512) ({ unack := true, level := 2, cls := 0, count := 6, deadline := some 500, act := 2, doms := 3 } : FSrc)))), by decide +kernel, 2, by decide +kernel⟩⟩

theorem witness_FaultsEnterTheirLevelsAndActions_2 :
    (∃ (t u : Nat) (src : Fin 512) (s : State),
    let x := s.dev.fsrc src; let a := s.dev.get (F.FCOL_SCFG_ACTION src); (x.deadline = some u) ∧ (x.unack = true) ∧ (x.level = 2) ∧ (u + 511) / 512 * 512 ≤ s.clock t ∧ (a = 2)) ∧
    (∃ (t u : Nat) (src : Fin 512) (s : State),
    let x := s.dev.fsrc src; let a := s.dev.get (F.FCOL_SCFG_ACTION src); (x.deadline = some u) ∧ (x.unack = true) ∧ (x.level = 2) ∧ (u + 511) / 512 * 512 ≤ s.clock t ∧ (a = 3)) :=
  ⟨⟨1000100, (({ unack := true, level := 2, cls := 0, count := 6, deadline := some 500, act := 2, doms := 3 } : FSrc).deadline.getD 0), (2 : Fin 512), (mk (fun d => (fun d => { (d.set (F.FCOL_SCFG_ACTION (2 : Fin 512)) 2).set F.FCOL_DHOLD_HOLD 3 with fcol := { d.fcol with minwEnd := some 70000000 } }) ({ ((d.set F.SYS_MODE_MODE 7).put (F.PLOCK_UNLOCKED P.FCOL) true).set (F.PLOCK_OWNER P.FCOL) Initiator.sup.code with fcol := { d.fcol with awaiting := [] } } |>.setFsrc (2 : Fin 512) ({ unack := true, level := 2, cls := 0, count := 6, deadline := some 500, act := 2, doms := 3 } : FSrc)))), by decide +kernel⟩,
   ⟨1000100, (({ unack := true, level := 2, cls := 0, count := 6, deadline := some 500, act := 2, doms := 3 } : FSrc).deadline.getD 0), (2 : Fin 512), (mk (fun d => (fun d => { (d.set (F.FCOL_SCFG_ACTION (2 : Fin 512)) 3).set F.FCOL_DHOLD_HOLD 3 with fcol := { d.fcol with minwEnd := some 70000000 } }) ({ ((d.set F.SYS_MODE_MODE 7).put (F.PLOCK_UNLOCKED P.FCOL) true).set (F.PLOCK_OWNER P.FCOL) Initiator.sup.code with fcol := { d.fcol with awaiting := [] } } |>.setFsrc (2 : Fin 512) ({ unack := true, level := 2, cls := 0, count := 6, deadline := some 500, act := 2, doms := 3 } : FSrc)))), by decide +kernel⟩⟩

theorem witness_FaultsAreAcknowledgedAndThePinFollows :
    (∃ (t : Nat) (who : Initiator) (src : Fin 512) (w : Word) (v : Bool) (s : State),
    (Granted s who R.FCOL_ACK) ∧
    (Granted s who R.FCOL_DHOLD) ∧
    (Granted s who R.FCOL_ERRPIN ∧ (s.dev.unlocked who P.FCOL = true)) ∧
    (∃ u, (s.dev.fcol.minwEnd = some u) ∧ s.clock t < u)) ∧
    (∃ (t : Nat) (who : Initiator) (src : Fin 512) (w : Word) (v : Bool) (s : State),
    ∃ u, (s.dev.fcol.minwEnd = some u) ∧ u ≤ s.clock t) :=
  ⟨⟨1000100, .sup, (2 : Fin 512), 0, true, (mk (fun d => (fun d => { d.set (F.FCOL_SCFG_ACTION (2 : Fin 512)) 2 with fcol := { d.fcol with minwEnd := some 70000000 } }) ({ ((d.set F.SYS_MODE_MODE 7).put (F.PLOCK_UNLOCKED P.FCOL) true).set (F.PLOCK_OWNER P.FCOL) Initiator.sup.code with fcol := { d.fcol with awaiting := [] } } |>.setFsrc (2 : Fin 512) ({ unack := true, level := 2, cls := 0, count := 6, deadline := some 5000000 } : FSrc)))), by decide +kernel, by decide +kernel, by decide +kernel, 70000000, by decide +kernel⟩,
   ⟨1000100, .sup, (2 : Fin 512), 0, true, (mk (fun d => (fun d => { (d.set (F.FCOL_SCFG_ACTION (2 : Fin 512)) 3).set F.SYS_MODE_MODE 4 with fcol := { d.fcol with minwEnd := some 7 } }) ({ ((d.set F.SYS_MODE_MODE 7).put (F.PLOCK_UNLOCKED P.FCOL) true).set (F.PLOCK_OWNER P.FCOL) Initiator.sup.code with fcol := { d.fcol with awaiting := [{ src := (2 : Fin 512), kind := 0x5, cls := 0, detail := 0x77, arg := 99 }] } } |>.setFsrc (2 : Fin 512) ({ unack := true, level := 2, cls := 0, count := 6, deadline := some 500 } : FSrc)))), 7, by decide +kernel⟩⟩

theorem witness_FaultsAreForcedAndMonitorsRead :
    (∃ (t : Nat) (who : Initiator) (src : Fin 512) (w : Word) (s : State),
    (let may := s.dev.mode = 4 ∨ s.dev.mode = 9; src.val < 0xE3 ∧ ((pageInfo src).isSome = true) ∧ Granted s who (R.PFFRC src) ∧ ¬ may) ∧
    (let may := s.dev.mode = 4 ∨ s.dev.mode = 9; Granted s who (R.FFRC_FRC (src / 256) (src % 256 / 32)) ∧ ¬ may) ∧
    (Granted s who R.FCOL_SWF ∧ wordGet w 17 16 ≠ 3)) ∧
    (∃ (t : Nat) (who : Initiator) (src : Fin 512) (w : Word) (s : State),
    (let may := s.dev.mode = 4 ∨ s.dev.mode = 9; src.val < 0xE3 ∧ ((pageInfo src).isSome = true) ∧ Granted s who (R.PFFRC src) ∧ may) ∧
    (let may := s.dev.mode = 4 ∨ s.dev.mode = 9; Granted s who (R.FFRC_FRC (src / 256) (src % 256 / 32)) ∧ may) ∧
    (Granted s who R.FCOL_SWF ∧ (wordGet w 17 16 = 3))) ∧
    (∃ (t : Nat) (who : Initiator) (m : Fin 16) (w : Word) (s : State),
    (Granted s who (R.MON_CTL m)) ∧
    (Granted s who (R.MON_CFG m))) :=
  ⟨⟨1000100, .sup, (2 : Fin 512), 0x20007, (mk (fun d => (fun d => { d.set (F.FCOL_SCFG_ACTION (2 : Fin 512)) 3 with fcol := { d.fcol with minwEnd := some 70000000 } }) ({ ((d.set F.SYS_MODE_MODE 7).put (F.PLOCK_UNLOCKED P.FCOL) true).set (F.PLOCK_OWNER P.FCOL) Initiator.sup.code with fcol := { d.fcol with awaiting := [] } } |>.setFsrc (2 : Fin 512) ({ unack := true, level := 2, cls := 0, count := 6, deadline := some 5000000 } : FSrc)))), by decide +kernel, by decide +kernel, by decide +kernel⟩,
   ⟨1000100, .sup, (2 : Fin 512), 0x30002, (mk (fun d => (fun d => { (d.set (F.FCOL_SCFG_ACTION (2 : Fin 512)) 0x30002).set F.SYS_MODE_MODE 4 with fcol := { d.fcol with minwEnd := some 7 } }) ({ ((d.set F.SYS_MODE_MODE 7).put (F.PLOCK_UNLOCKED P.FCOL) true).set (F.PLOCK_OWNER P.FCOL) Initiator.sup.code with fcol := { d.fcol with awaiting := [{ src := (2 : Fin 512), kind := 0x5, cls := 0, detail := 0x77, arg := 99 }] } } |>.setFsrc (2 : Fin 512) ({ unack := true, level := 2, cls := 0, count := 6, deadline := some 500 } : FSrc)))), by decide +kernel, by decide +kernel, by decide +kernel⟩,
   ⟨1000100, .sup, 4, 5, (mk (fun d => { ((((d.set (F.MON_CFG_PROBE 4) 0).set (F.MON_CFG_SHIFT 4) 0).setReg (R.MON_HBASE 4) (100 : Word)).put (F.MON_CFG_EN 4) true).on (P.MON 4) with mons := vSet d.mons 4 m0 })), by decide +kernel, by decide +kernel⟩⟩

theorem witness_ModeCommandsAreTakenAndSafeIsLeft :
    (∃ (t : Nat) (who : Initiator) (key : BitVec 8) (v : Fin 2) (s : State),
    (let m := s.dev.mode; let keyed := key = 0x4D ∧ s.dev.flag F.SYS_MODESTAT_PEND = false; let still := s.dev.stopped 0 = true ∧ s.dev.stopped 1 = true; Granted s who R.SYS_MODECMD ∧ keyed ∧ (m = 5 ∨ m = 9) ∧ still) ∧
    (let m := s.dev.mode; let keyed := key = 0x4D ∧ s.dev.flag F.SYS_MODESTAT_PEND = false; Granted s who R.SYS_MODECMD ∧ keyed ∧ ((m = 4 ∧ s.dev.enabled (P.ANG (s.dev.get F.SYS_MODE_LEAD)) = true) ∨ m = 9 ∨ (m = 10 ∧ s.dev.flag F.SYS_SHUT_DONE = true ∧ s.dev.flag F.SYS_SHUT_PWROFF = false))) ∧
    (let m := s.dev.mode; let keyed := key = 0x4D ∧ s.dev.flag F.SYS_MODESTAT_PEND = false; Granted s who R.SYS_MODECMD ∧ keyed ∧ 4 ≤ m ∧ m ≤ 9) ∧
    (let m := s.dev.mode; let keyed := key = 0x4D ∧ s.dev.flag F.SYS_MODESTAT_PEND = false; Granted s who R.SYS_MODECMD ∧ keyed ∧ 3 ≤ m ∧ m ≤ 10) ∧
    (Granted s who R.SYS_MODECMD ∧ ∃ c cmd, let code := s.dev.modeCheck key.toNat cmd; (c, cmd) ∈ ([((.modeCmdConfig t who key), 4), ((.modeCmdReady t who key), 5), ((.modeCmdService t who key), 9), ((.modeCmdShutdown t who key), 10), ((.modeCmdSafe t who key), 11)] : List (Instr × Nat)) ∧ code ≠ 0) ∧
    (Granted s who R.SYS_MODECMD ∧ Granted s who R.SYS_MODE)) ∧
    (∃ (t : Nat) (who : Initiator) (key : BitVec 8) (v : Fin 2) (s : State),
    Granted s who R.SYS_MODECMD ∧ ∃ c cmd, (c, cmd) ∈ ([((.modeCmdConfig t who key), 4), ((.modeCmdReady t who key), 5), ((.modeCmdService t who key), 9), ((.modeCmdShutdown t who key), 10), ((.modeCmdSafe t who key), 11)] : List (Instr × Nat)) ∧ key ≠ 0x4D) ∧
    (∃ (t : Nat) (who : Initiator) (key : BitVec 8) (v : Fin 2) (s : State),
    let m := s.dev.mode; let keyed := key = 0x4D ∧ s.dev.flag F.SYS_MODESTAT_PEND = false; let still := s.dev.stopped 0 = true ∧ s.dev.stopped 1 = true; Granted s who R.SYS_MODECMD ∧ keyed ∧ (m = 5) ∧ (s.dev.flag F.SYS_SVC_ALLOW = true) ∧ still) ∧
    (∃ (t : Nat) (who : Initiator) (key : BitVec 8) (v : Fin 2) (s : State),
    Granted s who R.SYS_MODECMD ∧ ∃ c cmd, (c, cmd) ∈ ([((.modeCmdConfig t who key), 4), ((.modeCmdReady t who key), 5), ((.modeCmdService t who key), 9), ((.modeCmdShutdown t who key), 10), ((.modeCmdSafe t who key), 11)] : List (Instr × Nat)) ∧ (key = 0x4D) ∧ (s.dev.flag F.SYS_MODESTAT_PEND = true)) ∧
    (∃ (t : Nat) (who : Initiator) (w : Word) (s : State),
    let d0 := s.dev; let first := d0.flag F.SYS_SAFEACK_FIRST; let second := w = 0x0FA5 ∧ first = true ∧ d0.get F.SYS_SAFEACK_OWNER = who.code; Granted s who R.SYS_SAFEACK ∧ ¬ second ∧ (¬ (w = 0x5AF0 ∧ first = false))) ∧
    (∃ (t : Nat) (who : Initiator) (w : Word) (s : State),
    let d0 := s.dev; let first := d0.flag F.SYS_SAFEACK_FIRST; let second := w = 0x0FA5 ∧ first = true ∧ d0.get F.SYS_SAFEACK_OWNER = who.code; Granted s who R.SYS_SAFEACK ∧ second ∧ d0.mode ≠ 11) ∧
    (∃ (t : Nat) (who : Initiator) (w : Word) (s : State),
    let d0 := s.dev; let first := d0.flag F.SYS_SAFEACK_FIRST; Granted s who R.SYS_SAFEACK ∧ (w = 0x5AF0) ∧ (first = false)) ∧
    (∃ (t : Nat) (who : Initiator) (w : Word) (s : State),
    let d0 := s.dev; let first := d0.flag F.SYS_SAFEACK_FIRST; let second := w = 0x0FA5 ∧ first = true ∧ d0.get F.SYS_SAFEACK_OWNER = who.code; let good := d0.flag F.TB_STAT_REF_OK = true ∧ d0.flag F.TB_STAT_CAL_LOCK = true ∧ d0.supply.vddaLow = false ∧ d0.supply.vbLow = false; let still := d0.stopped 0 = true ∧ d0.stopped 1 = true; Granted s who R.SYS_SAFEACK ∧ second ∧ (d0.mode = 11) ∧ (d0.causesClear (s.clock t) = true) ∧ good ∧ still) ∧
    (∃ (t : Nat) (who : Initiator) (w : Word) (s : State),
    let d0 := s.dev; let first := d0.flag F.SYS_SAFEACK_FIRST; let second := w = 0x0FA5 ∧ first = true ∧ d0.get F.SYS_SAFEACK_OWNER = who.code; let good := d0.flag F.TB_STAT_REF_OK = true ∧ d0.flag F.TB_STAT_CAL_LOCK = true ∧ d0.supply.vddaLow = false ∧ d0.supply.vbLow = false; Granted s who R.SYS_SAFEACK ∧ second ∧ (d0.mode = 11) ∧ (d0.causesClear (s.clock t) = true) ∧ ¬ good) :=
  ⟨⟨1000100, .sup, (0x4D : BitVec 8), 1, mk (fun d => d.set F.SYS_MODE_MODE 9), by decide +kernel, by decide +kernel, by decide +kernel, by decide +kernel, ⟨by decide +kernel, (.modeCmdService 1000100 .sup (0x4D : BitVec 8)), 9, by decide +kernel⟩, by decide +kernel⟩,
   ⟨1000100, .sup, (0x4C : BitVec 8), 1, mk (fun d => d.set F.SYS_MODE_MODE 4), by decide +kernel, (.modeCmdConfig 1000100 .sup (0x4C : BitVec 8)), 4, by decide +kernel⟩,
   ⟨1000100, .sup, (0x4D : BitVec 8), 1, mk (fun d => (·.put F.SYS_SVC_ALLOW true) (d.set F.SYS_MODE_MODE 5)), by decide +kernel⟩,
   ⟨1000100, .sup, (0x4D : BitVec 8), 1, mk (fun d => (·.put F.SYS_MODESTAT_PEND true) (d.set F.SYS_MODE_MODE 3)), by decide +kernel, (.modeCmdConfig 1000100 .sup (0x4D : BitVec 8)), 4, by decide +kernel⟩,
   ⟨1000100, .sup, (7 : Word), mk (fun d => (fun d => ((d.set F.SYS_MODE_MODE 3).put F.SYS_SAFEACK_FIRST true).set F.SYS_SAFEACK_OWNER Initiator.sup.code) ((d.put F.TB_STAT_REF_OK true).put F.TB_STAT_CAL_LOCK true)), by decide +kernel⟩,
   ⟨1000100, .sup, (0x0FA5 : Word), mk (fun d => (fun d => ((d.set F.SYS_MODE_MODE 3).put F.SYS_SAFEACK_FIRST true).set F.SYS_SAFEACK_OWNER Initiator.sup.code) ((d.put F.TB_STAT_REF_OK true).put F.TB_STAT_CAL_LOCK true)), by decide +kernel⟩,
   ⟨1000100, .sup, (0x5AF0 : Word), mk (fun d => (fun d => ((d.set F.SYS_MODE_MODE 3).put F.SYS_SAFEACK_FIRST false).set F.SYS_SAFEACK_OWNER Initiator.sup.code) ((d.put F.TB_STAT_REF_OK true).put F.TB_STAT_CAL_LOCK true)), by decide +kernel⟩,
   ⟨1000100, .sup, (0x0FA5 : Word), mk (fun d => (fun d => ((d.set F.SYS_MODE_MODE 11).put F.SYS_SAFEACK_FIRST true).set F.SYS_SAFEACK_OWNER Initiator.sup.code) ((d.put F.TB_STAT_REF_OK true).put F.TB_STAT_CAL_LOCK true)), by decide +kernel⟩,
   ⟨1000100, .sup, (0x0FA5 : Word), mk (fun d => (fun d => (·.put F.TB_STAT_REF_OK false) (((d.set F.SYS_MODE_MODE 11).put F.SYS_SAFEACK_FIRST true).set F.SYS_SAFEACK_OWNER Initiator.sup.code)) ((d.put F.TB_STAT_REF_OK true).put F.TB_STAT_CAL_LOCK true)), by decide +kernel⟩⟩

theorem witness_ModeCommandsAreTakenAndSafeIsLeft_2 :
    (∃ (t : Nat) (who : Initiator) (w : Word) (s : State),
    let d0 := s.dev; let first := d0.flag F.SYS_SAFEACK_FIRST; let second := w = 0x0FA5 ∧ first = true ∧ d0.get F.SYS_SAFEACK_OWNER = who.code; Granted s who R.SYS_SAFEACK ∧ second ∧ (d0.mode = 11) ∧ (d0.causesClear (s.clock t) = false)) ∧
    (∃ (t : Nat) (who : Initiator) (w : Word) (s : State),
    let d0 := s.dev; let first := d0.flag F.SYS_SAFEACK_FIRST; let second := w = 0x0FA5 ∧ first = true ∧ d0.get F.SYS_SAFEACK_OWNER = who.code; let good := d0.flag F.TB_STAT_REF_OK = true ∧ d0.flag F.TB_STAT_CAL_LOCK = true ∧ d0.supply.vddaLow = false ∧ d0.supply.vbLow = false; let still := d0.stopped 0 = true ∧ d0.stopped 1 = true; Granted s who R.SYS_SAFEACK ∧ second ∧ (d0.mode = 11) ∧ (d0.causesClear (s.clock t) = true) ∧ good ∧ ¬ still) :=
  ⟨⟨1000100, .sup, (0x0FA5 : Word), mk (fun d => (fun d => (·.put F.SYS_SAFE_BROWNOUT true) (((d.set F.SYS_MODE_MODE 11).put F.SYS_SAFEACK_FIRST true).set F.SYS_SAFEACK_OWNER Initiator.sup.code)) ((d.put F.TB_STAT_REF_OK true).put F.TB_STAT_CAL_LOCK true)), by decide +kernel⟩,
   ⟨1000100, .sup, (0x0FA5 : Word), mk (fun d => (fun d => (fun d => (d.on (P.ANG 1)).set (F.ANG_STATE_STATE 1) 3) (((d.set F.SYS_MODE_MODE 11).put F.SYS_SAFEACK_FIRST true).set F.SYS_SAFEACK_OWNER Initiator.sup.code)) ((d.put F.TB_STAT_REF_OK true).put F.TB_STAT_CAL_LOCK true)), by decide +kernel⟩⟩

theorem witness_BootCompletesAndShutdownEnds :
    (∃ (t us : Nat) (who : Initiator) (code ok : BitVec 8) (s : State),
    (let d0 := s.dev; d0.sys.shut ≠ 2 ∨ d0.flushed = false) ∧
    (let d0 := s.dev; Granted s who R.SYS_CTL ∧ (d0.mode = 3)) ∧
    (let d0 := s.dev; d0.mode ≠ 3 ∨ d0.sys.booting = false ∨ d0.flag F.TB_STAT_CAL_LOCK = false)) ∧
    (∃ (t us : Nat) (who : Initiator) (code ok : BitVec 8) (s : State),
    let d0 := s.dev; Granted s who R.SYS_CTL ∧ d0.mode ≠ 3) ∧
    (∃ (t us : Nat) (who : Initiator) (code ok : BitVec 8) (s : State),
    let d0 := s.dev; (d0.sys.shut = 1) ∧ (d0.outputsIdle = true ∨ d0.sys.shutBy ≤ s.clock t)) ∧
    (∃ (t us : Nat) (who : Initiator) (code ok : BitVec 8) (s : State),
    let d0 := s.dev; (d0.sys.shut = 2) ∧ (d0.flushed = true)) ∧
    (∃ (t us : Nat) (who : Initiator) (code ok : BitVec 8) (s : State),
    let d0 := s.dev; let v := fun (k : Nat) (b : Bool) => ok.getLsbD (2 * k + b.toNat); ((d0.mode = 3) ∧ (d0.sys.booting = true) ∧ (d0.flag F.TB_STAT_CAL_LOCK = true) ∧ d0.lifecycle ≠ 4) ∧ ∃ d1 s0, (d0.bootKind 0 (v 0) = some (d1, s0)) ∧ ∃ d2 s1, (d1.bootKind 1 (v 1) = some (d2, s1)) ∧ ∃ d3 s2, (d2.bootKind 2 (v 2) = some (d3, s2)) ∧ ∃ d4 s3, d3.bootKind 3 (v 3) = some (d4, s3)) :=
  ⟨⟨1000100, 77, .sup, 5, 1, mk id, by decide +kernel, by decide +kernel, by decide +kernel⟩,
   ⟨1000100, 77, .sup, 5, 1, mk (fun d => d.set F.SYS_MODE_MODE 5), by decide +kernel⟩,
   ⟨1000100, 77, .sup, 5, 1, (mk (fun d => { d with sys := { d.sys with shut := 1 } })), by decide +kernel⟩,
   ⟨1000100, 77, .sup, 5, 1, (mk (fun d => { d with sys := { d.sys with shut := 2 } })), by decide +kernel⟩,
   ⟨1000100, 77, .sup, 5, 0xFF, bootS, by decide +kernel, boot_chain boot0 (fun k b => (0xFF : BitVec 8).getLsbD (2 * k + b.toNat)) all_ok (by decide +kernel) (by decide +kernel) (by decide +kernel) (by decide +kernel)⟩⟩

theorem witness_SecurityCommandsAreCheckedAndDone :
    (∃ (t : Nat) (who : Initiator) (fmt sig : Bool) (s : State),
    (let idle := s.dev.flag F.SEC_STAT_PEND = false ∧ s.dev.supDown = false; Granted s who R.SEC_CMD ∧ ∃ c cmd, (c, cmd) ∈ ([((.challenge t who fmt sig), 1), ((.quote t who fmt sig), 2), ((.enroll t who fmt sig), 3), ((.endorse t who fmt sig), 4), ((.lock t who fmt sig), 5), ((.unlock t who fmt sig), 6), ((.decommission t who fmt sig), 7)] : List (Instr × Nat)) ∧ idle) ∧
    (let idle := s.dev.flag F.SEC_STAT_PEND = false ∧ s.dev.supDown = false; Granted s who R.SEC_CMD ∧ idle ∧ (s.dev.secStatus 1 fmt sig = 0)) ∧
    (let idle := s.dev.flag F.SEC_STAT_PEND = false ∧ s.dev.supDown = false; Granted s who R.SEC_CMD ∧ idle ∧ (s.dev.secStatus 2 fmt sig = 0)) ∧
    (let idle := s.dev.flag F.SEC_STAT_PEND = false ∧ s.dev.supDown = false; Granted s who R.SEC_CMD ∧ idle ∧ (s.dev.secStatus 3 fmt sig = 0)) ∧
    (let idle := s.dev.flag F.SEC_STAT_PEND = false ∧ s.dev.supDown = false; Granted s who R.SEC_CMD ∧ idle ∧ (s.dev.secStatus 4 fmt sig = 0)) ∧
    (let idle := s.dev.flag F.SEC_STAT_PEND = false ∧ s.dev.supDown = false; Granted s who R.SEC_CMD ∧ idle ∧ (s.dev.secStatus 5 fmt sig = 0)) ∧
    (let idle := s.dev.flag F.SEC_STAT_PEND = false ∧ s.dev.supDown = false; Granted s who R.SEC_CMD ∧ idle ∧ (s.dev.secStatus 7 fmt sig = 0))) ∧
    (∃ (t : Nat) (who : Initiator) (fmt sig : Bool) (s : State),
    let buf := (s.dev.reg R.SEC_ARG).toNat; let inRam := buf % 32 = 0 ∧ 0x20000000 ≤ buf ∧ buf + 1024 ≤ 0x20100000; Granted s who R.SEC_CMD ∧ ∃ c cmd, (c, cmd) ∈ ([((.challenge t who fmt sig), 1), ((.quote t who fmt sig), 2), ((.enroll t who fmt sig), 3), ((.endorse t who fmt sig), 4), ((.lock t who fmt sig), 5), ((.unlock t who fmt sig), 6), ((.decommission t who fmt sig), 7)] : List (Instr × Nat)) ∧ inRam ∧ (fmt = false)) ∧
    (∃ (t : Nat) (who : Initiator) (fmt sig : Bool) (s : State),
    let buf := (s.dev.reg R.SEC_ARG).toNat; let inRam := buf % 32 = 0 ∧ 0x20000000 ≤ buf ∧ buf + 1024 ≤ 0x20100000; Granted s who R.SEC_CMD ∧ ∃ c cmd, (c, cmd) ∈ ([((.challenge t who fmt sig), 1), ((.quote t who fmt sig), 2), ((.enroll t who fmt sig), 3), ((.endorse t who fmt sig), 4), ((.lock t who fmt sig), 5), ((.unlock t who fmt sig), 6), ((.decommission t who fmt sig), 7)] : List (Instr × Nat)) ∧ inRam ∧ (fmt = true) ∧ (s.dev.sec.rngBad = false) ∧ (s.dev.flag F.UPD_ASTAT_PEND = true)) ∧
    (∃ (t : Nat) (who : Initiator) (fmt sig : Bool) (s : State),
    let buf := (s.dev.reg R.SEC_ARG).toNat; let inRam := buf % 32 = 0 ∧ 0x20000000 ≤ buf ∧ buf + 1024 ≤ 0x20100000; Granted s who R.SEC_CMD ∧ ∃ c cmd, (c, cmd) ∈ ([((.challenge t who fmt sig), 1), ((.quote t who fmt sig), 2), ((.enroll t who fmt sig), 3), ((.endorse t who fmt sig), 4), ((.lock t who fmt sig), 5), ((.unlock t who fmt sig), 6), ((.decommission t who fmt sig), 7)] : List (Instr × Nat)) ∧ ¬ inRam) ∧
    (∃ (t : Nat) (who : Initiator) (fmt sig : Bool) (s : State),
    Granted s who R.SEC_CMD ∧ ∃ c cmd, (c, cmd) ∈ ([((.challenge t who fmt sig), 1), ((.quote t who fmt sig), 2), ((.enroll t who fmt sig), 3), ((.endorse t who fmt sig), 4), ((.lock t who fmt sig), 5), ((.unlock t who fmt sig), 6), ((.decommission t who fmt sig), 7)] : List (Instr × Nat)) ∧ (s.dev.flag F.SEC_STAT_PEND = true ∨ s.dev.supDown = true)) ∧
    (∃ (t : Nat) (who : Initiator) (fmt sig : Bool) (s : State),
    let buf := (s.dev.reg R.SEC_ARG).toNat; let inRam := buf % 32 = 0 ∧ 0x20000000 ≤ buf ∧ buf + 1024 ≤ 0x20100000; Granted s who R.SEC_CMD ∧ ∃ c cmd, (c, cmd) ∈ ([((.challenge t who fmt sig), 1), ((.quote t who fmt sig), 2), ((.enroll t who fmt sig), 3), ((.endorse t who fmt sig), 4), ((.lock t who fmt sig), 5), ((.unlock t who fmt sig), 6), ((.decommission t who fmt sig), 7)] : List (Instr × Nat)) ∧ inRam ∧ (fmt = true) ∧ (s.dev.sec.rngBad = false) ∧ (s.dev.flag F.UPD_ASTAT_PEND = false) ∧ (s.dev.lifecycle = 4)) ∧
    (∃ (t : Nat) (who : Initiator) (fmt sig : Bool) (s : State),
    let idle := s.dev.flag F.SEC_STAT_PEND = false ∧ s.dev.supDown = false; Granted s who R.SEC_CMD ∧ idle ∧ (s.dev.secStatus 6 fmt sig = 0)) :=
  ⟨⟨1000100, .sup, true, true, (mk (fun d => (fun d => (fun d => { d with sec := { d.sec with chal := true } }) (((d.set F.SYS_MODE_MODE 4).set F.SEC_LC_STATE 2).setBytes 0x20000100 ((List.range 64).map (fun i => BitVec.ofNat 8 (i*7))))) (d.setReg R.SEC_ARG 0x20000100))), ⟨by decide +kernel, (.challenge 1000100 .sup true true), 1, by decide +kernel⟩, by decide +kernel, by decide +kernel, by decide +kernel, by decide +kernel, by decide +kernel, by decide +kernel⟩,
   ⟨1000100, .sup, false, true, mk (fun d => d.setReg R.SEC_ARG 0x20000100), by decide +kernel, (.challenge 1000100 .sup false true), 1, by decide +kernel⟩,
   ⟨1000100, .sup, true, true, mk (fun d => (·.put F.UPD_ASTAT_PEND true) (d.setReg R.SEC_ARG 0x20000100)), by decide +kernel, (.challenge 1000100 .sup true true), 1, by decide +kernel⟩,
   ⟨1000100, .sup, true, true, mk (fun d => (·.setReg R.SEC_ARG 0x20000101) (d.setReg R.SEC_ARG 0x20000100)), by decide +kernel, (.challenge 1000100 .sup true true), 1, by decide +kernel⟩,
   ⟨1000100, .sup, true, true, mk (fun d => (fun d => dn (d.put F.SEC_STAT_PEND true)) (d.setReg R.SEC_ARG 0x20000100)), by decide +kernel, (.challenge 1000100 .sup true true), 1, by decide +kernel⟩,
   ⟨1000100, .sup, true, true, mk (fun d => (fun d => ((d.set F.SYS_MODE_MODE 4).set F.SEC_LC_STATE 4).setBytes 0x20000100 ((List.range 64).map (fun i => BitVec.ofNat 8 (i*7)))) (d.setReg R.SEC_ARG 0x20000100)), by decide +kernel, (.challenge 1000100 .sup true true), 1, by decide +kernel⟩,
   ⟨1000100, .sup, true, true, (mk (fun d => (fun d => (fun d => { d with sec := { d.sec with chal := true } }) (((d.set F.SYS_MODE_MODE 4).set F.SEC_LC_STATE 3).setBytes 0x20000100 ((List.range 64).map (fun i => BitVec.ofNat 8 (i*7))))) (d.setReg R.SEC_ARG 0x20000100))), by decide +kernel⟩⟩

theorem witness_ImagesAreStaged :
    (∃ (t : Nat) (who : Initiator) (k rep : Fin 4) (sig fail : Bool) (s : State),
    (let d0 := s.dev; let up := d0.supDown = false; let free := up ∧ d0.lifecycle < 3 ∧ d0.flag F.UPD_ASTAT_PEND = false ∧ (d0.get F.UPD_SLOT_TRIAL).testBit k = false; Granted s who R.UPD_STAGE ∧ ∃ c first, (c, first) ∈ ([((.stageBegin t who k), true), ((.stageWrite t who k rep fail), false), ((.stageFinish t who k sig fail), false), ((.stageAbort t who k), false)] : List (Instr × Bool)) ∧ free ∧ (d0.stageOpen k = first)) ∧
    (let d0 := s.dev; let ofs := (d0.reg R.UPD_OFS).toNat; let src := (d0.reg R.UPD_SRC).toNat; let len := d0.get F.UPD_LEN_LEN; let inside := ofs + len ≤ slotSize k ∧ 0x20000000 ≤ src ∧ src + len ≤ 0x20100000 ∧ 4 ≤ len ∧ len ≤ 65536 ∧ len % 4 = 0 ∧ ofs % 4 = 0 ∧ src % 4 = 0; let up := d0.supDown = false; let free := up ∧ d0.lifecycle < 3 ∧ d0.flag F.UPD_ASTAT_PEND = false ∧ (d0.get F.UPD_SLOT_TRIAL).testBit k = false; Granted s who R.UPD_STAGE ∧ free ∧ (d0.stageOpen k = true) ∧ inside) ∧
    (let d0 := s.dev; let up := d0.supDown = false; let free := up ∧ d0.lifecycle < 3 ∧ d0.flag F.UPD_ASTAT_PEND = false ∧ (d0.get F.UPD_SLOT_TRIAL).testBit k = false; (Granted s who R.UPD_STAGE ∧ free ∧ (d0.stageOpen k = true)) ∧ ∃ st, (d0.imageCheck k (!d0.activeB k) sig = st) ∧ st ≠ 0)) ∧
    (∃ (t : Nat) (who : Initiator) (k rep : Fin 4) (sig fail : Bool) (s : State),
    let d0 := s.dev; let up := d0.supDown = false; let free := up ∧ d0.lifecycle < 3 ∧ d0.flag F.UPD_ASTAT_PEND = false ∧ (d0.get F.UPD_SLOT_TRIAL).testBit k = false; Granted s who R.UPD_STAGE ∧ free ∧ (d0.stageOpen k = false)) ∧
    (∃ (t : Nat) (who : Initiator) (k rep : Fin 4) (sig fail : Bool) (s : State),
    let d0 := s.dev; let up := d0.supDown = false; Granted s who R.UPD_STAGE ∧ ∃ c first, (c, first) ∈ ([((.stageBegin t who k), true), ((.stageWrite t who k rep fail), false), ((.stageFinish t who k sig fail), false), ((.stageAbort t who k), false)] : List (Instr × Bool)) ∧ ¬ up) ∧
    (∃ (t : Nat) (who : Initiator) (k rep : Fin 4) (sig fail : Bool) (s : State),
    let d0 := s.dev; let up := d0.supDown = false; Granted s who R.UPD_STAGE ∧ ∃ c first, (c, first) ∈ ([((.stageBegin t who k), true), ((.stageWrite t who k rep fail), false), ((.stageFinish t who k sig fail), false), ((.stageAbort t who k), false)] : List (Instr × Bool)) ∧ up ∧ 3 ≤ d0.lifecycle) ∧
    (∃ (t : Nat) (who : Initiator) (k rep : Fin 4) (sig fail : Bool) (s : State),
    let d0 := s.dev; let up := d0.supDown = false; let free := up ∧ d0.lifecycle < 3 ∧ d0.flag F.UPD_ASTAT_PEND = false ∧ (d0.get F.UPD_SLOT_TRIAL).testBit k = false; Granted s who R.UPD_STAGE ∧ ∃ c first, (c, first) ∈ ([((.stageBegin t who k), true), ((.stageWrite t who k rep fail), false), ((.stageFinish t who k sig fail), false), ((.stageAbort t who k), false)] : List (Instr × Bool)) ∧ up ∧ d0.lifecycle < 3 ∧ ¬ free) ∧
    (∃ (t : Nat) (who : Initiator) (k rep : Fin 4) (sig fail : Bool) (s : State),
    let d0 := s.dev; let ofs := (d0.reg R.UPD_OFS).toNat; let src := (d0.reg R.UPD_SRC).toNat; let len := d0.get F.UPD_LEN_LEN; let inside := ofs + len ≤ slotSize k ∧ 0x20000000 ≤ src ∧ src + len ≤ 0x20100000 ∧ 4 ≤ len ∧ len ≤ 65536 ∧ len % 4 = 0 ∧ ofs % 4 = 0 ∧ src % 4 = 0; let up := d0.supDown = false; let free := up ∧ d0.lifecycle < 3 ∧ d0.flag F.UPD_ASTAT_PEND = false ∧ (d0.get F.UPD_SLOT_TRIAL).testBit k = false; Granted s who R.UPD_STAGE ∧ free ∧ (d0.stageOpen k = true) ∧ ¬ inside) ∧
    (∃ (t : Nat) (who : Initiator) (k rep : Fin 4) (sig fail : Bool) (s : State),
    let d0 := s.dev; let up := d0.supDown = false; let free := up ∧ d0.lifecycle < 3 ∧ d0.flag F.UPD_ASTAT_PEND = false ∧ (d0.get F.UPD_SLOT_TRIAL).testBit k = false; Granted s who R.UPD_STAGE ∧ free ∧ (d0.stageOpen k = true) ∧ (d0.imageCheck k (!d0.activeB k) sig = 0) ∧ (fail = true)) ∧
    (∃ (t : Nat) (who : Initiator) (k rep : Fin 4) (sig fail : Bool) (s : State),
    let d0 := s.dev; let up := d0.supDown = false; let free := up ∧ d0.lifecycle < 3 ∧ d0.flag F.UPD_ASTAT_PEND = false ∧ (d0.get F.UPD_SLOT_TRIAL).testBit k = false; Granted s who R.UPD_STAGE ∧ free ∧ (d0.stageOpen k = true) ∧ (d0.imageCheck k (!d0.activeB k) sig = 0) ∧ (fail = false)) :=
  ⟨⟨1000100, .sup, (3 : Fin 4), 1, true, true, mk (fun d => (·.set F.UPD_SSTAT_OPEN 0xF) (((d.setReg R.UPD_SRC 0x20000100).setReg R.UPD_OFS 16).set F.UPD_LEN_LEN 64)), ⟨by decide +kernel, (.stageBegin 1000100 .sup (3 : Fin 4)), true, by decide +kernel⟩, by decide +kernel, by decide +kernel, 5, by decide +kernel⟩,
   ⟨1000100, .sup, (0 : Fin 4), 1, true, true, mk (fun d => ((d.setReg R.UPD_SRC 0x20000100).setReg R.UPD_OFS 16).set F.UPD_LEN_LEN 64), by decide +kernel⟩,
   ⟨1000100, .sup, (0 : Fin 4), 1, true, false, mk (fun d => (fun d => dn (id d)) (((d.setReg R.UPD_SRC 0x20000100).setReg R.UPD_OFS 16).set F.UPD_LEN_LEN 64)), by decide +kernel, (.stageBegin 1000100 .sup (0 : Fin 4)), true, by decide +kernel⟩,
   ⟨1000100, .sup, (0 : Fin 4), 1, true, true, mk (fun d => (·.set F.SEC_LC_STATE 3) (((d.setReg R.UPD_SRC 0x20000100).setReg R.UPD_OFS 16).set F.UPD_LEN_LEN 64)), by decide +kernel, (.stageBegin 1000100 .sup (0 : Fin 4)), true, by decide +kernel⟩,
   ⟨1000100, .sup, (0 : Fin 4), 1, true, true, mk (fun d => (·.set F.UPD_SLOT_TRIAL 0xF) (((d.setReg R.UPD_SRC 0x20000100).setReg R.UPD_OFS 16).set F.UPD_LEN_LEN 64)), by decide +kernel, (.stageBegin 1000100 .sup (0 : Fin 4)), true, by decide +kernel⟩,
   ⟨1000100, .sup, (0 : Fin 4), 1, true, true, mk (fun d => (fun d => (d.set F.UPD_SSTAT_OPEN 0xF).setReg R.UPD_OFS 17) (((d.setReg R.UPD_SRC 0x20000100).setReg R.UPD_OFS 16).set F.UPD_LEN_LEN 64)), by decide +kernel⟩,
   ⟨1000100, .sup, (3 : Fin 4), 1, true, true, mk (fun d => (fun d => img (d.set F.UPD_SSTAT_OPEN 0xF) 3 true 3 16 0 0 cfgW) (((d.setReg R.UPD_SRC 0x20000100).setReg R.UPD_OFS 16).set F.UPD_LEN_LEN 64)), by decide +kernel⟩,
   ⟨1000100, .sup, (3 : Fin 4), 1, true, false, mk (fun d => (fun d => img (d.set F.UPD_SSTAT_OPEN 0xF) 3 true 3 16 0 0 cfgW) (((d.setReg R.UPD_SRC 0x20000100).setReg R.UPD_OFS 16).set F.UPD_LEN_LEN 64)), by decide +kernel⟩⟩

theorem witness_ActivationsAreDecidedAndDone :
    (∃ (t : Nat) (who : Initiator) (mask sig : BitVec 4) (sup : Bool) (s : State),
    (Granted s who R.UPD_ACT ∧ (mask = 0)) ∧
    (let up := s.dev.supDown = false; Granted s who R.UPD_ACT ∧ ¬ up) ∧
    (let up := s.dev.supDown = false; Granted s who R.UPD_CTL ∧ ¬ up) ∧
    (Granted s who R.UPD_CTL ∧ (mask = 0)) ∧
    (s.dev.flag F.UPD_ASTAT_PEND = false)) ∧
    (∃ (t : Nat) (who : Initiator) (mask sig : BitVec 4) (sup : Bool) (s : State),
    (let now := s.clock t; let up := s.dev.supDown = false; Granted s who R.UPD_ACT ∧ ∃ r, (mask ≠ 0 ∧ up) ∧ (s.dev.actCheck now mask.toNat false = r) ∧ r ≠ 0) ∧
    (let up := s.dev.supDown = false; Granted s who R.UPD_CTL ∧ up) ∧
    (let now := s.clock t; let up := s.dev.supDown = false; Granted s who R.UPD_CTL ∧ ∃ r, (mask ≠ 0 ∧ up) ∧ (s.dev.actCheck now mask.toNat true = r) ∧ r ≠ 0)) ∧
    (∃ (t : Nat) (who : Initiator) (mask sig : BitVec 4) (sup : Bool) (s : State),
    (let now := s.clock t; let up := s.dev.supDown = false; Granted s who R.UPD_ACT ∧ ∃ r, (mask ≠ 0 ∧ up) ∧ (s.dev.actCheck now mask.toNat false = r) ∧ (r = 0)) ∧
    (let now := s.clock t; let up := s.dev.supDown = false; Granted s who R.UPD_CTL ∧ ∃ r, (mask ≠ 0 ∧ up) ∧ (s.dev.actCheck now mask.toNat true = r) ∧ (r = 0))) ∧
    (∃ (t : Nat) (who : Initiator) (mask sig : BitVec 4) (sup : Bool) (s : State),
    let now := s.clock t; let m := s.dev.get F.UPD_ASTAT_MASK; let apps := [1, 2].filter (fun k => m.testBit k); let kinds := [1, 2, 3].filter (fun k => m.testBit k); let d1 := apps.foldl (fun (d : Dev) k => d.enableWrite now (P.CORE k) false) s.dev; let bad := kinds.find? (fun k => d1.imageCheck k (!d1.activeB k) (sig.getLsbD k) != 0); (s.dev.flag F.UPD_ASTAT_PEND = true) ∧ (bad = none)) ∧
    (∃ (t : Nat) (who : Initiator) (mask sig : BitVec 4) (sup : Bool) (s : State),
    let now := s.clock t; let m := s.dev.get F.UPD_ASTAT_MASK; let apps := [1, 2].filter (fun k => m.testBit k); let kinds := [1, 2, 3].filter (fun k => m.testBit k); let d1 := apps.foldl (fun (d : Dev) k => d.enableWrite now (P.CORE k) false) s.dev; let bad := kinds.find? (fun k => d1.imageCheck k (!d1.activeB k) (sig.getLsbD k) != 0); (s.dev.flag F.UPD_ASTAT_PEND = true) ∧ ∃ k, bad = some k) :=
  ⟨⟨1000100, .sup, (0 : BitVec 4), 15, false, (mk (fun d => dn ((full : Dev → Dev) (d.set F.SYS_MODE_MODE 4)))), by decide +kernel, by decide +kernel, by decide +kernel, by decide +kernel, by decide +kernel⟩,
   ⟨1000100, .sup, (1 : BitVec 4), (0 : BitVec 4), true, (mk (fun d => (full : Dev → Dev) (d.set F.SYS_MODE_MODE 3))), ⟨by decide +kernel, 3, by decide +kernel⟩, by decide +kernel, by decide +kernel, 3, by decide +kernel⟩,
   ⟨999999999999, .sup, 6, 15, false, mk (fun d => (full ((d.set F.SYS_MODE_MODE 4).set (F.BST_VB_VB 0) 4000)).set F.UPD_SLOT_STAGED 0xF), ⟨by decide +kernel, 0, by decide +kernel⟩, by decide +kernel, 0, by decide +kernel⟩,
   ⟨1000100, .sup, (0 : BitVec 4), (0 : BitVec 4), true, (mk (fun d => (fun d => ((full d).set F.UPD_ASTAT_MASK (0 : BitVec 4).toNat).put F.UPD_ASTAT_PEND true) (d.set F.SYS_MODE_MODE 3))), by decide +kernel⟩,
   ⟨1000100, .sup, (2 : BitVec 4), (0 : BitVec 4), true, (mk (fun d => (fun d => ((full d).set F.UPD_ASTAT_MASK (2 : BitVec 4).toNat).put F.UPD_ASTAT_PEND true) (d.set F.SYS_MODE_MODE 4))), by decide +kernel, 1, by decide +kernel⟩⟩

theorem witness_MramWritesWaitAndComplete :
    (∃ (t : Nat) (who : Initiator) (w : Word) (rep : Fin 4) (s : State),
    (Granted s who R.MRAMC_WDHI) ∧
    (Granted s who R.MRAMC_LAPP) ∧
    (s.dev.mramc.wr = none) ∧
    (s.dev.mramc.app = none)) ∧
    (∃ (t : Nat) (who : Initiator) (w : Word) (rep : Fin 4) (s : State),
    (∃ b lo hi, (s.dev.mramc.wr = some (b, lo, hi)) ∧ 0x600000 ≤ b) ∧
    (∃ ws, (s.dev.mramc.app = some ws) ∧ (ws.length = 8))) :=
  ⟨⟨1000100, .sup, 0x20000020, 2, mk id, by decide +kernel, by decide +kernel, by decide +kernel, by decide +kernel⟩,
   ⟨1000100, .sup, 0x20000020, 2, (mk (fun d => { d.setReg R.MRAMC_LHEAD 0xFFFFFFFF with mramc := { wr := some (0x600008, 1, 2), app := some [1,2,3,4,5,6,7,8] } })), ⟨6291464, 0x00000001#32, 0x00000002#32, by decide +kernel⟩, [0x00000001#32, 0x00000002#32, 0x00000003#32, 0x00000004#32, 0x00000005#32, 0x00000006#32, 0x00000007#32, 0x00000008#32], by decide +kernel⟩⟩

theorem witness_TheCalendarIsSetAndCounts :
    (∃ (t a : Nat) (who : Initiator) (w : Word) (s : State),
    (let d0 := s.dev; (smGet d0.oasis.buf a = none) ∧ (smGet d0.shadow a = none)) ∧
    (Granted s who R.RTC_SET) ∧
    (let d0 := s.dev; d0.flag F.RTC_STAT_XTAL_FAIL = false)) ∧
    (∃ (t a : Nat) (who : Initiator) (w : Word) (s : State),
    (let d0 := s.dev; ∃ v, (smGet d0.oasis.buf a = some v) ∧ a ≠ R.RTC_SET) ∧
    (let d0 := s.dev; d0.flag F.RTC_STAT_XTAL_FAIL = true)) ∧
    (∃ (t a : Nat) (who : Initiator) (w : Word) (s : State),
    let d0 := s.dev; ∃ v, smGet d0.oasis.buf R.RTC_SET = some v) :=
  ⟨⟨1000100, R.RTC_TRIM, .sup, 5, mk id, by decide +kernel, by decide +kernel, by decide +kernel⟩,
   ⟨1000100, R.RTC_STAT, .sup, 5, (mk (fun d => { (d.put F.RTC_STAT_XTAL_FAIL true).put F.RTC_STAT_ALARM true with oasis := { buf := [(R.RTC_STAT, 7)] } })), ⟨0x00000007#32, by decide +kernel⟩, by decide +kernel⟩,
   ⟨1000100, R.RTC_SET, .sup, 5, (mk (fun d => { ((d.put F.RTC_STAT_XTAL_FAIL true).put F.RTC_CTL_AEN true).setReg R.RTC_ALARM 1 with sys := { d.sys with good := true }, oasis := { buf := [(R.RTC_SET, 99)] } })), 0x00000063#32, by decide +kernel⟩⟩

theorem witness_TheSentinelWatchesAndTheSupplyIsKept :
    (∃ (t mv : Nat) (who : Initiator) (n : Fin 8) (lvl : BitVec 8) (neg : Bool) (vals : List Nat) (bits : Word) (vddio : Bool) (s : State),
    (let d0 := s.dev; let on := d0.enabled P.SENT = true ∧ d0.oasis.halted = false; ¬ on) ∧
    (let d0 := s.dev; d0.effB F.SENT_SSC_EN = false ∨ d0.oasis.halted = true) ∧
    (Granted s who (R.WHL_SSC n)) ∧
    (Granted s who R.SENT_EVT ∧ bits &&& 0x1FF ≠ 0)) ∧
    (∃ (t mv : Nat) (who : Initiator) (n : Fin 8) (lvl : BitVec 8) (neg : Bool) (vals : List Nat) (bits : Word) (vddio : Bool) (s : State),
    (let d0 := s.dev; let on := d0.enabled P.SENT = true ∧ d0.oasis.halted = false; let tcnt := d0.get F.SENT_TCNT_TCNT; on ∧ (∀ k : Fin 8, d0.effB (F.SENT_IN_CFG_EN k) = false) ∧ (d0.effB F.SENT_SSC_EN = true) ∧ (d0.effB F.SENT_CFG_ROT_GATE = false) ∧ d0.eff F.SENT_SSC_ROT_CNT ≤ tcnt) ∧
    (let d0 := s.dev; (d0.effB F.SENT_SSC_EN = true) ∧ (d0.oasis.halted = false))) :=
  ⟨⟨1000100, 0, .sup, (0 : Fin 8), (0 : BitVec 8), true, [3, 255, 256], (4 : Word), true, mk id, by decide +kernel, by decide +kernel, by decide +kernel, by decide +kernel⟩,
   ⟨1000100, 3000, .sup, 0, (0 : BitVec 8), true, [3, 255, 256], 4, true, mk (fun d => ((((((List.range 8).foldl (fun d k => d.put (F.SENT_IN_CFG_EN k) false) (d.on P.SENT)).put F.SENT_SSC_EN true).put F.SENT_CFG_ROT_GATE false).set F.SENT_TCNT_TCNT 65535).put F.SENT_SSC_REC true).put F.SENT_SSC_WAKE true), by decide +kernel, by decide +kernel⟩⟩

theorem witness_JtagInstructionsSelectTheirRegister :
    (∃ (t : Nat) (v cap : BitVec 218) (a : Fin 128) (w : Word) (op : Fin 4) (s : State),
    (let d0 := s.dev; op = 0 ∨ op = 3 ∨ 3 ≤ d0.lifecycle) ∧
    (let d0 := s.dev; d0.lifecycle < 3 ∧ (d0.dm.active = true)) ∧
    (let d0 := s.dev; d0.lifecycle < 3 ∧ (w.getLsbD 0 = false))) ∧
    (∃ (t : Nat) (v cap : BitVec 218) (a : Fin 128) (w : Word) (op : Fin 4) (s : State),
    let d0 := s.dev; d0.lifecycle < 3 ∧ (w.getLsbD 0 = true) ∧ (w.getLsbD 30 = false) ∧ (w.getLsbD 31 = false)) :=
  ⟨⟨1000100, 0x1234567890, 0x77, (4: Fin 128), (0 : Word), (0 : Fin 4), (mk (fun d => { (d.set F.SEC_LC_STATE 0).set F.SYS_MODE_MODE 3 with dm := { active := true, data0 := 0x55, sbdata := 0x66, sbreadondata := (0 : Word).getLsbD 0, hartsel := 2 } })), by decide +kernel, by decide +kernel, by decide +kernel⟩,
   ⟨1000100, 0x1234567890, 0x77, (0x10 : Fin 128), (1 : Word), (2 : Fin 4), (mk (fun d => { (d.set F.SEC_LC_STATE 0).set F.SYS_MODE_MODE 3 with dm := { active := false, data0 := 0x55, sbdata := 0x66, sbreadondata := (1 : Word).getLsbD 0, hartsel := 2 } })), by decide +kernel⟩⟩

theorem witness_OnlyPowerOnMovesTheCountBack : ∃ (c : Instr) (s s' : State),
    (∀ t mv, c ≠ .vddcCollapse t mv) ∧ (∀ t ns, c ≠ .pornLow t ns) ∧ (∀ t span, c ≠ .calibratorFirstLock t span) ∧ (exec c s = .next s') :=
  ⟨.helloTimer 7, State.reset, _, nofun, nofun, nofun, (exec_helloTimer 7 State.reset).trans rfl⟩

theorem witness_SettlingChangesNothingElse : ∃ (s : State) (t : Nat) (d : Dev),
    (d.committing 0 = s.dev.committing 0) ∧ (d.committing 1 = s.dev.committing 1) ∧ (d.intc.send = []) :=
  ⟨State.reset, 7, Dev.reset, by decide +kernel⟩

theorem witness_EveryStepKeepsTheCountAndTheQueue : ∃ (s s' : State),
    s.inv ∧ (step s = .next s') :=
  ⟨{ State.reset with pending := [.helloTimer 7, .whlClr 8 .sup 0] }, _, ⟨by decide +kernel, by decide +kernel⟩, (exec_helloTimer 7 { State.reset with pending := [.whlClr 8 .sup 0] }).trans rfl⟩

end Tests

end Sys2Proof
end

/-!
PROOFS. The interrupt controller's sources and registers (R376, R380, R381, R387, R391): what a refresh of the controller leaves as it
was, what a granted write of each of its registers comes to, and what that write does.
-/

namespace Sys2Proof.Machine

/-! ## What a refresh of the controller leaves (R382, R389) -/

@[simp] theorem incSat_intc (d : Dev) (f : Fld) : (d.incSat f).intc = d.intc := by
  unfold Dev.incSat
  split
  · exact set_intc d f _
  · rfl

@[simp] theorem present_intc (d : Dev) (h : Nat) : (d.present h).intc = d.intc := by
  unfold Dev.present; simp [apply_ite Dev.intc]

theorem intcRefresh_latched (d : Dev) : d.intcRefresh.intc.latched = d.intc.latched := by
  simp [Dev.intcRefresh, Dev.fabSend]

/-- Only sources with target FAB become active by themselves. -/
theorem target_of_mem_act_fabSend {d : Dev} {n : Nat} (h : n ∈ d.fabSend.intc.act) (hn : n ∉ d.intc.act) : d.target n = 7 := by
  simp only [Dev.fabSend, List.mem_append, List.mem_filter, Bool.and_eq_true, beq_iff_eq] at h
  obtain h | ⟨-, h7, -⟩ := h
  · exact absurd h hn
  · exact h7

theorem srcCfg_ne_cnt (n : Nat) : R.INTC_SRC_CFG n ≠ R.INTC_CNT := by unfold R.INTC_SRC_CFG R.INTC_CNT; omega

theorem present_target (d : Dev) (h n : Nat) : (d.present h).target n = d.target n := by
  exact congrArg (wordGet · 6 4) (present_reg d h _ (srcCfg_ne_cnt n))

theorem not_mem_act_intcRefresh {d : Dev} {n : Nat} (h7 : d.target n ≠ 7) (hn : n ∉ d.intc.act) : n ∉ d.intcRefresh.intc.act := by
  intro h
  apply h7
  simpa only [present_target] using target_of_mem_act_fabSend h (by simpa only [present_intc] using hn)

/-! ## Which register a write reaches -/

/-- The register that a write of a source's vector (`vec`) or configuration word names. -/
def srcAddr (n : Nat) (vec : Bool) : Nat := if vec then R.INTC_SRC_VEC n else R.INTC_SRC_CFG n

theorem srcAddr_eq (n : Nat) (vec : Bool) :
    srcAddr n vec = 0x400B1000 + 0x1000 * (n / 128) + (0x400 + 8 * (n % 128) + 4 * vec.toNat) := by
  cases vec <;> simp [srcAddr, R.INTC_SRC_VEC, R.INTC_SRC_CFG] <;> omega

theorem pageInfo_srcPage : ∀ j : Fin 4, pageInfo (0xB1 + j.val) = some (.intc, j.val + 1) := by decide

theorem pageOf_srcAddr (n : Fin 512) (vec : Bool) : pageOf (srcAddr n vec) = 0xB1 + n.val / 128 := by
  have := vec.toNat_le
  rw [srcAddr_eq, pageOf]; omega

theorem srcAddr_offset (n : Nat) (vec : Bool) : srcAddr n vec % 0x1000 = 0x400 + 8 * (n % 128) + 4 * vec.toNat := by
  have := vec.toNat_le
  rw [srcAddr_eq]; omega

/-- The rows of a source page: word i of the configuration words and of the vectors (R392). -/
theorem rowAt_srcWord (j i : Nat) (vec : Bool) (hi : i < 128) :
    ∃ row, rowAt .intc (j + 1) (0x400 + 8 * i + 4 * vec.toNat) = some (row, i) ∧ rwlMask row.fields = 0 := by
  cases vec
  case false =>
    have hidx : (0x400 + 8 * i + 4 * 0 - 0x400) / 8 = i := by omega
    refine ⟨⟨0x400, 128, 8, 0x0, [⟨31, 31, .rw, .any⟩, ⟨7, 7, .ro, .any⟩, ⟨6, 4, .rw, .any⟩, ⟨3, 0, .rw, .clamp 1 15⟩]⟩, ?_, rfl⟩
    simp only [rowAt, Blk.rows, rowsINTCS, findRow, Bool.toNat_false, Nat.succ_ne_zero, if_false]
    rw [if_neg (by omega), if_neg (by omega), if_neg (by omega), if_pos (by omega), hidx]
  case true =>
    have hidx : (0x400 + 8 * i + 4 - 0x404) / 8 = i := by omega
    refine ⟨⟨0x404, 128, 8, 0x0, [⟨31, 0, .rw, .any⟩]⟩, ?_, rfl⟩
    simp only [rowAt, Blk.rows, rowsINTCS, findRow, Bool.toNat_true, Nat.succ_ne_zero, if_false]
    rw [if_neg (by omega), if_neg (by omega), if_neg (by omega), if_neg (by omega), if_pos (by omega), hidx]

theorem regAt_srcAddr (n : Fin 512) (vec : Bool) : regAt (srcAddr n vec) .intc (n.val / 128 + 1) (n.val % 128) = true := by
  have hb := vec.toNat_le
  have hpg := pageOf_srcAddr n vec
  have hof := srcAddr_offset n vec
  have hinfo := pageInfo_srcPage ⟨n.val / 128, by omega⟩
  obtain ⟨row, hrow, hrwl⟩ := rowAt_srcWord (n.val / 128) (n.val % 128) vec (by omega)
  have haddr := srcAddr_eq n vec
  have hlo : 0x40000000 ≤ srcAddr n vec := by omega
  have hhi : srcAddr n vec < 0x40100000 := by omega
  have h4 : srcAddr n vec % 4 = 0 := by omega
  have h40 : 0x40 ≤ 0x400 + 8 * (n.val % 128) + 4 * vec.toNat := by omega
  simp [regAt, isPageAddr, hpg, hinfo, hof, hrow, hrwl, hlo, hhi, h4, h40]

theorem regAt_intcSwi : regAt R.INTC_SWI .intc 0 0 = true := by decide
theorem regAt_intcComplete : ∀ p : Fin 4, regAt (R.INTC_COMPLETE p) .intc 0 p = true := by decide
theorem regAt_intcPend : ∀ j w : Fin 4, regAt (R.INTC_PEND j w) .intc (j + 1) w = true := by decide

/-! ## What a granted write comes to -/

section
variable (d : Dev) (v : Word) (go : Dev → Word → Dev)

theorem writeIntc_swi (i : Nat) : d.writeIntc 0 R.INTC_SWI i v go = d.intcSwi v := rfl

theorem writeIntc_complete (p : Fin 4) : d.writeIntc 0 (R.INTC_COMPLETE p) p v go = d.intcComplete p (v &&& 0x1FF) := by
  have hswi : R.INTC_COMPLETE p ≠ R.INTC_SWI := by unfold R.INTC_COMPLETE R.INTC_SWI; omega
  have hoff : 0x60 ≤ R.INTC_COMPLETE p % 0x1000 ∧ R.INTC_COMPLETE p % 0x1000 < 0x80 := by unfold R.INTC_COMPLETE; omega
  simp only [Dev.writeIntc, if_true, if_neg hswi, if_pos hoff]

theorem writeIntc_pend (j w : Fin 4) : d.writeIntc (j + 1) (R.INTC_PEND j w) w v go = d.pendClear j w v := by
  have hoff : 0x40 ≤ R.INTC_PEND j w % 0x1000 ∧ R.INTC_PEND j w % 0x1000 < 0x50 := by unfold R.INTC_PEND; omega
  simp only [Dev.writeIntc, Nat.succ_ne_zero, if_false, if_pos hoff, Nat.add_sub_cancel]

theorem writeIntc_source (n i : Nat) (vec : Bool) :
    d.writeIntc (n / 128 + 1) (srcAddr n vec) i v go = d.srcCfgWrite n vec v := by
  have hoff := srcAddr_offset n vec
  have hb := vec.toNat_le
  have hpend : ¬ (0x40 ≤ srcAddr n vec % 0x1000 ∧ srcAddr n vec % 0x1000 < 0x50) := by omega
  have hsrc : 0x400 ≤ srcAddr n vec % 0x1000 := by omega
  have hn : 128 * (n / 128 + 1 - 1) + (srcAddr n vec % 0x1000 - 0x400) / 8 = n := by omega
  have hvec : (srcAddr n vec % 0x1000 % 8 != 0) = vec := by cases vec <;> simp at hoff ⊢ <;> omega
  simp only [Dev.writeIntc, Nat.succ_ne_zero, if_false, if_neg hpend, if_pos hsrc, hn, hvec]

end

theorem blockWrite_intc (d : Dev) (now : Nat) (who : Initiator) (p a : Nat) (row : RRow) (i : Nat) (v : Word) :
    d.blockWrite now who .intc p a row i v = d.writeIntc p a i v (fun d w => d.plainWrite now .intc p a row w) := rfl

/-- A granted write of a register of the controller, of the word its permission was asked for. -/
theorem after_wr_intc {s : State} {t : Nat} {who : Initiator} {a p i : Nat} {v : Word} {f : Dev → Dev}
    (ha : regAt a .intc p i = true) (h : Granted s who a v) (he : ∀ (d : Dev) go, d.writeIntc p a i v go = f d) :
    s.after t (s.dev.wr (s.clock t) who a v) = s.wrote t who f := by
  obtain ⟨row, -, e⟩ := wr_granted s.dev (s.clock t) who a v .intc p i ha h.1 h.2
  rw [e, blockWrite_intc, he, State.wrote]

/-- On the control page the word plays no part in the permission. -/
theorem granted_any {s : State} {who : Initiator} {a : Nat} (v : Word) (ha : pageOf a = 0xB0) (h : Granted s who a) :
    Granted s who a v :=
  ⟨h.1, (mayWrite_any s.dev who a v 0 (by omega)).trans h.2⟩

theorem exec_intcSwi_granted {t : Nat} {who : Initiator} {w : Word} {s : State} (h : Granted s who R.INTC_SWI) :
    exec (.intcSwi t who w) s = .next (s.wrote t who (·.intcSwi w)) :=
  wrote_of (exec_intcSwi t who w s)
    (after_wr_intc regAt_intcSwi (granted_any w rfl h) fun d go => writeIntc_swi d w go 0)

theorem exec_intcPendClear_granted {t : Nat} {who : Initiator} {j w : Fin 4} {v : Word} {s : State}
    (h : Granted s who (R.INTC_PEND j w) v) :
    exec (.intcPendClear t who j w v) s = .next (s.wrote t who (·.pendClear j w v)) :=
  wrote_of (exec_intcPendClear t who j w v s) (after_wr_intc (regAt_intcPend j w) h fun d go => writeIntc_pend d v go j w)

theorem exec_intcSourceCfgWrite_granted {t : Nat} {who : Initiator} {n : Fin 512} {vec : Bool} {v : Word} {s : State}
    (h : Granted s who (srcAddr n vec) v) :
    exec (.intcSourceCfgWrite t who n vec v) s = .next (s.wrote t who (·.srcCfgWrite n vec v)) :=
  wrote_of (exec_intcSourceCfgWrite t who n vec v s)
    (after_wr_intc (regAt_srcAddr n vec) h fun d go => writeIntc_source d v go n _ vec)

theorem exec_intcComplete_granted {t : Nat} {who : Initiator} {p : Fin 4} {n : Fin 512} {s : State}
    (h : Granted s who (R.INTC_COMPLETE p)) :
    exec (.intcComplete t who p n) s = .next (s.wrote t who (·.intcComplete p (w32 n &&& 0x1FF))) :=
  wrote_of (exec_intcComplete t who p n s)
    (after_wr_intc (regAt_intcComplete p) (granted_any _ (by unfold pageOf R.INTC_COMPLETE; omega) h)
      fun d go => writeIntc_complete d _ go p)

/-! ## Sources set and cleared (R376, R380, R391) -/

/-- R376: the watermark request of ring r. -/
theorem srcPending_ring (d : Dev) (r : Fin 32) :
    d.srcPending (0x100 + r) = true ↔ d.ringEn r = true ∧ d.get (F.RING_CFG_WM r) ≠ 0 ∧
      if ringDevice r then d.get (F.RING_CFG_WM r) ≤ d.ringFill r else d.get (F.RING_CFG_WM r) ≤ d.ringN r - d.ringFill r := by
  have hring : d.srcPending (0x100 + r) = d.ringWm r := by
    unfold Dev.srcPending
    rw [if_neg (by omega), if_pos (by omega), Nat.add_sub_cancel_left]
  rw [hring]
  unfold Dev.ringWm
  cases ringDevice r
  · simp only [Bool.false_eq_true, if_false, Bool.and_eq_true, bne_iff_ne, decide_eq_true_eq, and_assoc]
    refine and_congr_right fun _ => and_congr_right fun hwm => ?_
    omega
  · simp [and_assoc]

theorem mem_latched_intcSwi (d : Dev) (w : Word) (n : Nat) :
    n ∈ (d.intcSwi w).intc.latched ↔ n ∈ d.intc.latched ∨ ∃ k, k < 16 ∧ w.getLsbD k = true ∧ n = 0x1E0 + k := by
  have hset : n ∈ ((List.range 16).filter (fun k => w.getLsbD k)).map (0x1E0 + ·) ↔
      ∃ k, k < 16 ∧ w.getLsbD k = true ∧ n = 0x1E0 + k := by
    simp only [List.mem_map, List.mem_filter, List.mem_range, and_assoc, eq_comm]
  simp only [Dev.intcSwi, intcRefresh_latched, List.mem_append, List.mem_filter, hset, Bool.not_eq_true', List.contains_eq_mem,
    decide_eq_false_iff_not]
  constructor
  · rintro (h | ⟨h, -⟩)
    · exact .inl h
    · exact .inr h
  · rintro (h | h)
    · exact .inl h
    · exact (Decidable.em (n ∈ d.intc.latched)).imp id (⟨h, ·⟩)

theorem mem_latched_pendClear (d : Dev) (j w : Nat) (v : Word) (n : Nat) :
    n ∈ (d.pendClear j w v).intc.latched ↔ n ∈ d.intc.latched ∧
      ¬ (128 * j + 32 * w ≤ n ∧ n < 128 * j + 32 * w + 32 ∧ v.getLsbD (n - (128 * j + 32 * w)) = true) := by
  simp only [Dev.pendClear, intcRefresh_latched, List.mem_filter, Bool.not_eq_true', ← Bool.not_eq_true, Bool.and_eq_true,
    decide_eq_true_eq, and_assoc]

/-! ## Sources configured (R381) -/

/-- The report of a discarded write reaches no word of a source. -/
theorem cfgBusy_reg_srcAddr (d : Dev) (n : Nat) (vec : Bool) :
    (d.cfgBusy (P.INTC + 1 + n / 128)).reg (srcAddr n vec) = d.reg (srcAddr n vec) := by
  refine report_reg d _ _ ?_
  have haddr := srcAddr_eq n vec
  have hb := vec.toNat_le
  unfold reportReach R.PFLT R.FCOL_CNT_C R.PIRQ R.INTC_CNT P.INTC P.FCOL
  dsimp only
  omega

theorem bumpGen_reg_srcAddr (d : Dev) (n : Nat) (vec : Bool) :
    (d.bumpGen (P.INTC + 1 + n / 128)).reg (srcAddr n vec) = d.reg (srcAddr n vec) := by
  refine reg_setReg_ne d _ ?_
  have haddr := srcAddr_eq n vec
  unfold R.PGEN P.INTC
  omega

theorem srcCfgWrite_vec_reg (d : Dev) (n : Nat) (v : Word) :
    (d.srcCfgWrite n true v).reg (R.INTC_SRC_VEC n) =
      if d.flag (F.INTC_SRC_CFG_ENABLE n) then d.reg (R.INTC_SRC_VEC n) else vecWord (d.target n) v := by
  unfold Dev.srcCfgWrite
  simp only [if_true]
  split
  · exact cfgBusy_reg_srcAddr d n true
  · exact (bumpGen_reg_srcAddr _ n true).trans (reg_setReg_same _ _ _)

/-- The configuration word of a source with PRIO and ENABLE of a written word. -/
def srcWord (old v : Word) : Word := wordSet (wordSet old 3 0 (wordGet v 3 0)) 31 31 (v.getLsbD 31).toNat

/-- A written configuration word: PRIO and ENABLE are taken, TARGET only while ENABLE was 0. -/
theorem srcCfgWrite_cfg_reg (d : Dev) (n : Nat) (v : Word) :
    (d.srcCfgWrite n false v).reg (R.INTC_SRC_CFG n) =
      if wordGet v 6 4 = d.target n ∨ d.flag (F.INTC_SRC_CFG_ENABLE n) = true then srcWord (d.reg (R.INTC_SRC_CFG n)) v
      else wordSet (srcWord (d.reg (R.INTC_SRC_CFG n)) v) 6 4 (wordGet v 6 4) := by
  have hd1 : (((d.set (F.INTC_SRC_CFG_PRIO n) (wordGet v 3 0)).put (F.INTC_SRC_CFG_ENABLE n) (v.getLsbD 31)).bumpGen
      (P.INTC + 1 + n / 128)).reg (R.INTC_SRC_CFG n) = srcWord (d.reg (R.INTC_SRC_CFG n)) v := by
    refine (bumpGen_reg_srcAddr _ n false).trans ?_
    simp [srcAddr, Dev.put, Dev.set, F.INTC_SRC_CFG_PRIO, F.INTC_SRC_CFG_ENABLE, srcWord]
  have hne : R.INTC_SRC_CFG n ≠ R.INTC_SRC_VEC n := by unfold R.INTC_SRC_CFG R.INTC_SRC_VEC; omega
  unfold Dev.srcCfgWrite
  simp only [Bool.false_eq_true, if_false]
  rw [maskSettle_reg _ _ _ (srcCfg_ne_cnt n)]
  by_cases htgt : wordGet v 6 4 = d.target n
  · rw [if_pos htgt, if_pos (.inl htgt), hd1]
  rw [if_neg htgt]
  by_cases hen : d.flag (F.INTC_SRC_CFG_ENABLE n) = true
  · rw [if_pos hen, if_pos (.inr hen)]
    exact (cfgBusy_reg_srcAddr _ n false).trans hd1
  · rw [if_neg hen, if_neg (not_or.2 ⟨htgt, hen⟩), reg_setReg_ne _ _ hne]
    refine (reg_setReg_same _ _ _).trans ?_
    exact congrArg (wordSet · 6 4 (wordGet v 6 4)) hd1

theorem srcCfgWrite_prio (d : Dev) (n : Nat) (v : Word) : (d.srcCfgWrite n false v).prio n = wordGet v 3 0 := by
  have hlt := wordGet_lt v 3 0
  unfold Dev.prio Dev.get F.INTC_SRC_CFG_PRIO
  dsimp only
  rw [srcCfgWrite_cfg_reg]
  have hw : wordGet (srcWord (d.reg (R.INTC_SRC_CFG n)) v) 3 0 = wordGet v 3 0 := by
    rw [srcWord, wordGet_wordSet_ne _ _ _ _ _ _ (by omega) (by omega), wordGet_wordSet _ _ _ _ (by omega), Nat.mod_eq_of_lt hlt]
  split
  · exact hw
  · rw [wordGet_wordSet_ne _ _ _ _ _ _ (by omega) (by omega), hw]

theorem srcCfgWrite_enable (d : Dev) (n : Nat) (v : Word) :
    (d.srcCfgWrite n false v).flag (F.INTC_SRC_CFG_ENABLE n) = v.getLsbD 31 := by
  unfold F.INTC_SRC_CFG_ENABLE
  rw [flag_bit, srcCfgWrite_cfg_reg]
  have hw : (srcWord (d.reg (R.INTC_SRC_CFG n)) v).getLsbD 31 = v.getLsbD 31 := by
    rw [srcWord, wordSet_getLsbD _ _ _ _ _ (by omega), if_pos (by omega)]
    cases v.getLsbD 31 <;> rfl
  split
  · exact hw
  · rw [wordSet_getLsbD _ _ _ _ _ (by omega), if_neg (by omega), hw]

theorem srcCfgWrite_target (d : Dev) (n : Nat) (v : Word) :
    (d.srcCfgWrite n false v).target n = if d.flag (F.INTC_SRC_CFG_ENABLE n) then d.target n else wordGet v 6 4 := by
  have hw : wordGet (srcWord (d.reg (R.INTC_SRC_CFG n)) v) 6 4 = d.target n := by
    rw [srcWord, wordGet_wordSet_ne _ _ _ _ _ _ (by omega) (by omega), wordGet_wordSet_ne _ _ _ _ _ _ (by omega) (by omega)]
    rfl
  have hreg := srcCfgWrite_cfg_reg d n v
  have hget : (d.srcCfgWrite n false v).target n = wordGet ((d.srcCfgWrite n false v).reg (R.INTC_SRC_CFG n)) 6 4 := rfl
  rw [hget, hreg]
  by_cases hen : d.flag (F.INTC_SRC_CFG_ENABLE n) = true
  · rw [if_pos (.inr hen), if_pos hen, hw]
  rw [if_neg hen]
  by_cases htgt : wordGet v 6 4 = d.target n
  · rw [if_pos (.inl htgt), hw, htgt]
  · rw [if_neg (not_or.2 ⟨htgt, hen⟩), wordGet_wordSet _ _ _ _ (by omega), Nat.mod_eq_of_lt (wordGet_lt v 6 4)]

/-! ## Completion by a pin (R387) -/

/-- The number of a source passes the field of `INTC_COMPLETE` whole. -/
theorem completeWord_source (n : Fin 512) : wordGet (w32 n &&& 0x1FF) 8 0 = n := by
  simp only [wordGet, w32, BitVec.ushiftRight_zero, BitVec.toNat_and, BitVec.toNat_ofNat]
  rw [show (0x1FF : Word).toNat = 2 ^ 9 - 1 from rfl, Nat.and_two_pow_sub_one_eq_mod]
  omega

theorem intcComplete_cases (d : Dev) (p : Fin 4) (n : Fin 512) :
    if d.target n = 3 + p ∧ n.val ∈ d.intc.act then n.val ∉ (d.intcComplete p (w32 n &&& 0x1FF)).intc.act
    else d.intcComplete p (w32 n &&& 0x1FF) = d := by
  unfold Dev.intcComplete
  simp only [completeWord_source, List.contains_iff_mem]
  split
  · next h =>
    refine not_mem_act_intcRefresh (d := { d with intc := d.intc.clrAct n }) ?_ (by simp [Intc.clrAct])
    have h7 : d.target n ≠ 7 := by omega
    exact h7
  · rfl

/-- Settles O34: each register command comes to its block write, whose effect the lemmas above give; the watermark source is the
request of its ring. -/
theorem interruptSourcesAreSetClearedAndConfigured : Obligations.InterruptSourcesAreSetClearedAndConfigured := by
  intro t who s
  refine ⟨srcPending_ring s.dev, fun w h => ?swi, fun j w v h => ?pend, fun n v => ⟨fun h => ?vector, fun h => ?config, fun p h => ?complete⟩⟩
  case swi => exact writes_of (exec_intcSwi_granted h) (mem_latched_intcSwi _ w)
  case pend => exact writes_of (exec_intcPendClear_granted h) (mem_latched_pendClear _ j w v)
  case vector => exact writes_of (exec_intcSourceCfgWrite_granted (vec := true) h) (srcCfgWrite_vec_reg _ n v)
  case config =>
    exact writes_of (exec_intcSourceCfgWrite_granted (vec := false) h)
      ⟨srcCfgWrite_prio _ n v, srcCfgWrite_enable _ n v, srcCfgWrite_target _ n v⟩
  case complete => exact writes_of (exec_intcComplete_granted h) (intcComplete_cases _ p n)

end Sys2Proof.Machine

/-!
PROOFS. Forced and software faults (R453 to R455) and the monitors (R457 to R460): what a granted write of a force register, of FCOL_SWF
and of a monitor's command and configuration registers comes to, the bin of a sample, and what a snapshot, a clear and a configuration
leave in a monitor's live values and registers.
-/

namespace Sys2Proof.Machine

/-! ## Forced and software faults (R453 to R455) -/

theorem wrote_congr {s : State} {t : Nat} {who : Initiator} {f g : Dev → Dev}
    (h : f (s.dev.access (s.clock t) who) = g (s.dev.access (s.clock t) who)) : s.wrote t who f = s.wrote t who g := by
  unfold State.wrote
  rw [h]

/-- The message that a force bit of source n sends, as FCOL_FINJ describes it (R454). -/
def Dev.forcedMsg (d : Dev) (n : Nat) : FMsg :=
  { src := n, kind := d.get F.FCOL_FINJ_KIND, cls := d.get F.FCOL_FINJ_CLASS, detail := d.get F.FCOL_FINJ_DETAIL,
    arg := 0xFFFFFFFF, forced := true }

theorem faultForce_open {d : Dev} (h : d.mode = 4 ∨ d.mode = 9) (pg n : Nat) : d.faultForce pg n = d.report (d.forcedMsg n) :=
  if_pos h

theorem faultForce_closed {d : Dev} (h : ¬ (d.mode = 4 ∨ d.mode = 9)) (pg n : Nat) : d.faultForce pg n = d.rep pg 0x01 0 :=
  if_neg h

/-- An access leaves the mode, so the mode before the command decides whether its force bit sends. -/
theorem wrote_faultForce_open {s : State} (h : s.dev.mode = 4 ∨ s.dev.mode = 9) (t : Nat) (who : Initiator) (pg n : Nat) :
    s.wrote t who (·.faultForce pg n) = s.wrote t who (fun d => d.report (d.forcedMsg n)) :=
  wrote_congr (faultForce_open (by rwa [access_mode]) pg n)

theorem wrote_faultForce_closed {s : State} (h : ¬ (s.dev.mode = 4 ∨ s.dev.mode = 9)) (t : Nat) (who : Initiator) (pg n : Nat) :
    s.wrote t who (·.faultForce pg n) = s.wrote t who (·.rep pg 0x01 0) :=
  wrote_congr (faultForce_closed (by rwa [access_mode]) pg n)

theorem bitList_one : ∀ k : Fin 32, bitList (1#32 <<< k.val) = [k.val] := by decide

theorem bit_ne_zero : ∀ k : Fin 32, 1#32 <<< k.val ≠ 0 := by decide

/-- A word with one bit of a force register forces that bit's source. -/
theorem forceWord_one (d : Dev) (j w : Nat) (k : Fin 32) :
    d.forceWord j w (1#32 <<< k.val) = d.faultForce (P.FFRC j) (256 * j + 32 * w + k) := by
  by_cases h : d.mode = 4 ∨ d.mode = 9
  · simp only [Dev.forceWord, if_pos h, bitList_one, List.foldl]
  · rw [faultForce_closed h, Dev.forceWord, if_neg h, if_neg (bit_ne_zero k), Dev.modeRefused]

theorem regAt_ffrc : ∀ (j : Fin 2) (w : Fin 8), regAt (R.FFRC_FRC j w) .ffrc j w = true := by decide
theorem regAt_swf : regAt R.FCOL_SWF .fcol 0 0 = true := by decide

theorem blockWrite_ffrc (d : Dev) (now : Nat) (who : Initiator) (j : Fin 2) (w : Fin 8) (row : RRow) (v : Word) :
    d.blockWrite now who .ffrc j (R.FFRC_FRC j w) row w v = d.forceWord j w v := by
  have hoff : 0x40 ≤ R.FFRC_FRC j w % 0x1000 ∧ R.FFRC_FRC j w % 0x1000 < 0x60 := by unfold R.FFRC_FRC; omega
  exact if_pos hoff

theorem exec_faultForce_page_granted {t : Nat} {who : Initiator} {src : Fin 512} {s : State} (hsrc : src.val < 0xE3)
    (hpage : (pageInfo src).isSome = true) (h : Granted s who (R.PFFRC src)) :
    exec (.faultForce t who src true) s = .next (s.wrote t who (·.faultForce src src)) := by
  obtain ⟨⟨b, p⟩, hinfo⟩ := Option.isSome_iff_exists.1 hpage
  have hpg : pageOf (R.PFFRC src) = src := (common_addr src 0x20 (by omega) (by decide) (by decide) hpage).2.2.1
  obtain ⟨hrun, hmay⟩ := h
  rw [hpg] at hrun
  exact wrote_of (exec_faultForce t who src true s)
    (after_common s t who src 0x20 1 b p (by omega) (by decide) (by decide) hinfo (.inl hrun) hmay)

theorem exec_faultForce_word_granted {t : Nat} {who : Initiator} {src : Fin 512} {s : State}
    (h : Granted s who (R.FFRC_FRC (src / 256) (src % 256 / 32))) :
    exec (.faultForce t who src false) s = .next (s.wrote t who (·.faultForce (P.FFRC (src / 256)) src)) := by
  have hn : 256 * (src.val / 256) + 32 * (src.val % 256 / 32) + src.val % 32 = src.val := by omega
  have hpg : 0xB4 < pageOf (R.FFRC_FRC (src / 256) (src % 256 / 32)) := by unfold pageOf R.FFRC_FRC; omega
  let j : Fin 2 := ⟨src.val / 256, by omega⟩
  let w : Fin 8 := ⟨src.val % 256 / 32, by omega⟩
  refine wrote_of (exec_faultForce t who src false s)
    (after_wr s t who _ _ .ffrc j w _ (regAt_ffrc j w) (.inr hpg) h fun row d _ => (blockWrite_ffrc d _ who j w row _).trans ?_)
  rw [forceWord_one d j w ⟨src.val % 32, by omega⟩, hn]

theorem exec_swFault_granted {t : Nat} {who : Initiator} {w : Word} {s : State} (h : Granted s who R.FCOL_SWF) :
    exec (.swFault t who w) s = .next (s.wrote t who (·.swFault w)) :=
  wrote_of (exec_swFault t who w s) (after_wr s t who _ _ .fcol 0 0 _ regAt_swf (.inr (by decide)) h fun _ _ _ => rfl)

/-! ## The bin of a sample (R458) -/

theorem floorDiv_two_pow (a : Int) (n : Nat) : floorDiv a (2 ^ n : Nat) = a / 2 ^ n := by
  rw [floorDiv, Int.fdiv_eq_ediv_of_nonneg _ (Int.natCast_nonneg _), Int.natCast_pow]
  rfl

/-- The width of a bin. -/
theorem binWidth_pos (n : Nat) : (0 : Int) < 2 ^ n := Int.pow_pos (by decide)

theorem clampI_of_lt {v a : Int} (h : v < a) (b : Int) : clampI v a b = a := if_pos h

theorem clampI_of_gt {v a b : Int} (ha : a ≤ v) (h : b < v) : clampI v a b = b := by
  rw [clampI, if_neg (by omega), if_pos h]

theorem clampI_of_mem {v a b : Int} (ha : a ≤ v) (hb : v ≤ b) : clampI v a b = v := by
  rw [clampI, if_neg (by omega), if_neg (by omega)]

theorem monBin_eq (v hb : Int) (n : Nat) : monBin v hb n = (clampI ((v - hb) / 2 ^ n) 0 31).toNat := by
  rw [monBin, floorDiv_two_pow]

theorem monBin_lt (v hb : Int) (n : Nat) : monBin v hb n < 32 := by
  unfold monBin clampI
  split
  · omega
  · split <;> omega

section
variable {v hb : Int} {n : Nat}

theorem monBin_below (h : v < hb) : monBin v hb n = 0 := by
  have hneg : (v - hb) / 2 ^ n < 0 := Int.ediv_neg_of_neg_of_pos (by omega) (binWidth_pos n)
  rw [monBin_eq, clampI_of_lt hneg, Int.toNat_zero]

theorem monBin_above (h : hb + 32 * 2 ^ n ≤ v) : monBin v hb n = 31 := by
  have h32 : 32 ≤ (v - hb) / 2 ^ n := (Int.le_ediv_iff_mul_le (binWidth_pos n)).2 (by omega)
  rw [monBin_eq, clampI_of_gt (by omega) (by omega)]
  rfl

/-- Inside the range the bin of a sample is the step of 2^SHIFT above HBASE that holds it. -/
theorem monBin_within (h : hb ≤ v) (h' : v < hb + 32 * 2 ^ n) :
    hb + (monBin v hb n : Int) * 2 ^ n ≤ v ∧ v < hb + ((monBin v hb n : Int) + 1) * 2 ^ n := by
  have hw := binWidth_pos n
  have h0 : 0 ≤ (v - hb) / 2 ^ n := Int.ediv_nonneg (by omega) (Int.le_of_lt hw)
  have h32 : (v - hb) / 2 ^ n < 32 := Int.ediv_lt_of_lt_mul hw (by omega)
  have hfloor : (v - hb) / 2 ^ n * 2 ^ n ≤ v - hb := Int.ediv_mul_le _ (Int.ne_of_gt hw)
  have hnext : v - hb < ((v - hb) / 2 ^ n + 1) * 2 ^ n := Int.lt_ediv_add_one_mul_self _ hw
  rw [monBin_eq, clampI_of_mem h0 (by omega), Int.toNat_of_nonneg h0]
  omega

end

theorem mon_setMon (d : Dev) {m : Nat} (x : Mon) (hm : m < 16) : (d.setMon m x).mon m = x := by
  unfold Dev.mon Dev.setMon
  rw [vGet_vSet _ _ _ _ hm, if_pos rfl]

/-- A sample adds one to its bin, up to the last count the bin can show, and leaves the others. -/
theorem monStore_bins (d : Dev) (now p : Nat) {m : Nat} (v : Int) (hm : m < 16) (j : Nat) :
    smGetD ((d.monStore now m p v).mon m).bins j 0 =
      if j = monBin v (monWord p (d.reg (R.MON_HBASE m))) (d.get (F.MON_CFG_SHIFT m)) then min (smGetD (d.mon m).bins j 0 + 1) 0xFFFFFFFF
      else smGetD (d.mon m).bins j 0 := by
  unfold Dev.monStore
  simp only [mon_setMon _ _ hm, smGetD_smPut]
  split
  · next h => rw [h]
  · rfl

/-! ## The registers of a monitor -/

/-- The register of monitor m at offset o of its half page. -/
def monReg (m o : Nat) : Nat := 0x400D8000 + 0x1000 * (m / 2) + 0x100 * (m % 2) + o

theorem monReg_inj (m o o' : Nat) : monReg m o = monReg m o' ↔ o = o' := by unfold monReg; omega

theorem monCfg_addr (m : Nat) : R.MON_CFG m = monReg m 0x100 := by unfold R.MON_CFG monReg; omega
theorem monHbase_addr (m : Nat) : R.MON_HBASE m = monReg m 0x104 := by unfold R.MON_HBASE monReg; omega
theorem monCtl_addr (m : Nat) : R.MON_CTL m = monReg m 0x110 := by unfold R.MON_CTL monReg; omega
theorem monStat_addr (m : Nat) : R.MON_STAT m = monReg m 0x114 := by unfold R.MON_STAT monReg; omega
theorem monBeyond_addr (m : Nat) : R.MON_BEYOND m = monReg m 0x118 := by unfold R.MON_BEYOND monReg; omega
theorem monSnapCnt_addr (m : Nat) : R.MON_SNAP_CNT m = monReg m 0x120 := by unfold R.MON_SNAP_CNT monReg; omega
theorem monSnapSumLo_addr (m : Nat) : R.MON_SNAP_SUM_LO m = monReg m 0x128 := by unfold R.MON_SNAP_SUM_LO monReg; omega
theorem monSnapSumHi_addr (m : Nat) : R.MON_SNAP_SUM_HI m = monReg m 0x12C := by unfold R.MON_SNAP_SUM_HI monReg; omega
theorem monSnapMin_addr (m : Nat) : R.MON_SNAP_MIN m = monReg m 0x130 := by unfold R.MON_SNAP_MIN monReg; omega
theorem monSnapMax_addr (m : Nat) : R.MON_SNAP_MAX m = monReg m 0x134 := by unfold R.MON_SNAP_MAX monReg; omega
theorem monSnapTsLo_addr (m : Nat) : R.MON_SNAP_TS_LO m = monReg m 0x138 := by unfold R.MON_SNAP_TS_LO monReg; omega
theorem monSnapTsHi_addr (m : Nat) : R.MON_SNAP_TS_HI m = monReg m 0x13C := by unfold R.MON_SNAP_TS_HI monReg; omega
theorem monSnapBin_addr (m b : Nat) : R.MON_SNAP_BIN m b = monReg m (0x180 + 4 * b) := by unfold R.MON_SNAP_BIN monReg; omega

/-! ## Registers written one after another -/

section
variable {A : Nat → Nat} (w : Nat → Word)

theorem reg_foldl_setReg_ne {a : Nat} {l : List Nat} (h : ∀ b ∈ l, a ≠ A b) (d : Dev) :
    (l.foldl (fun (d : Dev) b => d.setReg (A b) (w b)) d).reg a = d.reg a := by
  induction l generalizing d with
  | nil => rfl
  | cons b l ih =>
    rw [List.foldl_cons, ih (fun c hc => h c (List.mem_cons_of_mem _ hc)), reg_setReg_ne _ _ (h b (List.mem_cons_self ..))]

theorem reg_foldl_setReg_mem (hA : Function.Injective A) {b : Nat} {l : List Nat} (hb : b ∈ l) (d : Dev) :
    (l.foldl (fun (d : Dev) b => d.setReg (A b) (w b)) d).reg (A b) = w b := by
  induction l generalizing d with
  | nil => cases hb
  | cons c l ih =>
    rw [List.foldl_cons]
    by_cases hl : b ∈ l
    · exact ih hl _
    · obtain rfl := (List.mem_cons.1 hb).resolve_right hl
      rw [reg_foldl_setReg_ne w (a := A b) (fun c hc he => hl (hA he ▸ hc)), reg_setReg_same]

theorem foldl_setReg_mons (l : List Nat) (d : Dev) : (l.foldl (fun (d : Dev) b => d.setReg (A b) (w b)) d).mons = d.mons := by
  induction l generalizing d with
  | nil => rfl
  | cons b l ih => rw [List.foldl_cons, ih, setReg_mons]

end

theorem getLH_setLH (d : Dev) {lo hi : Nat} (h : lo ≠ hi) (v : Nat) : (d.setLH lo hi v).getLH lo hi = v % 2 ^ 64 := by
  unfold Dev.getLH Dev.setLH lo32 hi32
  rw [reg_setReg_ne _ _ h, reg_setReg_same, reg_setReg_same, BitVec.toNat_ofNat, BitVec.toNat_ofNat]
  omega

theorem reg_setLH_ne (d : Dev) {lo hi a : Nat} (hlo : a ≠ lo) (hhi : a ≠ hi) (v : Nat) : (d.setLH lo hi v).reg a = d.reg a := by
  unfold Dev.setLH
  rw [reg_setReg_ne _ _ hhi, reg_setReg_ne _ _ hlo]

theorem getLH_congr {d e : Dev} {lo hi : Nat} (hlo : d.reg lo = e.reg lo) (hhi : d.reg hi = e.reg hi) : d.getLH lo hi = e.getLH lo hi := by
  unfold Dev.getLH
  rw [hlo, hhi]

theorem bitsOf_lt (i : Int) (n : Nat) : bitsOf i n < 2 ^ n := by
  have hpos : (0 : Int) < (2 ^ n : Nat) := Int.natCast_pos.2 (Nat.two_pow_pos n)
  have hlt := Int.emod_lt_of_pos i hpos
  have hnonneg := Int.emod_nonneg i (Int.ne_of_gt hpos)
  unfold bitsOf
  omega

/-! ## Snapshots (R459) -/

/-- The snapshot registers of monitor m in `d` hold the live values that it has in `e`, taken at `now`. -/
def Snapped (now m : Nat) (e d : Dev) : Prop :=
  let x := e.mon m
  d.reg (R.MON_SNAP_CNT m) = w32 x.cnt ∧ d.getLH (R.MON_SNAP_SUM_LO m) (R.MON_SNAP_SUM_HI m) = bitsOf x.sum 64 ∧
    (∀ v, x.min = some v → d.reg (R.MON_SNAP_MIN m) = w32 (bitsOf v 32)) ∧ (∀ v, x.max = some v → d.reg (R.MON_SNAP_MAX m) = w32 (bitsOf v 32)) ∧
    (∀ b : Fin 32, d.reg (R.MON_SNAP_BIN m b) = w32 (smGetD x.bins b 0)) ∧
    d.getLH (R.MON_SNAP_TS_LO m) (R.MON_SNAP_TS_HI m) = now % 2 ^ 64 ∧ d.flag (F.MON_STAT_SNAPV m) = true

/-- The count, the sum and the extremes of `x` in their snapshot registers, `sg` telling the extremes of a monitor without samples. -/
def Dev.snapHead (d : Dev) (m : Nat) (x : Mon) (sg : Bool) : Dev :=
  (((d.setReg (R.MON_SNAP_CNT m) (w32 x.cnt)).setLH (R.MON_SNAP_SUM_LO m) (R.MON_SNAP_SUM_HI m) (bitsOf x.sum 64)).setReg
    (R.MON_SNAP_MIN m) (w32 (bitsOf (x.min.getD (if sg then 0x7FFFFFFF else 0xFFFFFFFF)) 32))).setReg
      (R.MON_SNAP_MAX m) (w32 (bitsOf (x.max.getD (if sg then -0x80000000 else 0)) 32))

/-- The bins of `x` in their snapshot registers. -/
def Dev.snapBins (d : Dev) (m : Nat) (x : Mon) : Dev :=
  (List.range 32).foldl (fun (d : Dev) b => d.setReg (R.MON_SNAP_BIN m b) (w32 (smGetD x.bins b 0))) d

theorem monSnap_parts (d : Dev) (now m : Nat) :
    d.monSnap now m = (((d.snapHead m (d.mon m) (d.flag (F.MON_CFG_SIGNED m))).snapBins m (d.mon m)).setLH
      (R.MON_SNAP_TS_LO m) (R.MON_SNAP_TS_HI m) now).put (F.MON_STAT_SNAPV m) true := rfl

theorem snapBins_reg_ne (d : Dev) (m o : Nat) (x : Mon) (h : o < 0x180) : (d.snapBins m x).reg (monReg m o) = d.reg (monReg m o) := by
  refine reg_foldl_setReg_ne _ (fun b _ => ?_) d
  rw [monSnapBin_addr, Ne, monReg_inj]
  omega

theorem monSnapBin_injective (m : Nat) : Function.Injective (R.MON_SNAP_BIN m) := by
  intro b c h
  rw [monSnapBin_addr, monSnapBin_addr, monReg_inj] at h
  omega

theorem snapBins_reg_bin (d : Dev) (m : Nat) (x : Mon) (b : Fin 32) :
    (d.snapBins m x).reg (R.MON_SNAP_BIN m b) = w32 (smGetD x.bins b 0) :=
  reg_foldl_setReg_mem _ (monSnapBin_injective m) (List.mem_range.2 b.isLt) d

/-- The time and SNAPV are written last, at offsets 0x138, 0x13C and 0x114: the registers elsewhere keep what came before. -/
theorem monSnap_reg (d : Dev) (now m o : Nat) (h : o ≠ 0x114 ∧ o ≠ 0x138 ∧ o ≠ 0x13C) :
    (d.monSnap now m).reg (monReg m o) =
      ((d.snapHead m (d.mon m) (d.flag (F.MON_CFG_SIGNED m))).snapBins m (d.mon m)).reg (monReg m o) := by
  obtain ⟨hstat, hlo, hhi⟩ := h
  rw [monSnap_parts, reg_put_ne, reg_setLH_ne]
  · rwa [monSnapTsLo_addr, Ne, monReg_inj]
  · rwa [monSnapTsHi_addr, Ne, monReg_inj]
  · rwa [F.MON_STAT_SNAPV, monStat_addr, Ne, monReg_inj]

/-- A snapshot register below the bins but for the time holds what `snapHead` puts there. -/
theorem monSnap_reg_head (d : Dev) (now m o : Nat) (h : 0x118 ≤ o ∧ o < 0x138) :
    (d.monSnap now m).reg (monReg m o) = (d.snapHead m (d.mon m) (d.flag (F.MON_CFG_SIGNED m))).reg (monReg m o) := by
  rw [monSnap_reg _ _ _ _ (by omega), snapBins_reg_ne _ _ _ _ (by omega)]

theorem setLH_mons (d : Dev) (lo hi v : Nat) : (d.setLH lo hi v).mons = d.mons := by rw [Dev.setLH, setReg_mons, setReg_mons]

theorem snapHead_mons (d : Dev) (m : Nat) (x : Mon) (sg : Bool) : (d.snapHead m x sg).mons = d.mons := by
  rw [Dev.snapHead, setReg_mons, setReg_mons, setLH_mons, setReg_mons]

theorem monSnap_mons (d : Dev) (now m : Nat) : (d.monSnap now m).mons = d.mons := by
  rw [monSnap_parts, put_mons, setLH_mons, Dev.snapBins, foldl_setReg_mons, snapHead_mons]

theorem getLH_setReg_ne (d : Dev) {lo hi a : Nat} (w : Word) (hlo : lo ≠ a) (hhi : hi ≠ a) :
    (d.setReg a w).getLH lo hi = d.getLH lo hi :=
  getLH_congr (reg_setReg_ne d w hlo) (reg_setReg_ne d w hhi)

theorem monSnap_cnt (d : Dev) (now m : Nat) : (d.monSnap now m).reg (R.MON_SNAP_CNT m) = w32 (d.mon m).cnt := by
  rw [monSnapCnt_addr, monSnap_reg_head _ _ _ _ (by omega)]
  simp [Dev.snapHead, Dev.setLH, reg_setReg, monSnapCnt_addr, monSnapSumLo_addr, monSnapSumHi_addr, monSnapMin_addr, monSnapMax_addr,
    monReg_inj]

theorem monSnap_sum (d : Dev) (now m : Nat) :
    (d.monSnap now m).getLH (R.MON_SNAP_SUM_LO m) (R.MON_SNAP_SUM_HI m) = bitsOf (d.mon m).sum 64 := by
  rw [getLH_congr (e := d.snapHead m (d.mon m) (d.flag (F.MON_CFG_SIGNED m)))]
  · unfold Dev.snapHead
    rw [getLH_setReg_ne, getLH_setReg_ne, getLH_setLH, Nat.mod_eq_of_lt (bitsOf_lt _ 64)]
    all_goals simp [monSnapSumLo_addr, monSnapSumHi_addr, monSnapMin_addr, monSnapMax_addr, monReg_inj]
  · rw [monSnapSumLo_addr, monSnap_reg_head _ _ _ _ (by omega)]
  · rw [monSnapSumHi_addr, monSnap_reg_head _ _ _ _ (by omega)]

theorem monSnap_min {d : Dev} {m : Nat} {v : Int} (h : (d.mon m).min = some v) (now : Nat) :
    (d.monSnap now m).reg (R.MON_SNAP_MIN m) = w32 (bitsOf v 32) := by
  rw [monSnapMin_addr, monSnap_reg_head _ _ _ _ (by omega)]
  simp [Dev.snapHead, reg_setReg, monSnapMin_addr, monSnapMax_addr, monReg_inj, h]

theorem monSnap_max {d : Dev} {m : Nat} {v : Int} (h : (d.mon m).max = some v) (now : Nat) :
    (d.monSnap now m).reg (R.MON_SNAP_MAX m) = w32 (bitsOf v 32) := by
  rw [monSnapMax_addr, monSnap_reg_head _ _ _ _ (by omega), ← monSnapMax_addr, Dev.snapHead, reg_setReg_same, h, Option.getD_some]

theorem monSnap_bin (d : Dev) (now m : Nat) (b : Fin 32) :
    (d.monSnap now m).reg (R.MON_SNAP_BIN m b) = w32 (smGetD (d.mon m).bins b 0) := by
  rw [monSnapBin_addr, monSnap_reg _ _ _ _ (by omega), ← monSnapBin_addr, snapBins_reg_bin]

theorem monSnap_time (d : Dev) (now m : Nat) :
    (d.monSnap now m).getLH (R.MON_SNAP_TS_LO m) (R.MON_SNAP_TS_HI m) = now % 2 ^ 64 := by
  have hlohi : R.MON_SNAP_TS_LO m ≠ R.MON_SNAP_TS_HI m := by simp [monSnapTsLo_addr, monSnapTsHi_addr, monReg_inj]
  have hlo : R.MON_SNAP_TS_LO m ≠ (F.MON_STAT_SNAPV m).addr := by simp [F.MON_STAT_SNAPV, monSnapTsLo_addr, monStat_addr, monReg_inj]
  have hhi : R.MON_SNAP_TS_HI m ≠ (F.MON_STAT_SNAPV m).addr := by simp [F.MON_STAT_SNAPV, monSnapTsHi_addr, monStat_addr, monReg_inj]
  rw [monSnap_parts, Dev.put, Dev.set, getLH_setReg_ne _ _ hlo hhi, getLH_setLH _ hlohi]

theorem monSnap_snapv (d : Dev) (now m : Nat) : (d.monSnap now m).flag (F.MON_STAT_SNAPV m) = true :=
  flag_put_same _ _ true (by simp [F.MON_STAT_SNAPV]) (by simp [F.MON_STAT_SNAPV])

theorem monSnap_snapped (d : Dev) (now m : Nat) : Snapped now m d (d.monSnap now m) :=
  ⟨monSnap_cnt d now m, monSnap_sum d now m, fun _ hv => monSnap_min hv now, fun _ hv => monSnap_max hv now, monSnap_bin d now m,
    monSnap_time d now m, monSnap_snapv d now m⟩

/-! ## Live values emptied (R459, R460) -/

/-- The live values of monitor m are those before any sample. -/
def LiveEmpty (m : Nat) (d : Dev) : Prop :=
  let x := d.mon m
  x.cnt = 0 ∧ x.sum = 0 ∧ x.bins = [] ∧ x.min = none ∧ x.max = none ∧ d.get (F.MON_BEYOND_BEYOND m) = 0 ∧ d.flag (F.MON_STAT_FULL m) = false

theorem monEmpty_mon (d : Dev) {m : Nat} (hm : m < 16) : (d.monEmpty m).mon m = { busyUntil := (d.mon m).busyUntil } :=
  mon_setMon d _ hm

theorem monEmpty_beyond (d : Dev) (m : Nat) : (d.monEmpty m).get (F.MON_BEYOND_BEYOND m) = 0 := by
  have hne : (F.MON_BEYOND_BEYOND m).addr ≠ (F.MON_STAT_FULL m).addr := by
    simp [F.MON_BEYOND_BEYOND, F.MON_STAT_FULL, monBeyond_addr, monStat_addr, monReg_inj]
  rw [Dev.monEmpty, Dev.put, get_set_ne _ _ _ _ (.inl hne), get_set_same _ _ _ (by simp [F.MON_BEYOND_BEYOND]), Nat.zero_mod]

theorem monEmpty_full (d : Dev) (m : Nat) : (d.monEmpty m).flag (F.MON_STAT_FULL m) = false :=
  flag_put_same _ _ false (by simp [F.MON_STAT_FULL]) (by simp [F.MON_STAT_FULL])

theorem monEmpty_empty (d : Dev) {m : Nat} (hm : m < 16) : LiveEmpty m (d.monEmpty m) := by
  unfold LiveEmpty
  rw [monEmpty_mon d hm]
  exact ⟨rfl, rfl, rfl, rfl, rfl, monEmpty_beyond d m, monEmpty_full d m⟩

theorem monEmpty_reg (d : Dev) {m o : Nat} (h : o ≠ 0x114 ∧ o ≠ 0x118) : (d.monEmpty m).reg (monReg m o) = d.reg (monReg m o) := by
  obtain ⟨hstat, hbeyond⟩ := h
  rw [Dev.monEmpty, reg_put_ne, reg_set_ne]
  · rfl
  · rwa [F.MON_BEYOND_BEYOND, monBeyond_addr, Ne, monReg_inj]
  · rwa [F.MON_STAT_FULL, monStat_addr, Ne, monReg_inj]

theorem monEmpty_snapv (d : Dev) (m : Nat) : (d.monEmpty m).flag (F.MON_STAT_SNAPV m) = d.flag (F.MON_STAT_SNAPV m) := by
  have hne : (F.MON_STAT_SNAPV m).addr ≠ (F.MON_BEYOND_BEYOND m).addr := by
    simp [F.MON_BEYOND_BEYOND, F.MON_STAT_SNAPV, monBeyond_addr, monStat_addr, monReg_inj]
  have hbits : (F.MON_STAT_FULL m).hi < (F.MON_STAT_SNAPV m).lo ∧ (F.MON_STAT_SNAPV m).hi < 32 := by simp [F.MON_STAT_FULL, F.MON_STAT_SNAPV]
  unfold Dev.flag
  rw [Dev.monEmpty, Dev.put, get_set_ne _ _ _ _ (.inr ⟨.inl hbits.1, hbits.2⟩), get_set_ne _ _ _ _ (.inl hne)]
  rfl

/-- Emptying the live values leaves the snapshot. -/
theorem Snapped.monEmpty {now m : Nat} {e d : Dev} (h : Snapped now m e d) : Snapped now m e (d.monEmpty m) := by
  obtain ⟨hcnt, hsum, hmin, hmax, hbins, htime, hsnapv⟩ := h
  have hreg : ∀ o, 0x120 ≤ o → (d.monEmpty m).reg (monReg m o) = d.reg (monReg m o) := fun o ho => monEmpty_reg d (by omega)
  simp only [Snapped, Dev.getLH, monSnapCnt_addr, monSnapSumLo_addr, monSnapSumHi_addr, monSnapMin_addr, monSnapMax_addr,
    monSnapTsLo_addr, monSnapTsHi_addr, monSnapBin_addr] at *
  rw [monEmpty_snapv]
  simp only [hreg, Nat.reduceLeDiff, Nat.le_add_right_of_le]
  exact ⟨hcnt, hsum, hmin, hmax, hbins, htime, hsnapv⟩

theorem monSnapClr_snapped (d : Dev) (now m : Nat) : Snapped now m d (d.monSnapClr now m) := (monSnap_snapped d now m).monEmpty

/-! ## Reports leave the monitors -/

@[simp] theorem bumpGen_mons (d : Dev) (pg : Nat) : (d.bumpGen pg).mons = d.mons := setReg_mons d _ _

@[simp] theorem incSat_mons (d : Dev) (f : Fld) : (d.incSat f).mons = d.mons := by
  unfold Dev.incSat
  split
  · exact set_mons d f _
  · rfl

@[simp] theorem present_mons (d : Dev) (h : Nat) : (d.present h).mons = d.mons := by
  unfold Dev.present; simp [apply_ite Dev.mons]

@[simp] theorem irq_mons (d : Dev) (pg i : Nat) : (d.irq pg i).mons = d.mons := by
  simp [Dev.irq, Dev.irqBits, Dev.intcRefresh, Dev.fabSend]

@[simp] theorem sendMsg_mons (d : Dev) (m : FMsg) : (d.sendMsg m).mons = d.mons := by
  unfold Dev.sendMsg
  dsimp only
  split
  · exact setReg_mons _ _ _
  · rfl

@[simp] theorem report_mons (d : Dev) (m : FMsg) : (d.report m).mons = d.mons := by
  unfold Dev.report
  simp [apply_ite Dev.mons]

/-! ## The configuration of a monitor (R460) -/

theorem monCfg_ne_pgen (m : Nat) : R.MON_CFG m ≠ R.PGEN (P.MON (m / 2)) := by unfold R.MON_CFG R.PGEN P.MON; omega

/-- While EN is 1 a written configuration word changes EN alone. -/
theorem monCfg_enabled_reg {d : Dev} {m : Nat} (h : d.flag (F.MON_CFG_EN m) = true) (w : Word) :
    (d.monCfg m w).reg (R.MON_CFG m) = wordSet (d.reg (R.MON_CFG m)) 31 31 (w.getLsbD 31).toNat := by
  have hrep : ¬ reportReach (P.MON (m / 2)) (R.MON_CFG m) := by
    unfold reportReach R.MON_CFG R.PFLT R.FCOL_CNT_C R.PIRQ R.INTC_CNT P.MON P.FCOL; omega
  have hput : ((d.put (F.MON_CFG_EN m) (w.getLsbD 31)).bumpGen (P.MON (m / 2))).reg (R.MON_CFG m) =
      wordSet (d.reg (R.MON_CFG m)) 31 31 (w.getLsbD 31).toNat :=
    (reg_setReg_ne _ _ (monCfg_ne_pgen m)).trans (reg_setReg_same _ _ _)
  unfold Dev.monCfg
  rw [if_pos h]
  split
  · exact hput
  · exact (report_reg _ _ _ hrep).trans hput

theorem monCfg_enabled_mons {d : Dev} {m : Nat} (h : d.flag (F.MON_CFG_EN m) = true) (w : Word) : (d.monCfg m w).mons = d.mons := by
  unfold Dev.monCfg
  rw [if_pos h]
  dsimp only
  split
  · rw [bumpGen_mons, put_mons]
  · rw [Dev.cfgBusy, Dev.rep, report_mons, bumpGen_mons, put_mons]

/-- The configuration word of a monitor that was off: the written one, with SIGNED as the probe is. -/
theorem monCfg_disabled_reg {d : Dev} {m : Nat} (h : ¬ d.flag (F.MON_CFG_EN m) = true) (w : Word) :
    (d.monCfg m w).reg (R.MON_CFG m) = wordSet (wordSet w 30 21 0) 30 30 (probeSigned (wordGet w 7 0)).toNat := by
  have hput : (((d.setReg (R.MON_CFG m) (wordSet w 30 21 0)).put (F.MON_CFG_SIGNED m) (probeSigned (wordGet w 7 0))).bumpGen
      (P.MON (m / 2))).reg (R.MON_CFG m) = wordSet (wordSet w 30 21 0) 30 30 (probeSigned (wordGet w 7 0)).toNat := by
    refine (reg_setReg_ne _ _ (monCfg_ne_pgen m)).trans ((reg_setReg_same _ _ _).trans ?_)
    exact congrArg (wordSet · 30 30 (probeSigned (wordGet w 7 0)).toNat) (reg_setReg_same _ _ _)
  unfold Dev.monCfg
  rw [if_neg h]
  dsimp only
  split
  · rw [monCfg_addr, monEmpty_reg _ (by omega), ← monCfg_addr]
    exact hput
  · exact hput

theorem monCfg_disabled_empty {d : Dev} {m : Nat} (hm : m < 16) (h : ¬ d.flag (F.MON_CFG_EN m) = true) {w : Word}
    (hw : w.getLsbD 31 = true) : LiveEmpty m (d.monCfg m w) := by
  unfold Dev.monCfg
  rw [if_neg h]
  dsimp only
  rw [if_pos hw]
  exact monEmpty_empty _ hm

theorem monCfg_cases (d : Dev) {m : Nat} (hm : m < 16) (w : Word) :
    if d.flag (F.MON_CFG_EN m) then
      (d.monCfg m w).flag (F.MON_CFG_EN m) = w.getLsbD 31 ∧
        wordGet ((d.monCfg m w).reg (R.MON_CFG m)) 20 0 = wordGet (d.reg (R.MON_CFG m)) 20 0 ∧ (d.monCfg m w).mons = d.mons
    else (d.monCfg m w).flag (F.MON_CFG_EN m) = w.getLsbD 31 ∧
      wordGet ((d.monCfg m w).reg (R.MON_CFG m)) 20 0 = wordGet w 20 0 ∧ (w.getLsbD 31 = true → LiveEmpty m (d.monCfg m w)) := by
  have hflag : (d.monCfg m w).flag (F.MON_CFG_EN m) = ((d.monCfg m w).reg (R.MON_CFG m)).getLsbD 31 := flag_bit _ _ 31
  rw [hflag]
  split
  · next h =>
    rw [monCfg_enabled_reg h]
    refine ⟨?_, wordGet_wordSet_ne _ _ _ _ _ _ (by omega) (by omega), monCfg_enabled_mons h w⟩
    rw [wordSet_getLsbD _ _ _ _ _ (by omega), if_pos (by omega)]
    cases w.getLsbD 31 <;> rfl
  · next h =>
    rw [monCfg_disabled_reg h]
    refine ⟨?_, ?_, monCfg_disabled_empty hm h⟩
    · rw [wordSet_getLsbD _ _ _ _ _ (by omega), if_neg (by omega), wordSet_getLsbD _ _ _ _ _ (by omega), if_neg (by omega)]
    · rw [wordGet_wordSet_ne _ _ _ _ _ _ (by omega) (by omega), wordGet_wordSet_ne _ _ _ _ _ _ (by omega) (by omega)]

/-! ## The commands of a monitor (R459, R460) -/

theorem regAt_monCfg : ∀ m : Fin 16, regAt (R.MON_CFG m) .mon (m / 2) (m % 2) = true := by decide
theorem regAt_monCtl : ∀ m : Fin 16, regAt (R.MON_CTL m) .mon (m / 2) (m % 2) = true := by decide
theorem keepMask_monCtl : ∀ m : Fin 16, keepMask (R.MON_CTL m) = ~~~7 := by decide

/-- The monitor that the address of its register names. -/
theorem monOf_monReg {m o : Nat} (h : 0x100 ≤ o ∧ o < 0x180) :
    2 * (m / 2) + (if monReg m o % 0x1000 < 0x200 then 0 else 1) = m := by
  unfold monReg
  split <;> omega

theorem blockWrite_monCfg (d : Dev) (now : Nat) (who : Initiator) (m i : Nat) (row : RRow) (v : Word) :
    d.blockWrite now who .mon (m / 2) (R.MON_CFG m) row i v = d.monCfg m v := by
  have hm : 2 * (m / 2) + (if R.MON_CFG m % 0x1000 < 0x200 then 0 else 1) = m := by
    rw [monCfg_addr]; exact monOf_monReg (by omega)
  simp only [Dev.blockWrite, Dev.writeMon, hm, if_true]

/-- The commands that the bits of a word written to MON_CTL give, in their order. -/
def Dev.monCommand (d : Dev) (now m : Nat) (v : Word) : Dev :=
  ((d.onBit v 0 (fun d => d.monSnap now m)).onBit v 1 (fun d => d.monSnapClr now m)).onBit v 2 (fun d => d.monEmpty m)

theorem blockWrite_monCtl (d : Dev) (now : Nat) (who : Initiator) (m i : Nat) (row : RRow) (v : Word) :
    d.blockWrite now who .mon (m / 2) (R.MON_CTL m) row i v = d.monCommand now m v := by
  have hm : 2 * (m / 2) + (if R.MON_CTL m % 0x1000 < 0x200 then 0 else 1) = m := by
    rw [monCtl_addr]; exact monOf_monReg (by omega)
  have hcfg : R.MON_CTL m ≠ R.MON_CFG m := by simp [monCtl_addr, monCfg_addr, monReg_inj]
  have hhb : R.MON_CTL m ≠ R.MON_HBASE m := by simp [monCtl_addr, monHbase_addr, monReg_inj]
  simp only [Dev.blockWrite, Dev.writeMon, hm, if_neg hcfg, if_neg hhb, if_true, Dev.monCommand]

/-- The fields that the word repeats give no command. -/
theorem monCommand_repeated (d : Dev) (now m : Nat) (x v : Word) : d.monCommand now m (x &&& ~~~7 ||| v) = d.monCommand now m v := by
  have h7 : ∀ i < 3, (~~~7 : Word).getLsbD i = false := by decide
  have hbit : ∀ i < 3, (x &&& ~~~7 ||| v).getLsbD i = v.getLsbD i := fun i hi => by
    rw [BitVec.getLsbD_or, BitVec.getLsbD_and, h7 i hi, Bool.and_false, Bool.false_or]
  simp only [Dev.monCommand, Dev.onBit, hbit 0 (by omega), hbit 1 (by omega), hbit 2 (by omega)]

/-- A granted command of a monitor, of the bit of its word. -/
theorem after_monCtl {t : Nat} {who : Initiator} {m : Fin 16} {v : Word} {s : State} (h : Granted s who (R.MON_CTL m)) :
    s.after t (s.dev.wrBits (s.clock t) who (R.MON_CTL m) v) = s.wrote t who (·.monCommand (s.clock t) m v) :=
  after_wrBits s t who _ _ _ .mon _ _ _ (regAt_monCtl m) (.inr (by unfold pageOf R.MON_CTL; omega)) (keepMask_monCtl m) h
    fun row d _ => (blockWrite_monCtl d _ who m _ row _).trans (monCommand_repeated d _ m _ v)

theorem exec_monSnap_granted {t : Nat} {who : Initiator} {m : Fin 16} {s : State} (h : Granted s who (R.MON_CTL m)) :
    exec (.monSnap t who m) s = .next (s.wrote t who (·.monSnap (s.clock t) m)) :=
  wrote_of (exec_monSnap t who m s) (after_monCtl h)

theorem exec_monSnapclr_granted {t : Nat} {who : Initiator} {m : Fin 16} {s : State} (h : Granted s who (R.MON_CTL m)) :
    exec (.monSnapclr t who m) s = .next (s.wrote t who (·.monSnapClr (s.clock t) m)) :=
  wrote_of (exec_monSnapclr t who m s) (after_monCtl h)

theorem exec_monClr_granted {t : Nat} {who : Initiator} {m : Fin 16} {s : State} (h : Granted s who (R.MON_CTL m)) :
    exec (.monClr t who m) s = .next (s.wrote t who (·.monEmpty m)) :=
  wrote_of (exec_monClr t who m s) (after_monCtl h)

theorem exec_monCfgWrite_granted {t : Nat} {who : Initiator} {m : Fin 16} {w : Word} {s : State} (h : Granted s who (R.MON_CFG m)) :
    exec (.monCfgWrite t who m w) s = .next (s.wrote t who (·.monCfg m w)) :=
  wrote_of (exec_monCfgWrite t who m w s)
    (after_wr s t who _ _ .mon _ _ _ (regAt_monCfg m) (.inr (by unfold pageOf R.MON_CFG; omega)) h
      fun row d _ => blockWrite_monCfg d _ who m _ row w)

/-! ## The obligation -/

/-- Settles O44: each command comes to its block write, whose effect the lemmas above give; a sample's bin is a floor. -/
theorem faultsAreForcedAndMonitorsRead : Obligations.FaultsAreForcedAndMonitorsRead := by
  refine ⟨fun t who src w s => ⟨fun hsrc hpage h => ⟨fun may => ?pageOpen, fun may => ?pageClosed⟩,
    fun h => ⟨fun may => ?wordOpen, fun may => ?wordClosed⟩, fun h => ⟨fun hcls => ?software, fun hcls => ?reserved⟩⟩,
    fun t who m w s => ⟨fun now v => ?bin, fun h => ⟨?snap, ?snapclr, ?clr⟩, fun h => ?config⟩⟩
  case pageOpen => exact (exec_faultForce_page_granted hsrc hpage h).trans (congrArg _ (wrote_faultForce_open may t who src src))
  case pageClosed => exact (exec_faultForce_page_granted hsrc hpage h).trans (congrArg _ (wrote_faultForce_closed may t who src src))
  case wordOpen => exact (exec_faultForce_word_granted h).trans (congrArg _ (wrote_faultForce_open may t who _ src))
  case wordClosed => exact (exec_faultForce_word_granted h).trans (congrArg _ (wrote_faultForce_closed may t who _ src))
  case software => exact (exec_swFault_granted h).trans (congrArg _ (wrote_congr (if_neg hcls)))
  case reserved => exact (exec_swFault_granted h).trans (congrArg _ (wrote_congr (if_pos hcls)))
  case bin => exact ⟨_, monBin_lt _ _ _, monBin_below, monBin_above, monBin_within, monStore_bins s.dev now _ v m.isLt⟩
  case snap => exact writes_of (exec_monSnap_granted h) ⟨monSnap_snapped _ _ m, monSnap_mons _ _ m⟩
  case snapclr => exact writes_of (exec_monSnapclr_granted h) ⟨monSnapClr_snapped _ _ m, monEmpty_empty _ m.isLt⟩
  case clr => exact writes_of (exec_monClr_granted h) (monEmpty_empty _ m.isLt)
  case config => exact writes_of (exec_monCfgWrite_granted h) (monCfg_cases _ m.isLt w)

end Sys2Proof.Machine
